-- ==== Sys2Proof/Word.lean ====
section
/-!
DEFINITION. The word types of the model: a byte as the links and the MRAM carry it (R8), a captured
timestamp (R43) and the facts that arrive from outside the module as plain records.
-/
namespace Sys2Proof

/-- One byte on a link, in a DOMAIN value or in an MRAM record (R8). -/
abbrev Byte := BitVec 8

/-- A hardware timestamp: the counter `c` (4 ns) and the interpolator phase `p` (0.25 ns) (R43). -/
structure Stamp where
  c : BitVec 64
  p : Fin 16
  deriving DecidableEq, Repr

end Sys2Proof
end

