-- ==== Sys2Proof/Syntax.lean ====
section
/-!
DEFINITION. The commands the block takes, one per row of the spec's table of operations and events
(opcode_table.json), with the facts each brings from outside as operands. A row that is a host write of one fixed
value ("a write of 1 to ...") has no value operand: any other value is refused where the write is checked (R368).
Marks (notes/assumptions): DEDUCED 4; DESIGN CHOICE 26.
-/
namespace Sys2Proof

/-- Where a message of the object protocol came in: the Ethernet session or the front service port (R360, R366). -/
inductive Channel where
  | eop
  | service
  deriving DecidableEq, Repr

/-- The header fields of a client's message that the module checks, and its tag (R357, R359). -/
structure MsgHead where
  chan : Channel
  sid : BitVec 32
  seq : BitVec 32
  tag : List Byte
  deriving DecidableEq, Repr

/-- A packet on the internal link: whether its CRC holds, and the window whose data it carried, if any (R17). -/
structure LinkPacket where
  good : Bool
  window : Option (Fin 6)
  deriving DecidableEq, Repr

/-- An object named in a message. -/
structure ObjRef where
  index : BitVec 16
  sub : BitVec 16
  deriving DecidableEq, Repr

/-- One item of a WRITE request (R367). -/
structure WriteItem where
  ref : ObjRef
  ty : BitVec 8
  value : List Byte
  deriving DecidableEq, Repr

/-- An IEEE 1588 Announce as best master selection reads it (R45). -/
structure Announce where
  identity : BitVec 64
  priority1 : BitVec 8
  clockClass : BitVec 8
  accuracy : BitVec 8
  variance : BitVec 16
  priority2 : BitVec 8
  stepsRemoved : BitVec 16
  utcOffset : BitVec 16
  domain : BitVec 8
  deriving DecidableEq, Repr

/-- What an enumeration learns of one unit (R80, R82): its 24-byte identity block, as the last IDENT brings it, and the round trip
of its PROBE, in 0.25 ns. -/
structure EnumUnit where
  block : List Byte
  rtt : BitVec 32
  deriving DecidableEq, Repr

/-- One conversion window of a channel's two converters, in counts of full scale / 2^23, two's complement (R103, R111). -/
structure ChanPair where
  a : BitVec 32
  b : BitVec 32
  deriving DecidableEq, Repr

/-- The windows of one frame of a channel's two converters, in the order of their centres S + j µs (R103). -/
structure ChanWindows where
  a : List (BitVec 32)
  b : List (BitVec 32)
  deriving DecidableEq, Repr

/-- What the excitations of a local thermal input gave in a frame (R249, R251), as binary32 words: the forward voltages
V1, V2, V3 of a diode in V, or the resistance of a thermistor in Ω. -/
structure TempReading where
  v1 : BitVec 32
  v2 : BitVec 32
  v3 : BitVec 32
  r : BitVec 32
  deriving DecidableEq, Repr

/-- What a run of the program's code wrote (R334, R337): region 1 data, 2 retained, 4 output image, an offset in it and the
bytes. -/
structure RegionWrite where
  region : Nat
  off : Nat
  bytes : List Byte
  deriving DecidableEq, Repr


/-- How an attempt of a transmit buffer ended (R395 to R397): acknowledged; arbitration lost; a bit error, of the collision type
or not; a stuff error, in the arbitration field or not; a form error; no acknowledgement, and no dominant bit seen during the error
flag. -/
inductive CanResult where
  | sent
  | arbitration
  | bit (collision : Bool)
  | stuff (inArbitration : Bool)
  | form
  | ack (quiet : Bool)
  deriving DecidableEq, Repr

/-- What a controller measures of an attempt: the transmitter delay in ns (R389), and how many further rises of TEC by 8 its error
and overload flags bring (R398). -/
structure CanMeasured where
  ns : BitVec 16
  more : BitVec 5
  deriving DecidableEq, Repr

/-- The status and the error byte of a SEG_ACK (R371). -/
structure AckStatus where
  code : BitVec 8
  error : BitVec 8
  deriving DecidableEq, Repr

/-- An error of a frame being received (R398). -/
inductive CanError where
  | bit
  | stuff
  | form
  | crc
  deriving DecidableEq, Repr

/-- The commands: one constructor per row of the table of operations and events. The operands are what the
outside world hands the block with the command. -/
inductive Instr where
  /-- R33: Clocktower raises the frame boundary when module time reaches a multiple of T_F, and staged changes take effect. -/
  | frameBoundary
  /-- R84: The Roundabout sequencer launches the SYNC edge on a ring ahead of S by the launch advance. -/
  | syncLaunch (ring : Fin 4)
  /-- R88: The sequencer sends READ on a ring at S + 2 µs to collect every unit's block. -/
  | ringSweep (ring : Fin 4)
  /-- R81: A ring frame returns to a port whole, and its blocks are checked and pushed into lanes 20 to 24. -/
  | ringFrameReceived (ring : Fin 4) (port : Fin 2) (bytes : List Byte) (violations : BitVec 16)
  /-- R94: An ABORT reaches a ring port during a sweep, and the sequencer reads from both ends at once. -/
  | ringAbortReceived (ring : Fin 4) (port : Fin 2)
  /-- R88: The ring timeout after the expected EOF expires without EOF, and a silent-loss recovery read is sent if budget remains. -/
  | ringTimeout (ring : Fin 4) (port : Fin 2)
  /-- R94: The ring sweep closes at the step-4 time, and unread cells carry the late mark. -/
  | sweepClose (ring : Fin 4)
  /-- R82: The module enumerates a ring with IDENT, PROBE and SETUP and matches it against the CM18 table. -/
  | ringEnumerate (ring : Fin 4) (intact : Bool) (east : List EnumUnit) (west : List EnumUnit) (portTime : BitVec 32)
  /-- R87: A host write of 1 to 0x3010+r:17 starts re-enumeration of the ring. -/
  | ringReenumerateWrite (ring : Fin 4)
  /-- R74: A ring port changes rate 4 µs after the RATE frame's EOF returns, or at the ring timeout. -/
  | ringPortRateChange (ring : Fin 4) (port : Fin 2)
  /-- R72: A host write of 1 to 0x3010+r:4 returns the ring to 40 Mbit/s at the next boundary and applies the shadow rate mode. -/
  | ringRateAcknowledge (ring : Fin 4)
  /-- R73: A write of 0x3010+r:1 takes effect, or goes to the shadow while an override holds. -/
  | ringRateModeWrite (ring : Fin 4) (v : BitVec 8)
  /-- R97: A ring PHY decodes FAULT, and Bollard stops the converter and drives the contactors off. -/
  | faultSymbolDecoded (ring : Fin 4) (port : Fin 2) (block : List Byte)
  /-- R99: The string-domain PHY detects a wake tone of 1 ms or more on an enabled port and powers up the host domain. -/
  | wakeToneDetected (ring : Fin 4) (port : Fin 2) (cause : BitVec 8)
  /-- R100: One frame in every 4,096 F in Park, the rings are woken with IDLE and read once. -/
  | parkActiveFrame
  /-- R17: A packet arrives on the internal isolated link, and a CRC failure discards and counts it. -/
  | internalLinkPacket (packet : LinkPacket)
  /-- R18: No valid packet for 100 µs makes the string domain release itself. -/
  | internalLinkLost
  /-- R338: AC3 assembles the input image of frame n in Plaza at S(n+1) + 5 µs. -/
  | inputImageAssembly (readings : List TempReading) (die : BitVec 16) (di mf : BitVec 8)
  /-- R334: AC0 releases the fast task on frame n's image. -/
  | fastTaskRelease
  /-- R37: AC1 releases a slow task at its period and phase. -/
  | slowTaskRelease (task : Fin 4)
  /-- R334: The background task starts a new pass when its previous pass ends. -/
  | backgroundPassStart
  /-- R334: A task run ends and its outputs are passed for the next output seal. -/
  | taskRunEnd (task : Fin 6) (writes : List RegionWrite)
  /-- R334: A background pass runs longer than 0xA020:2. -/
  | backgroundLong
  /-- R138: An estimator engine advances its cells by the model and applies scheduled voltage updates for a frame. -/
  | estimatorFrameWork (engine : Fin 4)
  /-- R34: AC3 closes the output vector of frame n and updates per-cell results. -/
  | outputSeal
  /-- R305: The ACTIVE card sends the mirror of frame n with the host command batch in step 10. -/
  | mirrorSend
  /-- R369: AC3 closes the batch of lane-41 writes at S + T_F − 20 µs and serialises them by rank. -/
  | writeBatchClose
  /-- R35: The output release unit applies frame n's outputs on every link at S(n+2) plus the offset. -/
  | outputRelease
  /-- R273: The guard core evaluates SLC, SLV, SLT and SDC on frame n by T_F + 50 µs. -/
  | guardVerdict (coils shorts : BitVec 4) (holdOk readbackOk oscOk : Bool)
  /-- R38: A supervised window misses its deadline and the overrun is counted. -/
  | frameOverrun (window : Fin 6) (engine : Fin 16) (use : BitVec 16)
  /-- R39: 64 consecutive frames without overrun clear bit 0 of 0x2004:0. -/
  | overrunConditionClear
  /-- R38: A write of 1 to 0x2113:0 clears the lane and budget counters. -/
  | clearBudgetCounters
  /-- R63: A producer stalled on a full WAIT lane resumes when an element is taken. -/
  | laneWaitResume (lane : Fin 48)
  /-- R66: AC2 examines the Alley mailbox every 10 µs and pushes a checked write into lane 41. -/
  | alleyMailboxPoll
  /-- R23: A write of 0x2001:0 is checked and requests a profile change at the next boundary. -/
  | requestedProfileWrite (v : BitVec 8)
  /-- R26: A write of 1 to 0x2005:0 leaves Guarded when no cause remains. -/
  | guardedRelease
  /-- R48: A PTP Sync (and follow-up) arrives on a port and θ is computed. -/
  | ptpSyncReceived (port : Fin 2) (master : BitVec 64) (domain : BitVec 8) (seq : BitVec 16) (ingress : Stamp) (origin : Int)
  /-- R45: An Announce arrives and best master selection and the UTC offset are updated. -/
  | ptpAnnounceReceived (port : Fin 2) (ann : Announce)
  /-- R45: A Pdelay_Req arrives and is answered in two-step mode. -/
  | pdelayReqReceived (port : Fin 2) (seq : BitVec 16) (ingress : Stamp) (egress : Stamp)
  /-- R48: A Pdelay response arrives and the port's mean link delay is computed. -/
  | pdelayRespReceived (port : Fin 2) (seq : BitVec 16) (ingress : Stamp) (turnaround : Int)
  /-- R48: A port sends its Pdelay_Req at the Pdelay interval. -/
  | pdelayReqSend (port : Fin 2) (egress : Stamp)
  /-- R50: The hardware servo takes θ from lane 26, runs its PI filter and applies the new rate. -/
  | servoTheta
  /-- R51: A Sync interval passes without θ and, after the holdover count, the servo enters HOLD. -/
  | syncIntervalTimeout (port : Fin 2)
  /-- R52: The holdover limit elapses and plant coherence is lost. -/
  | holdoverLimitExpiry
  /-- R56: A host step request in 0x2830:0 is applied in HOLD or held pending. -/
  | stepRequestWrite (v : BitVec 64)
  /-- R51: A write of 0x2821:0 forces HOLD or returns the servo to automatic. -/
  | servoModeWrite (v : BitVec 8)
  /-- R59: A PPS input rising edge is timestamped and monitored or fed to the servo. -/
  | ppsInputEdge (edge : Stamp)
  /-- R59: No valid PPS for 3 s ends the holdover aid. -/
  | ppsLossTimeout
  /-- R58: The PPS output rises on each whole TAI second when enabled. -/
  | ppsOutputEdge
  /-- R60: An armed comparator reaches its programmed edge time and drives its pulse. -/
  | comparatorEdge (k : Fin 8)
  /-- R60: A comparator pulse ends width nanoseconds after its leading edge. -/
  | comparatorPulseEnd (k : Fin 8)
  /-- R60: A write of 1 to 0x2850+k:7 arms the comparator after range checks. -/
  | comparatorArm (k : Fin 8)
  /-- R60: A write of 2 to 0x2850+k:7 disarms the comparator. -/
  | comparatorDisarm (k : Fin 8)
  /-- R104: The front end pushes a slot-grid loop sample into lane 13. -/
  | loopSamplePush (slot : Fin 16) (iS : ChanPair) (iH : ChanPair) (vS : ChanPair) (vL : ChanPair)
  /-- R105: At S(n+1) + 2 µs the front end pushes frame n's values into lanes 14 and 15. -/
  | frontEndFrameValues (iS : ChanWindows) (iH : ChanWindows) (vS : ChanWindows) (vL : ChanWindows)
  /-- R117: A write of 1 to :15 starts a divider calibration. -/
  | dividerCalStart (chan : Fin 2)
  /-- R117: A calibration run completes or fails its preconditions and sets the trim or is refused. -/
  | dividerCalComplete (chan : Fin 2)
  /-- R118: A write of 1 to :17 copies the proposed trim into the trim at the next boundary. -/
  | acceptProposedTrim (chan : Fin 2)
  /-- R119: A cross-check window of 4,096 qualifying frames closes and its residual is judged. -/
  | xcheckWindowClose (k : Fin 8)
  /-- R120: A write of 1 to 0x3460:2 requests a new injection baseline. -/
  | takeInjectionBaseline
  /-- R124: A write of false to a check's enable stops it and clears its state. -/
  | checkEnableWrite (k : Fin 8)
  /-- R128: The open-wire interval expires and an OWT cycle starts. -/
  | openWireCycle
  /-- R128: A write of 1 to 0x3830:2 starts an open-wire cycle on every ring. -/
  | openWireTestNow
  /-- R130: A cycle's result is taken from the selector 5 and 6 blocks and each tap is judged. -/
  | openWireResult (slot : Fin 40)
  /-- R147: A host write of 1 to 0x4012:4 schedules the requested rest window. -/
  | restWindowSchedule
  /-- R147: A host write of 2 to 0x4012:4 declines the rest window for 24 h. -/
  | restWindowDecline
  /-- R147: The 24 h decline ends and the request stands again. -/
  | restWindowDeclineExpiry
  /-- R147: The scheduled rest window ends and its result is set. -/
  | restWindowEnd
  /-- R145: An OCV table transfer ends and the table is checked and accepted or refused. -/
  | ocvTableLoad (set : Fin 4) (table : List Byte)
  /-- R151: Every 60 s a state block is committed to MRAM. -/
  | stateBlockWrite
  /-- R153: An authentication response block arrives and the record is verified or stored. -/
  | authResponse (ring : Fin 4) (block : List Byte)
  /-- R153: No authentication response within 16 F fails the attempt. -/
  | authTimeout (slot : Fin 40)
  /-- R154: Every 0x4030:8 s the module sends STORE to each present CM18. -/
  | recordStoreTimer
  /-- R158: A write of 1 to 0x4040:2 sets z_d = z for every cell at the next boundary while idle. -/
  | alignDispatch
  /-- R165: The current stays settled for the fit window after a step and the RC pairs are fitted. -/
  | rcFit
  /-- R163: HK takes a commit request from lane 43 and writes the record under the five steps. -/
  | nvCommit (readback : Bool)
  /-- R176: Every 225 s one slice of cell records is checkpointed to MRAM. -/
  | recordCheckpoint
  /-- R179: A write to 0x4410:0 empties one or every cell record at the next seal. -/
  | recordResetWrite (v : BitVec 16)
  /-- R182: Every 0x4600:5 s the module computes balancing metrics and bleed-to-go. -/
  | balanceTargets
  /-- R190: Avenue evaluates every loop due at a slot and delivers its output. -/
  | loopSample (slot : Fin 16)
  /-- R192: Lane 13's element for a slot has not arrived by 1.0 µs and no loop runs at the slot. -/
  | avenueSlotLate (slot : Fin 16)
  /-- R199: A write of 1 to 0x5100+L:18 commits shadow coefficients keeping states at the next sample. -/
  | coeffCommitKeep (loop : Fin 16)
  /-- R199: A write of 2 to 0x5100+L:18 commits shadow coefficients with output tracking at the next sample. -/
  | coeffCommitTrack (loop : Fin 16)
  /-- R198: A write of 1 to a loop flag bit clears it. -/
  | loopFlagsWrite (loop : Fin 16) (v : BitVec 16)
  /-- R198: A write of 1 to a section flag bit clears it. -/
  | sectionFlagsWrite (section_ : Fin 96) (v : BitVec 8)
  /-- R203: The fallback hold count expires and the loop takes its fallback set-point or safe output. -/
  | fallbackHoldExpiry (loop : Fin 16)
  /-- R208: A set-point input pushes its slot element into lane 18 or 19. -/
  | setpointInputSample (input : Fin 2) (slot : Fin 16) (raw : BitVec 32)
  /-- R208: A set-point input pulse edge passes the glitch filter and is timestamped and counted. -/
  | setpointPulseEdge (input : Fin 2) (rising : Bool) (at_ : BitVec 64)
  /-- R207: No pulse within the pulse timeout makes the input invalid. -/
  | setpointPulseTimeout (input : Fin 2)
  /-- R213: A write of 1 to 0x5480+L:11 releases a detector action and applies a pending commit. -/
  | detectorAcknowledge (loop : Fin 16)
  /-- R217: A write of 1 to 0x5400:15 starts injection in Service. -/
  | injectionStartNow
  /-- R217: A write of 1 to 0x5400:16 stops injection at the next slot. -/
  | injectionStop
  /-- R217: The scheduled injection start time arrives. -/
  | injectionScheduleStart
  /-- R217: The injection duration ends. -/
  | injectionDurationEnd
  /-- R218: A write of 1 to 0x5440:7 arms a tuning capture. -/
  | captureArm
  /-- R218: A write of 2 to 0x5440:7 disarms the capture. -/
  | captureDisarm
  /-- R218: A write of 3 to 0x5440:7 triggers the capture. -/
  | captureTrigger
  /-- R218: A capture fills its post-trigger samples and completes. -/
  | captureComplete
  /-- R219: A write of 1 to 0x5440:8 releases a held snapshot. -/
  | snapshotRelease
  /-- R221: A converter command frame leaves L17 at every slot. -/
  | converterCommandSend (slot : Fin 16)
  /-- R222: A converter response frame arrives and current and status enter lanes 16 and 17. -/
  | converterResponse (bytes : List Byte)
  /-- R225: A response has not arrived by the launch of slot j + 2 and is counted missing. -/
  | converterResponseMissing (slot : Fin 16)
  /-- R228: Sliproad evaluates every channel's plan at a slot and takes new targets. -/
  | sliproadUpdate (slot : Fin 16)
  /-- R236: A write of 1 to 0x5810+c:14 stops the channel. -/
  | sliproadStop (chan : Fin 4)
  /-- R236: A write of 2 to 0x5810+c:14 releases a host stop toward the stored target. -/
  | sliproadStopRelease (chan : Fin 4)
  /-- R237: A write of 1 to 0x5830+c:7 engages gearing at the next slot. -/
  | gearEngage (chan : Fin 2)
  /-- R237: A write of 2 to 0x5830+c:7 returns the channel to position mode. -/
  | gearDisengage (chan : Fin 2)
  /-- R242: A write of 1 to 0x5840+v:14 starts homing of a valve. -/
  | homeStart (valve : Fin 2)
  /-- R243: A valve end switch changes level, driving the homing state or stopping a homed valve. -/
  | endSwitchEdge (input : Fin 8) (level : Bool)
  /-- R243: The switch stays asserted for the qualification window and the valve is homed. -/
  | homeQualified (valve : Fin 2)
  /-- R243: Chatter outlasts the qualification timeout and homing fails. -/
  | homeQualifyTimeout (valve : Fin 2)
  /-- R245: After the standstill delay the driver lowers coil current to the hold percentage. -/
  | standstillDelayExpiry (valve : Fin 2)
  /-- R246: A stepper driver fault stops emission and sets the channel UNHOMED. -/
  | stepperFault (valve : Fin 2) (status : BitVec 4)
  /-- R258: The throttle message period expires and the message is sent again on CAN T. -/
  | throttleMessagePeriod
  /-- R260: Grace expires with the request not met and a thermal clamp is enforced. -/
  | throttleGraceExpiry
  /-- R259: |I_S| stays above I_thr for 1 s after the request was met and enforcement starts. -/
  | throttleOvercurrentTimeout
  /-- R257: Every cause stays below its limit for the clear time and the request clears. -/
  | throttleClearTime
  /-- R261: A write of 1 to 0x6050:10 in state 3 releases the clamp at the next boundary. -/
  | throttleAcknowledge
  /-- R262: A write of 1 to 0x6060:2 starts an orderly shutdown. -/
  | shutdownRequest
  /-- R262: P0 reaches 0 and command frames clear enable. -/
  | shutdownZeroReached
  /-- R262: Frame-mean current stays at rest for the confirmation count and the contactors open. -/
  | shutdownZeroConfirmed
  /-- R262: The contactor release time elapses and HK writes the state block, records and STORE. -/
  | shutdownFlush
  /-- R262: Step 4 ends or times out and SSI is commanded. -/
  | shutdownIsolate
  /-- R263: A shutdown step misses its deadline and SSI is commanded at once. -/
  | shutdownStepDeadline
  /-- R280: A Bollard comparator crosses its Hall or string-voltage threshold and trips class A. -/
  | bollardComparatorTrip (k : Fin 4) (value : BitVec 32)
  /-- R270: The partner trip line is asserted and Bollard latches cause 5. -/
  | partnerTripReceived
  /-- R269: The permit is missing, off frequency or the trip level undefined, and Bollard latches cause 6. -/
  | guardPermitLoss
  /-- R428: The string-domain supply falls below its limit and Bollard latches cause 7. -/
  | stringSupplyLow
  /-- R273: The current discrepancy lasts the discrepancy time and SLC is degraded. -/
  | slcDiscrepancyTimeout
  /-- R273: The degraded state lasts 0x6810:7 s and bit 17 trips. -/
  | slcDegradedTimeout
  /-- R274: A cell channel stays absent past the missing hold and bit 12 trips. -/
  | slvMissingHoldExpiry
  /-- R275: A CM18 has no valid temperature for the missing hold and bit 15 trips. -/
  | sltMissingHoldExpiry
  /-- R276: A host write of 0x6850:2 changes the direction in force at the next boundary. -/
  | sdcRequestWrite (v : BitVec 8)
  /-- R277: A write of 1 to 0x6860:1 requests safe string isolation. -/
  | ssiRequest
  /-- R280: Every 10 µs Bollard compares its threshold register CRC. -/
  | bollardCrcCheck (good : Bool)
  /-- R281: Every 8 h Bollard tests one comparator of each pair. -/
  | bollardSelfTest (comp : Fin 8) (pass : Bool)
  /-- R284: A write of 1 to 0x6880:1 starts the precharge closing sequence. -/
  | contactorClose
  /-- R284: A write of 0 to 0x6880:1 opens the contactors at the release instant. -/
  | contactorOpen
  /-- R284: A 50 ms closing-sequence step elapses and the next contactor closes. -/
  | contactorStepTimer
  /-- R284: |V_S − V_L| falls within the precharge difference and the main positive closes. -/
  | prechargeReached
  /-- R284: Precharge does not complete in time and every driver opens. -/
  | prechargeTimeout
  /-- R284: 200 ms after pull-in a coil drops to the economiser hold. -/
  | economiserHold (driver : Fin 4)
  /-- R285: Standby frames add up to 1 s without the link voltage diverging and a weld is suspected. -/
  | weldCheckTimeout
  /-- R285: A write of 1 to 0x6880:7 clears the weld bits. -/
  | weldAcknowledge
  /-- R286: SAFE_RST rises after debounce and its pulse starts being timed. -/
  | safeRstRise
  /-- R287: SAFE_RST falls; a valid pulse clears ended causes and starts the Bollard test. -/
  | safeRstReleaseEdge
  /-- R286: SAFE_RST is still high at 10 s and the safety state becomes RESET_BLOCKED. -/
  | safeRstStuck
  /-- R286: SAFE_RST has been low for 1 s without a break and the block ends. -/
  | safeRstUnstuck
  /-- R287: Bollard's reset self-test passes and the safety state returns to PERMIT. -/
  | resetTestComplete (failed : BitVec 8)
  /-- R289: A write of 1 to 0x6870:2 clears class B and C causes when enabled. -/
  | remoteReset
  /-- R290: DI3 turns off with the interlock enabled and bit 20 trips. -/
  | doorOpen
  /-- R291: A write of 0x6890:1 sets or changes the safety password. -/
  | safetyPasswordWrite (password : List Byte)
  /-- R303: Each card sends its heartbeat at S(n) + 2 µs when armed. -/
  | heartbeatSend
  /-- R303: A partner heartbeat arrives and is counted, compared and used for arbitration. -/
  | heartbeatReceived (lane : Fin 2) (bytes : List Byte)
  /-- R316: No heartbeat counts by S(n) + 10 µs, and after 2 frames the card takes over. -/
  | heartbeatMissing
  /-- R302: A Footbridge lane has 1 ms of symbol alignment and comes up. -/
  | footbridgeLaneUp (lane : Fin 2)
  /-- R302: A Footbridge lane loses alignment for 10 µs and goes down. -/
  | footbridgeLaneDown (lane : Fin 2)
  /-- R309: A mirror arrives, its corrections are applied and outputs compared. -/
  | mirrorReceived (lane0 lane1 : List Byte)
  /-- R309: No mirror arrives by the end of step 10. -/
  | mirrorMissing
  /-- R315: A write of 1 to 0x7005:0 makes a SUSPECT card SHADOW. -/
  | clearSuspect
  /-- R320: A write of 1 to 0x7003:0 requests a planned switchover. -/
  | switchoverRequest
  /-- R322: The start listen time ends and the card becomes ACTIVE or adopts. -/
  | startListenEnd
  /-- R323: The donor sends a bulk block through lane 47 within its rate. -/
  | pullBlockSend
  /-- R324: A pulled block arrives and is installed with later contributions. -/
  | pullBlockReceived (lane : Fin 2) (block : List Byte)
  /-- R325: The shadow run count completes and the card becomes STANDBY. -/
  | shadowRunComplete
  /-- R330: A staged program image transfer ends and the image is checked. -/
  | imageCheck (image : List Byte)
  /-- R331: The partner has installed every forwarded image block and the image is ready. -/
  | imageForwardComplete
  /-- R331: A write of 1 to 0xA011:3 in state 5 activates the image at the next boundary. -/
  | imageActivate
  /-- R335: A write of 1 to 0xA000:1 warm-starts the program. -/
  | warmStart
  /-- R335: A write of 2 to 0xA000:1 cold-starts the program. -/
  | coldStart
  /-- R335: A write of 3 to 0xA000:1 stops the program. -/
  | programStop
  /-- R337: A task faults and every task stops in FAULT. -/
  | programTrap (task : Fin 6) (cause : BitVec 32) (pc : BitVec 32)
  /-- R337: A task calls the library for module time. -/
  | envCallModuleTime (task : Fin 6)
  /-- R337: A task calls the library for its release time. -/
  | envCallReleaseTime (task : Fin 6)
  /-- R337: A task calls the library for the frame number. -/
  | envCallFrameNumber (task : Fin 6)
  /-- R337: A task writes a user event 0x0C80 to 0x0CFF. -/
  | envCallUserEvent (task : Fin 6) (code : BitVec 32) (severity : BitVec 32) (data : List Byte)
  /-- R343: A CAN station receives no valid message within its timeout and becomes LOST. -/
  | stationReceiveTimeout (station : Fin 16)
  /-- R346: Every 1 s the retained region is checkpointed to MRAM. -/
  | retainedCheckpoint (complete : Bool)
  /-- R348: A write to a host-writable symbol is queued for the owner task's next release. -/
  | onlineChangeWrite (ref : ObjRef) (value : List Byte)
  /-- R349: A force set is requested through 0xA041:0. -/
  | forceSetRequest (ref : ObjRef) (value : BitVec 64)
  /-- R349: A force clear is requested through 0xA041:0. -/
  | forceClearRequest (ref : ObjRef)
  /-- R349: Clearing of all forces is requested through 0xA041:0. -/
  | forceClearAllRequest
  /-- R360: A HELLO starts a session handshake and is answered with CHALLENGE or REFUSE. -/
  | eopHello (chan : Channel) (addr : BitVec 32) (udp : BitVec 16) (seq : BitVec 32) (takeover : Bool) (nonce : List Byte) (client : List Byte)
  /-- R361: A PROOF is verified and the session opened with ACCEPT or refused. -/
  | eopProof (chan : Channel) (addr : BitVec 32) (seq : BitVec 32) (proof : List Byte)
  /-- R360: No verified PROOF within 2 s of CHALLENGE ends the handshake. -/
  | handshakeTimeout (chan : Channel)
  /-- R363: A KEEPALIVE is received and answered with time, role and safety state. -/
  | eopKeepalive (h : MsgHead)
  /-- R363: A CLOSE from the client ends the session. -/
  | eopClose (h : MsgHead) (reason : BitVec 8)
  /-- R363: No authenticated message for the keep-alive timeout ends the session. -/
  | keepaliveTimeout (chan : Channel)
  /-- R367: A READ request is answered item by item. -/
  | eopRead (h : MsgHead) (pendingView : Bool) (items : List ObjRef)
  /-- R368: A WRITE request's items are checked and placed in lane 41 or the pending set. -/
  | eopWrite (h : MsgHead) (items : List WriteItem)
  /-- R353: A DESCRIBE request returns object records. -/
  | eopDescribe (h : MsgHead) (items : List ObjRef)
  /-- R354: A serialised write to an object with no row of its own takes effect at the boundary. -/
  | objectWriteApply (ref : ObjRef)
  /-- R371: A SEG_INIT starts a segmented read or write of a DOMAIN object. -/
  | segInit (h : MsgHead) (tid : BitVec 8) (write : Bool) (ref : ObjRef) (len : BitVec 32) (crc : BitVec 32)
  /-- R372: A segment of a transfer arrives. -/
  | segData (h : MsgHead) (tid : BitVec 8) (offset : BitVec 32) (bytes : List Byte)
  /-- R372: An acknowledgement advances a transfer's window. -/
  | segAck (h : MsgHead) (tid : BitVec 8) (status : AckStatus) (window : BitVec 8) (received : BitVec 32)
  /-- R371: A transfer is aborted by its peer. -/
  | segAbort (h : MsgHead) (tid : BitVec 8) (reason : BitVec 8)
  /-- R372: 10 ms after the last unacknowledged segment the receiver acknowledges. -/
  | segAckTimer (chan : Channel) (tid : BitVec 8)
  /-- R372: No progress for 200 ms makes the sender resend from the acknowledged count. -/
  | segResendTimer (chan : Channel) (tid : BitVec 8)
  /-- R372: No progress for 5 s aborts the transfer. -/
  | segTransferTimeout (chan : Channel) (tid : BitVec 8)
  /-- R365: A SAFETY_OPEN is answered with a challenge or lockout result. -/
  | safetyOpen (h : MsgHead)
  /-- R365: A SAFETY_PROOF is verified and the safety session opened or failed. -/
  | safetyProof (h : MsgHead) (proof : List Byte)
  /-- R365: A SAFETY_CLOSE ends the safety session. -/
  | safetyClose (h : MsgHead)
  /-- R365: A safety session idles past 0x1211:1 and ends. -/
  | safetySessionTimeout (chan : Channel)
  /-- R364: A write of 0x1210:1 changes the pre-shared key from the next handshake. -/
  | preSharedKeyWrite (key : List Byte)
  /-- R374: A write of 1 to 0x2020:1 runs every commit check on the pending set. -/
  | configCommit
  /-- R373: A write of 2 to 0x2020:1 discards the pending set. -/
  | configDiscard
  /-- R375: The configuration record is written and committed values take effect together. -/
  | configCommitEffect (stored : Bool)
  /-- R366: The USB service port is attached. -/
  | servicePortAttach
  /-- R366: The USB service port is detached. -/
  | servicePortDetach
  /-- R379: An Ethernet frame arrives on a LAN and PRP duplicate discard is applied. -/
  | prpFrameReceived (lan : Fin 2) (src : BitVec 48) (trailer : Bool) (lanId : BitVec 4) (seq : BitVec 16)
  /-- R379: A PRP supervision frame is sent every life-check interval. -/
  | prpSupervisionSend
  /-- R380: A LAN loses link or receives nothing for 3 life-check intervals and goes down. -/
  | prpLanTimeout (lan : Fin 2) (noLink : Bool)
  /-- R379: A node table entry is forgotten after the node forget time. -/
  | prpNodeForget (src : BitVec 48)
  /-- R356: An ARP request is answered. -/
  | arpRequest (lan : Fin 2) (target : BitVec 32) (sender : BitVec 32) (senderMac : BitVec 48)
  /-- R356: An ICMP echo request is answered. -/
  | icmpEcho (dst : BitVec 32) (src : BitVec 32) (fragment : Bool) (body : List Byte)
  /-- R383: Alley IDENTITY returns ordering code, serial, revisions and slot pins. -/
  | identity (payload : List Byte) (crc : BitVec 8)
  /-- R384: Alley HEALTH returns the card's state summary. -/
  | health (payload : List Byte) (crc : BitVec 8)
  /-- R383: Alley EVENT_NEWEST returns the newest record number and area counts. -/
  | eventNewest (payload : List Byte) (crc : BitVec 8)
  /-- R421: Alley EVENT_READ returns a quarter of a record by number. -/
  | eventRead (payload : List Byte) (crc : BitVec 8)
  /-- R383: Alley LIFECYCLE_GET returns the life-cycle state. -/
  | lifecycleGet (payload : List Byte) (crc : BitVec 8)
  /-- R445: Alley LIFECYCLE_REQUEST requests a life-cycle transition under the lock. -/
  | lifecycleRequest (payload : List Byte) (crc : BitVec 8)
  /-- R383: Alley BANK_GET returns the booted, selected and valid banks. -/
  | bankGet (payload : List Byte) (crc : BitVec 8)
  /-- R436: Alley BANK_SELECT selects a valid bank for the next boot. -/
  | bankSelect (payload : List Byte) (crc : BitVec 8)
  /-- R386: Alley RESET_REQUEST resets the module 10 ms after its response. -/
  | resetRequest (payload : List Byte) (crc : BitVec 8)
  /-- R385: Alley LOCK_CHALLENGE returns the salt, iterations and nonce. -/
  | lockChallenge (payload : List Byte) (crc : BitVec 8)
  /-- R385: Alley LOCK_PROOF opens the lock or fails. -/
  | lockProof (payload : List Byte) (crc : BitVec 8)
  /-- R385: Alley LOCK_CLOSE closes the lock. -/
  | lockClose (payload : List Byte) (crc : BitVec 8)
  /-- R383: Alley OBJECT_READ returns one object value. -/
  | objectRead (payload : List Byte) (crc : BitVec 8)
  /-- R385: Alley OBJECT_WRITE places a write in the Alley mailbox and answers BUSY. -/
  | objectWrite (payload : List Byte) (crc : BitVec 8)
  /-- R382: The chassis manager reads the held Alley response. -/
  | alleyResponseRead
  /-- R385: The Alley lock idles past 0x1211:1 and closes. -/
  | alleyLockTimeout
  /-- R400: A CAN frame is received valid, matched to a station or filtered into a queue. -/
  | canFrameReceived (bus : Fin 3) (word : BitVec 32) (fmt : BitVec 6) (data : List Byte)
  /-- R393: A lane element is loaded into a free transmit buffer or discarded. -/
  | canBufferLoad (bus : Fin 3)
  /-- R395: A transmission attempt ends sent, lost or in error and the buffer retries or aborts. -/
  | canAttemptEnd (bus : Fin 3) (result : CanResult) (delay : CanMeasured)
  /-- R399: The automatic recovery hold-off expires and the recovery sequence starts. -/
  | canRecoveryHoldoff (bus : Fin 3)
  /-- R399: A write of 1 to B+0x00:6 starts bus-off recovery in host mode. -/
  | canRecoverNow (bus : Fin 3)
  /-- R399: The recovery sequence ends and the controller is error active. -/
  | canRecoveryComplete (bus : Fin 3)
  /-- R394: A write of B+0x18:0 queues a host CAN frame. -/
  | canHostTransmit (bus : Fin 3) (element : List Byte)
  /-- R402: A write of B+0x08:1 replaces the native filter list or is refused. -/
  | canFilterListWrite (bus : Fin 3) (list : List Byte)
  /-- R398: A write of 1 to B+0x02:16 clears the CAN counters. -/
  | canClearCounters (bus : Fin 3)
  /-- R417: The event front takes a request from lane 37 and applies the token buckets. -/
  | eventFrontRequest
  /-- R413: The event writer takes a record from lane 3 and stores it in MRAM. -/
  | eventWrite
  /-- R418: Once per second the event front examines pending suppressed counts. -/
  | suppressionExamination
  /-- R425: Main power good starts the power-up procedure through boot, marker resolution and first frame. -/
  | mainPowerGood (volts : BitVec 32) (unpowered : BitVec 33) (capacitor : BitVec 16) (lost : BitVec 4)
  /-- R426: Main falls below 38 V and HK makes the power-fail writes. -/
  | powerFailWarning (volts : BitVec 32) (rows : Fin 6)
  /-- R427: Main returns for 100 ms before any rail leaves its limits and the module runs on. -/
  | powerDip (ms : BitVec 32)
  /-- R427: A host-domain rail leaves its limits and the rail supervisor resets the host domain. -/
  | railOutOfLimits (rail : BitVec 8) (mainFell : Bool) (kind : BitVec 4) (target : BitVec 23) (valid : Bool)
  /-- R431: A missed or early watchdog key resets the module. -/
  | watchdogExpiry (engine : Fin 3)
  /-- R429: A guard-core lockstep mismatch or failed self-check withdraws the permit and resets the module. -/
  | guardLockstepMismatch
  /-- R432: A write of 1 to 0x2060:2 requests a reset after the orderly writes. -/
  | hostResetRequest
  /-- R432: A write of 2 to 0x2060:2 forces a reset. -/
  | hostResetForced
  /-- R432: 10 ms after the response of an accepted reset request the module resets. -/
  | resetDelayExpiry
  /-- R435: A segmented write of 0x2050:1 is checked on arrival and programmed into the other bank. -/
  | firmwareImageWrite (image : List Byte)
  /-- R435: Bank programming ends and the bank is verified. -/
  | bankProgramComplete
  /-- R436: A write of 0x2050:4 selects a valid bank for the next boot. -/
  | bankSelectWrite (v : BitVec 8)
  /-- R436: A bank on trial runs 600 s and the trial is confirmed. -/
  | trialConfirm
  /-- R439: Every 10 s the counters record is committed. -/
  | countersCommit
  /-- R437: The cover switch opens and the vault case-open latch is set. -/
  | caseSwitchOpen
  /-- R437: The vault capacitor falls below 2.2 V and the low flag is set. -/
  | vaultCapacitorLow (capacitor : BitVec 16)
  /-- R437: The vault capacitor falls below 2.0 V and the vault registers clear. -/
  | vaultPowerOn
  /-- R440: A write of 1 to 0x2070:4 clears the vault latches. -/
  | clearVaultLatches
  /-- R445: A write of 0x2040:2 requests a life-cycle transition. -/
  | transitionRequestWrite (v : BitVec 16)
  /-- R469: PRESENT stays closed for 50 ms and the hot-swap controller ramps main. -/
  | presentClosed
  /-- R469: Main does not reach 40 V within 100 ms and the switch opens for a retry. -/
  | mainRampTimeout
  /-- R469: 1 s after a failed ramp the hot-swap controller retries. -/
  | mainRampRetry
  /-- R470: PRESENT opens and the card runs through the removal on hold-up. -/
  | presentOpen (volts : BitVec 32)
  /-- R454: The J2 connector loop opens and the string domain releases. -/
  | j2LoopOpen
  /-- R454: The J2 loop has been closed for 100 ms and the string domain starts. -/
  | j2LoopClosedDelay
  /-- R45: No Announce from a master arrives for the announce receipt timeout of 3 intervals, and best master selection drops that master. -/
  | announceReceiptTimeout (port : Fin 2) (master : BitVec 64)
  /-- R287: The partner trip line deasserts, and within 10 ms after a release edge latched cause 5 counts as ended and is cleared. -/
  | partnerTripDeasserted
  /-- R273: After 60 s in which the current discrepancy stays below its limit and the vote reads 0, the degraded SLC limits return to full. -/
  | slcLimitsReturn
  /-- R398: A CAN controller detects an error in a frame it is receiving, raises the receive error counter and may change its error state. -/
  | canReceiveError (bus : Fin 3) (kind : CanError) (by8 : Bool)
  /-- R381: The 3.3 V management standby comes up, HK's island starts and Alley reads its address from the slot-ID pins. -/
  | standbyPowerUp (pins : BitVec 5)
  /-- R429: The 3.3 V management standby is lost, so HK's island and Alley stop; with main also absent, the next reset reads power-on. -/
  | standbyPowerLoss
  /-- R313: A SECDED error is detected in Plaza, which counts toward an ECC storm or, if uncorrectable, sets self-fault bit 2 at once. -/
  | plazaEccError (corrected : Bool)
  deriving DecidableEq, Repr

end Sys2Proof
end

