-- ==== Sys2Proof/Decode.lean ====
section
/-!
DEFINITION. The command a word spells by the bits of opcode_table.json. No row of the table gives a command any bits (every row's list of
fields is empty: the commands are register writes, messages and events, not words), so no word spells one.
Marks (notes/assumptions): DESIGN CHOICE 2.
-/
namespace Sys2Proof

/-- The command spelled by a word of `nbits` bits: none. -/
def decodeTableWord (_nbits _w : Nat) : Option Instr := none

end Sys2Proof
end

