-- ==== Sys2Proof/Config.lean ====
section
/-!
DEFINITION. What the spec leaves open: every constant here has no body, so no proof can lean on a value
of it. Each one is named in the assumption log.
Marks (notes/assumptions): DESIGN CHOICE 9, 10, 11, 12, 41.
-/
namespace Sys2Proof.Config

/-- The value of a counter that is raised beyond the largest number of its type (the spec states none). -/
opaque countBeyond : Nat → Nat
/-- The value of an object that differs from card to card or from firmware to firmware, by the object's key. -/
opaque perCard : Nat → Int
/-- Fresh bits the module draws (nonces, session identifiers, salts) and values the spec leaves undefined. -/
opaque freeBits : Nat → Nat
/-- Whether an inexact value of a function of a real number is rounded up in its last place, by a tag of the function and the value
in 10^-30. -/
opaque lastPlace : Nat → Int → Bool
/-- A real number the spec gives an engine to compute and states no formula or no rounding for,
by a tag of the quantity and the operands it may depend on. -/
opaque freeReal : Nat → List Int → Int

end Sys2Proof.Config
end

