-- ==== Sys2Proof/Machine/Bits.lean ====
section
/-!
DEFINITION. Byte orders, two's complement, the number formats of R8 and R9, the rounding the datapaths use and
the checksums the links carry.
Marks (notes/assumptions): DEDUCED 15, 16; DESIGN CHOICE 13.
-/
namespace Sys2Proof.Machine

/-- The low `n` bytes of a number, least significant first (R8); a negative number in two's complement. -/
def leBytes : Nat → Int → List Byte
  | 0, _ => []
  | n + 1, v => BitVec.ofInt 8 v :: leBytes n (v / 256)

/-- The number little-endian bytes hold. -/
def leNat : List Byte → Nat
  | [] => 0
  | b :: r => b.toNat + 256 * leNat r

/-- The number big-endian bytes hold. -/
def beNat (l : List Byte) : Nat := l.foldl (fun a b => a * 256 + b.toNat) 0

/-- `n` bytes, most significant first. -/
def beBytes (n : Nat) (v : Int) : List Byte := (leBytes n v).reverse

/-- The low `w` bits of a number, as an unsigned number. -/
def toU (w : Nat) (v : Int) : Int := v % ((2 ^ w : Nat) : Int)

/-- The low `w` bits of a number, read in two's complement. -/
def toS (w : Nat) (v : Int) : Int :=
  let u := toU w v
  if u < ((2 ^ (w - 1) : Nat) : Int) then u else u - ((2 ^ w : Nat) : Int)

/-- Bit `i` of a number. -/
def bitOf (v : Int) (i : Nat) : Bool := decide (v / ((2 ^ i : Nat) : Int) % 2 = 1)

/-- `v` with bit `i` set or cleared. -/
def setBit (v : Int) (i : Nat) (on : Bool) : Int :=
  if bitOf v i = on then v else if on then v + ((2 ^ i : Nat) : Int) else v - ((2 ^ i : Nat) : Int)

/-- The bits of `v` that `m` names, cleared (write 1 to clear). -/
def clearBits (v m : Int) : Int := Int.ofNat (v.toNat - (v.toNat &&& m.toNat))

/-- The bits `hi` to `lo` of a number. -/
def field (v : Nat) (hi lo : Nat) : Nat := v / 2 ^ lo % 2 ^ (hi + 1 - lo)

/-- Both masks. -/
def maskAnd (a b : Int) : Int := Int.ofNat (a.toNat &&& b.toNat)

/-- Either mask. -/
def maskOr (a b : Int) : Int := Int.ofNat (a.toNat ||| b.toNat)

/-- How many of the low `n` bits are set. -/
def popCount (n : Nat) (v : Nat) : Nat := ((List.range n).filter (fun i => v.testBit i)).length

/-- `v` held within `lo` and `hi`. -/
def clampI (lo hi v : Int) : Int := if v < lo then lo else if hi < v then hi else v

/-- `v` held within `lo` and `hi`. -/
def clampR (lo hi v : Rat) : Rat := if v < lo then lo else if hi < v then hi else v

/-- `n / d` rounded to the nearest integer, ties to even (`d` positive). -/
def divRne (n d : Int) : Int :=
  let q := n / d
  let r := n % d
  if 2 * r < d then q else if d < 2 * r then q + 1 else if q % 2 = 0 then q else q + 1

/-- A right shift by `k` bits, rounded to nearest, ties to even. -/
def shiftRne (v : Int) (k : Nat) : Int := divRne v ((2 ^ k : Nat) : Int)

/-- A rational rounded to the nearest integer, ties to even. -/
def roundRne (q : Rat) : Int := divRne q.num (q.den : Int)

/-- A rational rounded toward minus infinity. -/
def floorR (q : Rat) : Int := q.num / (q.den : Int)

/-- The magnitude of a rational. -/
def absR (q : Rat) : Rat := if q < 0 then -q else q

/-- The larger of two. -/
def maxR (a b : Rat) : Rat := if a < b then b else a

/-- The smaller of two. -/
def minR (a b : Rat) : Rat := if b < a then b else a

/-- `2^e` for a signed exponent. -/
def pow2R (e : Int) : Rat := if 0 ≤ e then ((2 ^ e.toNat : Nat) : Rat) else 1 / ((2 ^ (-e).toNat : Nat) : Rat)

/-- The value of a BFP word: mantissa / 2^23 × 2^exponent (R8). -/
def bfpValue (w : Nat) : Rat := (toS 24 (w / 256) : Rat) / 8388608 * pow2R (toS 6 (w % 64))

/-- The mantissa of a BFP word. -/
def bfpMant (w : Nat) : Int := toS 24 (w / 256)

/-- The exponent of a BFP word. -/
def bfpExp (w : Nat) : Int := toS 6 (w % 64)

/-- A BFP word as it is stored: bits 7 and 6 read as zero, values written to them are discarded (R9). -/
def bfpStored (w : Nat) : Nat := w / 256 % 16777216 * 256 + w % 64

/-- The BFP word of a mantissa and an exponent. -/
def bfpWord (m e : Int) : Nat := (toU 24 m).toNat * 256 + (toU 6 e).toNat

/-- The biased exponent field of a binary32 word is all ones and the fraction is not zero. -/
def f32IsNaN (w : Nat) : Bool := decide (w / 8388608 % 256 = 255) && decide (w % 8388608 ≠ 0)

/-- A binary32 word is an infinity. -/
def f32IsInf (w : Nat) : Bool := decide (w / 8388608 % 256 = 255) && decide (w % 8388608 = 0)

/-- The rational a finite binary32 word stands for; infinities and NaN read as the largest finite magnitude's
successor, 2^128, with their sign (only comparisons with it are made). -/
def f32Value (w : Nat) : Rat :=
  let e := w / 8388608 % 256
  let f := w % 8388608
  let a : Rat := if e = 0 then (f : Rat) * pow2R (-149)
    else if e = 255 then pow2R 128
    else ((8388608 + f : Nat) : Rat) * pow2R ((e : Int) - 150)
  if w / 2147483648 % 2 = 1 then -a else a

/-- floor(log2 q) of a positive rational: bit lengths give it to within one, and one comparison settles it. -/
def log2R (q : Rat) : Int :=
  let e : Int := (Nat.log2 q.num.toNat : Int) - (Nat.log2 q.den : Int)
  if q < pow2R e then e - 1 else if pow2R (e + 1) ≤ q then e + 1 else e

/-- A rational as a binary32 word, rounded to nearest, ties to even; beyond the largest finite value, infinity. -/
def f32Word (q : Rat) : Nat :=
  if q = 0 then 0 else
  let s := if q < 0 then 2147483648 else 0
  let a := absR q
  let e := log2R a
  let ex := if e < -126 then -126 else e
  let m := roundRne (a * pow2R (23 - ex))
  if ex > 127 then s + 2139095040 else
  if m < 8388608 then s + m.toNat
  else if m = 16777216 then
    (if ex = 127 then s + 2139095040 else s + ((ex + 128).toNat * 8388608))
  else s + (ex + 127).toNat * 8388608 + (m - 8388608).toNat

/-- One bit step of a reflected CRC. -/
def crcStepR (poly : Nat) (c : Nat) : Nat := if c % 2 = 1 then (c / 2) ^^^ poly else c / 2

/-- One byte of a reflected CRC. -/
def crcByteR (poly : Nat) (c : Nat) (b : Byte) : Nat :=
  let step := crcStepR poly
  step (step (step (step (step (step (step (step (c ^^^ b.toNat))))))))

/-- CRC-32C (Castagnoli), reflected, initial value and final exclusive-or all ones. -/
def crc32c (l : List Byte) : Nat := (l.foldl (crcByteR 0x82F63B78) 0xFFFFFFFF) ^^^ 0xFFFFFFFF

/-- One bit step of a CRC with the most significant bit first. -/
def crcStepL (w poly : Nat) (c : Nat) : Nat :=
  if 2 ^ (w - 1) ≤ c then (c * 2 % 2 ^ w) ^^^ poly else c * 2

/-- One byte of a CRC with the most significant bit first. -/
def crcByteL (w poly : Nat) (c : Nat) (b : Byte) : Nat :=
  let step := crcStepL w poly
  step (step (step (step (step (step (step (step (c ^^^ (b.toNat * 2 ^ (w - 8))))))))))

/-- CRC-16 with polynomial 0x1021, initial value 0xFFFF, most significant bit first. -/
def crc16 (l : List Byte) : Nat := l.foldl (crcByteL 16 0x1021) 0xFFFF

/-- CRC-8 of R382: x^8 + x^2 + x + 1, initial value 0. -/
def crc8 (l : List Byte) : Nat := l.foldl (crcByteL 8 0x07) 0

/-- The first `n` bytes, filled with zero bytes to `n`. -/
def padTo (n : Nat) (l : List Byte) : List Byte := (l ++ List.replicate n 0#8).take n

/-- Bytes `o` to `o + n - 1`, zero where the list ends before. -/
def sliceAt (l : List Byte) (o n : Nat) : List Byte := padTo n (l.drop o)

/-- An unsigned little-endian field of a byte string. -/
def getLe (l : List Byte) (o n : Nat) : Nat := leNat (sliceAt l o n)

/-- A big-endian field of a byte string. -/
def getBe (l : List Byte) (o n : Nat) : Nat := beNat (sliceAt l o n)

end Sys2Proof.Machine
end

