-- ==== Sys2Proof/Machine/ObjectTable.lean ====
section
/-!
DEFINITION. The object maps of the spec's chapters as one table (R10, R11): one row per index range and
sub-index range, with its type, access class, default, range and persistence. The rows are written from the
"Index:Sub" tables of the chapters; an index of a second bank (`0x2850 + k`, `B + 0x00` and the like) is one
row with a count and a stride.
Marks (notes/assumptions): DESIGN CHOICE 8, 9, 110.
-/
namespace Sys2Proof.Machine

/-- The types of R8. -/
inductive ObjType where
  | bool | u8 | u16 | u32 | u64 | i8 | i16 | i32 | i64 | f32 | bfp | time80 | str | domain
  deriving DecidableEq, Repr

/-- The access classes of R10. -/
inductive Access where
  | ro | rw | wo | rws | const
  deriving DecidableEq, Repr

/-- The persistence classes of R11; `fixed` for CONST objects. -/
inductive Persist where
  | vol | mir | nv | nvs | fixed
  deriving DecidableEq, Repr

/-- The range column: `ints` lists closed intervals of raw values; the three others speak of F32 values. -/
inductive Range where
  | any
  | ints (l : List (Int × Int))
  | tenths (lo hi : Int)
  | positive
  | nonNegative
  deriving DecidableEq, Repr

/-- One row: `count` indices from `base`, `stride` apart, sub-indices `subLo` to `subHi`. -/
structure ObjRow where
  base : Nat
  count : Nat
  stride : Nat
  subLo : Nat
  subHi : Nat
  ty : ObjType
  access : Access
  dflt : Int
  range : Range
  persist : Persist
  deriving DecidableEq, Repr

def objPage10_0 : List ObjRow := [
  ⟨0x1000, 1, 1, 1, 1, .str, .const, 0, .any, .fixed⟩,
  ⟨0x1000, 1, 1, 2, 2, .str, .const, 0, .any, .fixed⟩,
  ⟨0x1000, 1, 1, 3, 3, .str, .const, 0, .any, .fixed⟩,
  ⟨0x1000, 1, 1, 4, 4, .u16, .const, 0, .any, .fixed⟩,
  ⟨0x1000, 1, 1, 5, 5, .u32, .ro, 0, .any, .vol⟩,
  ⟨0x1000, 1, 1, 6, 6, .u16, .const, 1, .any, .fixed⟩,
  ⟨0x1000, 1, 1, 7, 7, .u32, .const, 0, .any, .fixed⟩,
  ⟨0x1010, 1, 1, 1, 1, .u32, .rw, 0, .any, .nv⟩,
  ⟨0x1010, 1, 1, 2, 2, .u32, .rw, 4294967040, .any, .nv⟩,
  ⟨0x1010, 1, 1, 3, 3, .u32, .rw, 0, .any, .nv⟩,
  ⟨0x1010, 1, 1, 4, 4, .u64, .const, 0, .any, .fixed⟩,
  ⟨0x1010, 1, 1, 5, 5, .u16, .const, 51720, .any, .fixed⟩,
  ⟨0x1010, 1, 1, 6, 6, .u16, .const, 1494, .any, .fixed⟩]

def objPage11_0 : List ObjRow := [
  ⟨0x1100, 1, 1, 1, 1, .u16, .rw, 400, (.ints [(10, 10000)]), .nv⟩,
  ⟨0x1100, 1, 1, 2, 2, .u16, .rw, 2000, (.ints [(100, 10000)]), .nv⟩,
  ⟨0x1100, 1, 1, 3, 3, .u16, .rw, 60, (.ints [(1, 3600)]), .nv⟩,
  ⟨0x1100, 1, 1, 4, 4, .u8, .rw, 0, .any, .nv⟩,
  ⟨0x1101, 1, 1, 1, 1, .u8, .ro, 0, .any, .vol⟩,
  ⟨0x1101, 1, 1, 2, 2, .u32, .ro, 0, .any, .vol⟩,
  ⟨0x1101, 1, 1, 3, 3, .u32, .ro, 0, .any, .vol⟩,
  ⟨0x1101, 1, 1, 4, 4, .u32, .ro, 0, .any, .vol⟩,
  ⟨0x1101, 1, 1, 5, 5, .u32, .ro, 0, .any, .vol⟩,
  ⟨0x1101, 1, 1, 6, 6, .u32, .ro, 0, .any, .vol⟩,
  ⟨0x1101, 1, 1, 7, 7, .u8, .ro, 0, .any, .vol⟩]

def objPage12_0 : List ObjRow := [
  ⟨0x1200, 1, 1, 1, 1, .u8, .ro, 0, .any, .vol⟩,
  ⟨0x1200, 1, 1, 2, 2, .u32, .ro, 0, .any, .vol⟩,
  ⟨0x1200, 1, 1, 3, 3, .str, .ro, 0, .any, .vol⟩,
  ⟨0x1200, 1, 1, 4, 4, .u32, .ro, 0, .any, .vol⟩,
  ⟨0x1200, 1, 1, 5, 5, .u16, .ro, 0, .any, .vol⟩,
  ⟨0x1200, 1, 1, 6, 6, .time80, .ro, 0, .any, .vol⟩,
  ⟨0x1201, 1, 1, 1, 1, .u32, .ro, 0, .any, .vol⟩,
  ⟨0x1201, 1, 1, 2, 2, .u32, .ro, 0, .any, .vol⟩,
  ⟨0x1201, 1, 1, 3, 3, .u32, .ro, 0, .any, .vol⟩,
  ⟨0x1201, 1, 1, 4, 4, .u32, .ro, 0, .any, .vol⟩,
  ⟨0x1201, 1, 1, 5, 5, .u32, .ro, 0, .any, .nv⟩,
  ⟨0x1201, 1, 1, 6, 6, .u32, .ro, 0, .any, .nv⟩,
  ⟨0x1210, 1, 1, 1, 1, .domain, .wo, 0, .any, .nv⟩,
  ⟨0x1210, 1, 1, 2, 2, .u16, .rw, 3000, (.ints [(1000, 60000)]), .nv⟩,
  ⟨0x1210, 1, 1, 3, 3, .bool, .rws, 1, .any, .nvs⟩,
  ⟨0x1210, 1, 1, 4, 4, .bool, .ro, 0, .any, .nv⟩,
  ⟨0x1211, 1, 1, 1, 1, .u16, .rw, 600, (.ints [(60, 3600)]), .nv⟩,
  ⟨0x1211, 1, 1, 2, 2, .u8, .ro, 0, .any, .vol⟩]

def objPage13_0 : List ObjRow := [
  ⟨0x1300, 8, 1, 1, 1, .bool, .rw, 0, .any, .nv⟩,
  ⟨0x1300, 8, 1, 2, 2, .u16, .rw, 4000, (.ints [(1, 65535)]), .nv⟩,
  ⟨0x1300, 8, 1, 3, 3, .u16, .rw, 0, (.ints [(0, 65534)]), .nv⟩,
  ⟨0x1300, 8, 1, 4, 4, .domain, .rw, 0, .any, .nv⟩,
  ⟨0x1300, 8, 1, 5, 5, .u8, .ro, 0, .any, .vol⟩,
  ⟨0x1300, 8, 1, 6, 6, .u32, .ro, 0, .any, .vol⟩,
  ⟨0x1300, 8, 1, 7, 7, .u32, .ro, 0, .any, .vol⟩,
  ⟨0x1300, 8, 1, 8, 8, .u32, .ro, 0, .any, .vol⟩]

def objPage14_0 : List ObjRow := [
  ⟨0x1400, 1, 1, 1, 1, .u8, .ro, 0, .any, .vol⟩,
  ⟨0x1400, 1, 1, 2, 2, .u8, .ro, 0, .any, .vol⟩,
  ⟨0x1400, 1, 1, 3, 3, .u32, .ro, 0, .any, .vol⟩,
  ⟨0x1400, 1, 1, 4, 4, .u32, .ro, 0, .any, .vol⟩,
  ⟨0x1400, 1, 1, 5, 5, .u8, .ro, 0, .any, .vol⟩,
  ⟨0x1400, 1, 1, 6, 6, .bool, .rws, 1, .any, .nvs⟩]

def objPage15_0 : List ObjRow := [
  ⟨0x1500, 1, 1, 1, 1, .u8, .ro, 0, .any, .vol⟩]

def objPage20_0 : List ObjRow := [
  ⟨0x2001, 1, 1, 0, 0, .u8, .rw, 0, (.ints [(0, 5)]), .nv⟩,
  ⟨0x2002, 1, 1, 0, 0, .u8, .ro, 0, .any, .vol⟩,
  ⟨0x2002, 1, 1, 1, 1, .u8, .ro, 3, .any, .vol⟩,
  ⟨0x2003, 1, 1, 0, 0, .u8, .rw, 0, (.ints [(0, 2)]), .nv⟩,
  ⟨0x2004, 1, 1, 0, 0, .u32, .ro, 0, .any, .vol⟩,
  ⟨0x2005, 1, 1, 0, 0, .u8, .wo, 0, (.ints [(1, 1)]), .vol⟩,
  ⟨0x2010, 1, 1, 0, 0, .u16, .rw, 250, (.ints [(125, 125), (250, 250), (500, 500), (1000, 1000)]), .nv⟩,
  ⟨0x2011, 1, 1, 0, 0, .u16, .ro, 250, .any, .vol⟩,
  ⟨0x2012, 1, 1, 0, 0, .u16, .rw, 10, (.ints [(0, 500)]), .nv⟩,
  ⟨0x2013, 1, 1, 0, 0, .u32, .ro, 0, .any, .vol⟩,
  ⟨0x2020, 1, 1, 1, 1, .u8, .wo, 0, (.ints [(1, 2)]), .vol⟩,
  ⟨0x2020, 1, 1, 2, 2, .u16, .ro, 0, .any, .vol⟩,
  ⟨0x2020, 1, 1, 3, 3, .u8, .ro, 0, .any, .vol⟩,
  ⟨0x2020, 1, 1, 4, 4, .u8, .ro, 0, .any, .vol⟩,
  ⟨0x2020, 1, 1, 5, 5, .u16, .ro, 0, .any, .vol⟩,
  ⟨0x2020, 1, 1, 6, 6, .u32, .ro, 0, .any, .vol⟩,
  ⟨0x2020, 1, 1, 7, 7, .u32, .ro, 0, .any, .nv⟩,
  ⟨0x2020, 1, 1, 8, 8, .u32, .ro, 0, .any, .nv⟩,
  ⟨0x2030, 1, 1, 1, 8, .u8, .rw, 0, (.ints [(0, 7)]), .nv⟩,
  ⟨0x2040, 1, 1, 1, 1, .u8, .ro, 0, .any, .nv⟩,
  ⟨0x2040, 1, 1, 2, 2, .u16, .wo, 0, .any, .vol⟩,
  ⟨0x2040, 1, 1, 3, 3, .u8, .ro, 255, .any, .vol⟩,
  ⟨0x2040, 1, 1, 4, 4, .u8, .ro, 0, .any, .vol⟩,
  ⟨0x2040, 1, 1, 5, 5, .u8, .ro, 0, .any, .fixed⟩,
  ⟨0x2050, 1, 1, 1, 1, .domain, .wo, 0, .any, .vol⟩,
  ⟨0x2050, 1, 1, 2, 2, .u8, .ro, 0, .any, .vol⟩,
  ⟨0x2050, 1, 1, 3, 3, .u8, .ro, 0, .any, .vol⟩,
  ⟨0x2050, 1, 1, 4, 4, .u8, .rws, 0, (.ints [(0, 1)]), .nvs⟩,
  ⟨0x2050, 1, 1, 5, 5, .u8, .ro, 1, .any, .nv⟩,
  ⟨0x2050, 1, 1, 6, 6, .u8, .ro, 0, .any, .nv⟩]

def objPage20_1 : List ObjRow := [
  ⟨0x2050, 1, 1, 7, 7, .u8, .ro, 0, .any, .nv⟩,
  ⟨0x2050, 1, 1, 8, 8, .u16, .ro, 0, .any, .nv⟩,
  ⟨0x2050, 1, 1, 9, 9, .u32, .ro, 0, .any, .nv⟩,
  ⟨0x2050, 1, 1, 10, 10, .u32, .ro, 0, .any, .nv⟩,
  ⟨0x2060, 1, 1, 1, 1, .u8, .ro, 1, .any, .vol⟩,
  ⟨0x2060, 1, 1, 2, 2, .u8, .wo, 0, (.ints [(1, 2)]), .vol⟩,
  ⟨0x2060, 1, 1, 3, 3, .u32, .ro, 0, .any, .nv⟩,
  ⟨0x2060, 1, 1, 4, 4, .u32, .ro, 0, .any, .nv⟩,
  ⟨0x2060, 1, 1, 5, 5, .f32, .ro, 0, .any, .vol⟩,
  ⟨0x2061, 1, 1, 1, 7, .u32, .ro, 0, .any, .nv⟩,
  ⟨0x2070, 1, 1, 1, 1, .u8, .ro, 0, .any, .vol⟩,
  ⟨0x2070, 1, 1, 2, 2, .u32, .ro, 0, .any, .vol⟩,
  ⟨0x2070, 1, 1, 3, 3, .u16, .ro, 0, .any, .vol⟩,
  ⟨0x2070, 1, 1, 4, 4, .u8, .rws, 0, (.ints [(1, 1)]), .vol⟩,
  ⟨0x2080, 1, 1, 1, 1, .u32, .ro, 0, .any, .nv⟩,
  ⟨0x2080, 1, 1, 2, 2, .u8, .ro, 0, .any, .vol⟩,
  ⟨0x2080, 1, 1, 3, 3, .u16, .ro, 0, .any, .nv⟩,
  ⟨0x2080, 1, 1, 4, 4, .u32, .ro, 0, .any, .nv⟩,
  ⟨0x2090, 1, 1, 1, 1, .f32, .ro, 0, .any, .vol⟩,
  ⟨0x2090, 1, 1, 2, 2, .f32, .ro, 0, .any, .vol⟩,
  ⟨0x2090, 1, 1, 3, 3, .f32, .ro, 0, .any, .vol⟩,
  ⟨0x2090, 1, 1, 4, 4, .f32, .ro, 0, .any, .vol⟩,
  ⟨0x2090, 1, 1, 5, 5, .i16, .ro, 0, .any, .vol⟩,
  ⟨0x2090, 1, 1, 6, 6, .u8, .ro, 0, .any, .vol⟩,
  ⟨0x2090, 1, 1, 7, 7, .u8, .ro, 0, .any, .vol⟩,
  ⟨0x2090, 1, 1, 8, 8, .u32, .ro, 0, .any, .nv⟩]

def objPage21_0 : List ObjRow := [
  ⟨0x2100, 1, 1, 0, 0, .u8, .const, 48, .any, .fixed⟩,
  ⟨0x2100, 1, 1, 1, 48, .u16, .ro, 0, .any, .vol⟩,
  ⟨0x2101, 1, 1, 1, 48, .u32, .ro, 0, .any, .vol⟩,
  ⟨0x2102, 1, 1, 1, 48, .u32, .ro, 0, .any, .vol⟩,
  ⟨0x2110, 1, 1, 1, 6, .u32, .ro, 0, .any, .vol⟩,
  ⟨0x2111, 1, 1, 0, 0, .u8, .ro, 0, .any, .vol⟩,
  ⟨0x2112, 1, 1, 1, 6, .u16, .ro, 0, .any, .vol⟩,
  ⟨0x2113, 1, 1, 0, 0, .u8, .wo, 0, (.ints [(1, 1)]), .vol⟩,
  ⟨0x2120, 1, 1, 0, 0, .u32, .ro, 0, .any, .vol⟩]

def objPage28_0 : List ObjRow := [
  ⟨0x2800, 1, 1, 0, 0, .time80, .ro, 0, .any, .vol⟩,
  ⟨0x2801, 1, 1, 0, 0, .u64, .ro, 0, .any, .vol⟩,
  ⟨0x2802, 1, 1, 0, 0, .i32, .ro, 0, .any, .vol⟩,
  ⟨0x2803, 1, 1, 1, 1, .i64, .ro, 0, .any, .vol⟩,
  ⟨0x2803, 1, 1, 2, 2, .u16, .ro, 0, .any, .vol⟩,
  ⟨0x2804, 1, 1, 0, 0, .u8, .ro, 0, .any, .vol⟩,
  ⟨0x2805, 1, 1, 0, 0, .u16, .ro, 0, .any, .vol⟩,
  ⟨0x2806, 1, 1, 0, 0, .i16, .ro, 0, .any, .vol⟩,
  ⟨0x2810, 1, 1, 1, 1, .i32, .rw, 0, .any, .nv⟩,
  ⟨0x2810, 1, 1, 2, 2, .i32, .rw, 0, .any, .nv⟩,
  ⟨0x2811, 1, 1, 1, 1, .i32, .rw, 0, .any, .nv⟩,
  ⟨0x2811, 1, 1, 2, 2, .i32, .rw, 0, .any, .nv⟩,
  ⟨0x2812, 1, 1, 1, 1, .i32, .ro, 0, .any, .vol⟩,
  ⟨0x2812, 1, 1, 2, 2, .i32, .ro, 0, .any, .vol⟩,
  ⟨0x2813, 1, 1, 1, 1, .u32, .ro, 0, .any, .vol⟩,
  ⟨0x2813, 1, 1, 2, 2, .u32, .ro, 0, .any, .vol⟩,
  ⟨0x2814, 1, 1, 0, 0, .u8, .ro, 1, .any, .vol⟩,
  ⟨0x2820, 1, 1, 1, 1, .u32, .rw, 770, (.ints [(0, 100000)]), .nv⟩,
  ⟨0x2820, 1, 1, 2, 2, .u32, .rw, 330, (.ints [(0, 100000)]), .nv⟩,
  ⟨0x2820, 1, 1, 3, 3, .u32, .rw, 385, (.ints [(0, 100000)]), .nv⟩,
  ⟨0x2820, 1, 1, 4, 4, .u32, .rw, 22, (.ints [(0, 100000)]), .nv⟩,
  ⟨0x2821, 1, 1, 0, 0, .u8, .rw, 0, (.ints [(0, 1)]), .vol⟩,
  ⟨0x2822, 1, 1, 1, 1, .u32, .rw, 100, (.ints [(10, 1000)]), .nv⟩,
  ⟨0x2822, 1, 1, 2, 2, .u8, .rw, 16, (.ints [(4, 64)]), .nv⟩,
  ⟨0x2822, 1, 1, 3, 3, .u32, .rw, 1000, (.ints [(100, 10000)]), .nv⟩,
  ⟨0x2823, 1, 1, 0, 0, .u32, .rw, 10000, (.ints [(1000, 1000000)]), .nv⟩,
  ⟨0x2824, 1, 1, 0, 0, .u8, .rw, 3, (.ints [(2, 10)]), .nv⟩,
  ⟨0x2825, 1, 1, 0, 0, .u16, .rw, 60, (.ints [(1, 60)]), .nv⟩,
  ⟨0x2826, 1, 1, 0, 0, .u32, .rw, 109951163, (.ints [(1099512, 219902326)]), .nv⟩,
  ⟨0x2830, 1, 1, 0, 0, .i64, .rw, 0, (.ints [(-1000000000000, 1000000000000)]), .vol⟩]

def objPage28_1 : List ObjRow := [
  ⟨0x2831, 1, 1, 1, 1, .u8, .rw, 50, (.ints [(10, 90)]), .nv⟩,
  ⟨0x2831, 1, 1, 2, 2, .u8, .rw, 8, (.ints [(1, 64)]), .nv⟩,
  ⟨0x2832, 1, 1, 0, 0, .u8, .rw, 0, (.ints [(0, 127)]), .nv⟩,
  ⟨0x2840, 1, 1, 0, 0, .u8, .rw, 1, (.ints [(0, 2)]), .nv⟩,
  ⟨0x2841, 1, 1, 0, 0, .i32, .rw, 0, .any, .nv⟩,
  ⟨0x2842, 1, 1, 0, 0, .u8, .rw, 1, (.ints [(0, 2)]), .nv⟩,
  ⟨0x2843, 1, 1, 0, 0, .u16, .rw, 100, (.ints [(1, 500)]), .nv⟩,
  ⟨0x2850, 8, 1, 1, 1, .u8, .rw, 0, (.ints [(0, 2)]), .nv⟩,
  ⟨0x2850, 8, 1, 2, 2, .time80, .rw, 0, .any, .nv⟩,
  ⟨0x2850, 8, 1, 3, 3, .u32, .rw, 1000000000, (.ints [(40, 4294967295)]), .nv⟩,
  ⟨0x2850, 8, 1, 4, 4, .u32, .rw, 1000, (.ints [(20, 4294967275)]), .nv⟩,
  ⟨0x2850, 8, 1, 5, 5, .bool, .rw, 0, .any, .nv⟩,
  ⟨0x2850, 8, 1, 6, 6, .u32, .rw, 0, .any, .nv⟩,
  ⟨0x2850, 8, 1, 7, 7, .u8, .wo, 0, (.ints [(1, 2)]), .vol⟩,
  ⟨0x2850, 8, 1, 8, 8, .u8, .ro, 0, .any, .vol⟩,
  ⟨0x2854, 4, 1, 9, 9, .u8, .rw, 0, (.ints [(0, 1)]), .nv⟩,
  ⟨0x2850, 8, 1, 10, 10, .bool, .rw, 0, .any, .nv⟩]

def objPage30_0 : List ObjRow := [
  ⟨0x3000, 1, 1, 1, 1, .u8, .rw, 15, (.ints [(0, 15)]), .nv⟩,
  ⟨0x3000, 1, 1, 2, 2, .u16, .rw, 2000, (.ints [(500, 20000)]), .nv⟩,
  ⟨0x3000, 1, 1, 3, 3, .u8, .rw, 3, (.ints [(1, 16)]), .nv⟩,
  ⟨0x3000, 1, 1, 4, 4, .u8, .rw, 4, (.ints [(1, 16)]), .nv⟩,
  ⟨0x3010, 4, 1, 1, 1, .u8, .rw, 0, (.ints [(0, 2)]), .nv⟩,
  ⟨0x3010, 4, 1, 2, 2, .u8, .ro, 0, .any, .vol⟩,
  ⟨0x3010, 4, 1, 3, 3, .u8, .ro, 0, .any, .vol⟩,
  ⟨0x3010, 4, 1, 4, 4, .u8, .wo, 0, (.ints [(1, 1)]), .vol⟩,
  ⟨0x3010, 4, 1, 5, 5, .u16, .ro, 0, .any, .vol⟩,
  ⟨0x3010, 4, 1, 6, 6, .u32, .ro, 0, .any, .vol⟩,
  ⟨0x3010, 4, 1, 7, 7, .u8, .ro, 0, .any, .vol⟩,
  ⟨0x3010, 4, 1, 8, 8, .u8, .ro, 0, .any, .vol⟩,
  ⟨0x3010, 4, 1, 9, 9, .u8, .ro, 0, .any, .vol⟩,
  ⟨0x3010, 4, 1, 10, 10, .u8, .ro, 1, .any, .vol⟩,
  ⟨0x3010, 4, 1, 11, 11, .u32, .ro, 0, .any, .vol⟩,
  ⟨0x3010, 4, 1, 12, 12, .u32, .ro, 0, .any, .vol⟩,
  ⟨0x3010, 4, 1, 13, 13, .u16, .ro, 0, .any, .vol⟩,
  ⟨0x3010, 4, 1, 14, 14, .u16, .ro, 0, .any, .vol⟩,
  ⟨0x3010, 4, 1, 15, 15, .u32, .ro, 0, .any, .vol⟩,
  ⟨0x3010, 4, 1, 16, 16, .u32, .ro, 0, .any, .vol⟩,
  ⟨0x3010, 4, 1, 17, 17, .u8, .wo, 0, (.ints [(1, 1)]), .vol⟩,
  ⟨0x3010, 4, 1, 18, 18, .u8, .ro, 0, .any, .vol⟩,
  ⟨0x3020, 1, 1, 1, 1, .u8, .rw, 10, (.ints [(1, 60)]), .nv⟩,
  ⟨0x3020, 1, 1, 2, 2, .u16, .rw, 3650, (.ints [(2000, 4500)]), .nv⟩,
  ⟨0x3020, 1, 1, 3, 3, .u16, .rw, 2500, (.ints [(1500, 4000)]), .nv⟩,
  ⟨0x3020, 1, 1, 4, 4, .i8, .rw, 55, (.ints [(-40, 85)]), .nv⟩,
  ⟨0x3020, 1, 1, 5, 5, .i8, .rw, -20, (.ints [(-40, 85)]), .nv⟩,
  ⟨0x3020, 1, 1, 6, 6, .u8, .rw, 15, (.ints [(0, 15)]), .nv⟩]

def objPage31_0 : List ObjRow := [
  ⟨0x3100, 40, 1, 1, 1, .u8, .rw, 255, (.ints [(0, 3), (255, 255)]), .nv⟩,
  ⟨0x3100, 40, 1, 2, 2, .u8, .rw, 0, (.ints [(1, 12)]), .nv⟩,
  ⟨0x3100, 40, 1, 3, 3, .u64, .rw, 0, .any, .nv⟩,
  ⟨0x3100, 40, 1, 4, 4, .u16, .rw, 0, (.ints [(1, 576)]), .nv⟩,
  ⟨0x3100, 40, 1, 5, 5, .u32, .rw, 262143, (.ints [(0, 262143)]), .nv⟩,
  ⟨0x3100, 40, 1, 6, 6, .u64, .ro, 0, .any, .vol⟩,
  ⟨0x3100, 40, 1, 7, 7, .u8, .ro, 0, .any, .vol⟩,
  ⟨0x3100, 40, 1, 8, 8, .u8, .ro, 0, .any, .vol⟩,
  ⟨0x3100, 40, 1, 9, 9, .u16, .ro, 0, .any, .vol⟩,
  ⟨0x3100, 40, 1, 10, 10, .u32, .ro, 0, .any, .vol⟩,
  ⟨0x3100, 40, 1, 11, 11, .u32, .ro, 0, .any, .vol⟩,
  ⟨0x3100, 40, 1, 12, 12, .u16, .ro, 65535, .any, .vol⟩,
  ⟨0x3100, 40, 1, 13, 13, .u16, .ro, 65535, .any, .vol⟩,
  ⟨0x3100, 40, 1, 14, 14, .u8, .ro, 0, .any, .vol⟩,
  ⟨0x3100, 40, 1, 15, 15, .u16, .ro, 0, .any, .vol⟩,
  ⟨0x3100, 40, 1, 16, 16, .u32, .ro, 0, .any, .vol⟩,
  ⟨0x3140, 4, 1, 1, 12, .u64, .ro, 0, .any, .vol⟩]

def objPage34_0 : List ObjRow := [
  ⟨0x3410, 1, 1, 1, 1, .f32, .rws, 1112014848, .tenths (100) (5000), .nvs⟩,
  ⟨0x3410, 4, 16, 2, 2, .f32, .ro, 0, .any, .vol⟩,
  ⟨0x3410, 4, 16, 3, 3, .f32, .ro, 0, .any, .vol⟩,
  ⟨0x3410, 4, 16, 4, 4, .f32, .ro, 0, .any, .vol⟩,
  ⟨0x3410, 4, 16, 5, 5, .u16, .ro, 0, .any, .vol⟩,
  ⟨0x3410, 4, 16, 6, 6, .u8, .ro, 0, .any, .vol⟩,
  ⟨0x3410, 4, 16, 7, 7, .i32, .ro, 0, .any, .vol⟩,
  ⟨0x3410, 4, 16, 8, 8, .i32, .ro, 0, .any, .vol⟩,
  ⟨0x3410, 4, 16, 9, 9, .i32, .ro, 0, .any, .vol⟩,
  ⟨0x3410, 4, 16, 10, 10, .i32, .ro, 0, .any, .vol⟩,
  ⟨0x3410, 4, 16, 11, 11, .u32, .ro, 0, .any, .vol⟩,
  ⟨0x3410, 1, 1, 12, 12, .i16, .rws, 0, (.ints [(-200, 200)]), .nvs⟩,
  ⟨0x3410, 1, 1, 13, 13, .u8, .rws, 0, (.ints [(0, 16)]), .nvs⟩,
  ⟨0x3420, 1, 1, 1, 1, .f32, .rws, 1128792064, .tenths (10) (100000), .nvs⟩,
  ⟨0x3420, 1, 1, 12, 12, .f32, .rws, 0, .tenths (-500) (500), .nvs⟩,
  ⟨0x3420, 1, 1, 13, 13, .u16, .rw, 50, (.ints [(1, 500)]), .nv⟩,
  ⟨0x3420, 1, 1, 14, 14, .u16, .rw, 500, (.ints [(0, 10000)]), .nv⟩,
  ⟨0x3430, 1, 1, 1, 1, .f32, .rws, 1148846080, .tenths (1000) (20000), .nvs⟩,
  ⟨0x3430, 1, 1, 12, 12, .f32, .ro, 0, .any, .nv⟩,
  ⟨0x3430, 1, 1, 13, 13, .u8, .rw, 0, (.ints [(0, 1)]), .nv⟩,
  ⟨0x3430, 1, 1, 14, 14, .f32, .rw, 0, .any, .vol⟩,
  ⟨0x3430, 1, 1, 15, 15, .u8, .rws, 0, (.ints [(1, 1)]), .vol⟩,
  ⟨0x3430, 1, 1, 16, 16, .f32, .ro, 0, .any, .vol⟩,
  ⟨0x3430, 1, 1, 17, 17, .u8, .rws, 0, (.ints [(1, 1)]), .vol⟩,
  ⟨0x3430, 1, 1, 18, 18, .u8, .ro, 0, .any, .vol⟩,
  ⟨0x3440, 1, 1, 1, 1, .f32, .rws, 1148846080, .tenths (1000) (20000), .nvs⟩,
  ⟨0x3440, 1, 1, 12, 12, .f32, .ro, 0, .any, .nv⟩,
  ⟨0x3440, 1, 1, 13, 13, .u8, .rw, 0, (.ints [(0, 1)]), .nv⟩,
  ⟨0x3440, 1, 1, 14, 14, .f32, .rw, 0, .any, .vol⟩,
  ⟨0x3440, 1, 1, 15, 15, .u8, .rws, 0, (.ints [(1, 1)]), .vol⟩]

def objPage34_1 : List ObjRow := [
  ⟨0x3440, 1, 1, 16, 16, .f32, .ro, 0, .any, .vol⟩,
  ⟨0x3440, 1, 1, 17, 17, .u8, .rws, 0, (.ints [(1, 1)]), .vol⟩,
  ⟨0x3440, 1, 1, 18, 18, .u8, .ro, 0, .any, .vol⟩,
  ⟨0x3450, 1, 1, 1, 1, .f32, .rw, 0, .tenths (0) (1000), .nv⟩,
  ⟨0x3450, 1, 1, 2, 2, .u16, .rw, 20, (.ints [(1, 500)]), .nv⟩,
  ⟨0x3450, 1, 1, 3, 3, .u16, .rw, 500, (.ints [(0, 10000)]), .nv⟩,
  ⟨0x3460, 1, 1, 1, 1, .u8, .ro, 0, .any, .vol⟩,
  ⟨0x3460, 1, 1, 2, 2, .u8, .rws, 0, (.ints [(1, 1)]), .vol⟩,
  ⟨0x3461, 8, 1, 1, 1, .f32, .ro, 0, .any, .vol⟩,
  ⟨0x3461, 8, 1, 2, 2, .f32, .ro, 0, .any, .vol⟩,
  ⟨0x3461, 8, 1, 3, 3, .u8, .ro, 0, .any, .vol⟩,
  ⟨0x3461, 8, 1, 4, 4, .u32, .ro, 0, .any, .vol⟩,
  ⟨0x3466, 3, 1, 5, 5, .f32, .ro, 0, .any, .nv⟩,
  ⟨0x3461, 2, 2, 6, 6, .bool, .const, 1, .any, .fixed⟩,
  ⟨0x3462, 1, 1, 6, 6, .bool, .rws, 1, .any, .nvs⟩,
  ⟨0x3464, 5, 1, 6, 6, .bool, .rws, 1, .any, .nvs⟩]

def objPage38_0 : List ObjRow := [
  ⟨0x3800, 1, 1, 1, 576, .u32, .ro, 0, .any, .vol⟩,
  ⟨0x3801, 1, 1, 1, 576, .u32, .ro, 0, .any, .vol⟩,
  ⟨0x3802, 1, 1, 1, 576, .u16, .ro, 0, .any, .vol⟩,
  ⟨0x3803, 1, 1, 1, 576, .u16, .ro, 0, .any, .vol⟩,
  ⟨0x3804, 1, 1, 1, 576, .u16, .ro, 0, .any, .vol⟩,
  ⟨0x3805, 1, 1, 1, 576, .i32, .ro, 0, .any, .vol⟩,
  ⟨0x3806, 1, 1, 1, 576, .u16, .ro, 0, .any, .vol⟩,
  ⟨0x3810, 1, 1, 1, 160, .i16, .ro, 0, .any, .vol⟩,
  ⟨0x3811, 1, 1, 1, 160, .u8, .ro, 0, .any, .vol⟩,
  ⟨0x3820, 1, 1, 1, 40, .u16, .ro, 0, .any, .vol⟩,
  ⟨0x3821, 1, 1, 1, 40, .i16, .ro, 0, .any, .vol⟩,
  ⟨0x3822, 1, 1, 1, 40, .i16, .ro, 0, .any, .vol⟩,
  ⟨0x3823, 1, 1, 1, 40, .u32, .ro, 0, .any, .vol⟩,
  ⟨0x3830, 1, 1, 1, 1, .u16, .rw, 1, (.ints [(1, 3600)]), .nv⟩,
  ⟨0x3830, 1, 1, 2, 2, .u8, .wo, 0, (.ints [(1, 1)]), .vol⟩,
  ⟨0x3830, 1, 1, 3, 3, .u32, .ro, 0, .any, .vol⟩,
  ⟨0x3830, 1, 1, 4, 4, .u32, .ro, 0, .any, .vol⟩,
  ⟨0x3830, 1, 1, 5, 5, .u16, .rw, 5000, (.ints [(1000, 50000)]), .nv⟩]

def objPage40_0 : List ObjRow := [
  ⟨0x4000, 1, 1, 1, 1, .u32, .rw, 0, (.ints [(0, 0), (1000, 2000000)]), .nv⟩,
  ⟨0x4000, 1, 1, 2, 2, .u32, .rw, 999500, (.ints [(900000, 1000000)]), .nv⟩,
  ⟨0x4000, 1, 1, 3, 3, .u16, .rw, 2000, (.ints [(50, 20000)]), .nv⟩,
  ⟨0x4000, 1, 1, 4, 4, .u16, .rw, 100, (.ints [(10, 500)]), .nv⟩,
  ⟨0x4010, 1, 1, 1, 1, .u16, .rw, 50, (.ints [(10, 500)]), .nv⟩,
  ⟨0x4010, 1, 1, 2, 2, .u32, .rw, 7200, (.ints [(600, 86400)]), .nv⟩,
  ⟨0x4010, 1, 1, 3, 3, .bool, .rw, 1, .any, .nv⟩,
  ⟨0x4010, 1, 1, 4, 4, .u16, .rw, 600, (.ints [(600, 3600)]), .nv⟩,
  ⟨0x4010, 1, 1, 5, 5, .u16, .rw, 300, (.ints [(50, 2000)]), .nv⟩,
  ⟨0x4010, 1, 1, 6, 6, .u16, .rw, 50, (.ints [(10, 500)]), .nv⟩,
  ⟨0x4010, 1, 1, 7, 7, .u8, .const, 90, .any, .fixed⟩,
  ⟨0x4011, 1, 1, 1, 1, .u16, .rw, 72, (.ints [(12, 168)]), .nv⟩,
  ⟨0x4011, 1, 1, 2, 2, .u16, .rw, 3000, (.ints [(1000, 20000)]), .nv⟩,
  ⟨0x4012, 1, 1, 1, 1, .bool, .ro, 0, .any, .vol⟩,
  ⟨0x4012, 1, 1, 2, 2, .u16, .ro, 900, .any, .vol⟩,
  ⟨0x4012, 1, 1, 4, 4, .u8, .wo, 0, (.ints [(1, 2)]), .vol⟩,
  ⟨0x4012, 1, 1, 5, 5, .time80, .rw, 0, .any, .vol⟩,
  ⟨0x4012, 1, 1, 6, 6, .u16, .ro, 0, .any, .vol⟩,
  ⟨0x4012, 1, 1, 7, 7, .u8, .ro, 0, .any, .vol⟩,
  ⟨0x4020, 4, 1, 1, 1, .domain, .rw, 0, .any, .nv⟩,
  ⟨0x4020, 4, 1, 2, 2, .u8, .ro, 0, .any, .vol⟩,
  ⟨0x4020, 4, 1, 3, 3, .u32, .ro, 0, .any, .nv⟩,
  ⟨0x4030, 1, 1, 1, 1, .u16, .rw, 1000, (.ints [(200, 5000)]), .nv⟩,
  ⟨0x4030, 1, 1, 2, 2, .domain, .rws, 0, .any, .nvs⟩,
  ⟨0x4030, 1, 1, 3, 3, .bool, .rws, 1, .any, .nvs⟩,
  ⟨0x4030, 1, 1, 4, 4, .u16, .rw, 50, (.ints [(0, 1000)]), .nv⟩,
  ⟨0x4030, 1, 1, 5, 5, .u32, .rw, 1000, (.ints [(100, 10000)]), .nv⟩,
  ⟨0x4030, 1, 1, 6, 6, .u32, .rw, 20000, (.ints [(5000, 100000)]), .nv⟩,
  ⟨0x4030, 1, 1, 7, 7, .u32, .rw, 2000, (.ints [(500, 10000)]), .nv⟩,
  ⟨0x4030, 1, 1, 8, 8, .u16, .rw, 3600, (.ints [(600, 65535)]), .nv⟩]

def objPage40_1 : List ObjRow := [
  ⟨0x4030, 1, 1, 9, 9, .u16, .rw, 5000, (.ints [(500, 50000)]), .nv⟩,
  ⟨0x4040, 1, 1, 1, 1, .u16, .rw, 200, (.ints [(10, 2000)]), .nv⟩,
  ⟨0x4040, 1, 1, 2, 2, .u8, .wo, 0, (.ints [(1, 1)]), .vol⟩,
  ⟨0x4050, 1, 1, 1, 1, .u32, .rw, 98000, (.ints [(90000, 100000)]), .nv⟩,
  ⟨0x4050, 1, 1, 2, 2, .u32, .rw, 3000, (.ints [(0, 10000)]), .nv⟩,
  ⟨0x4050, 1, 1, 3, 3, .u8, .rw, 48, (.ints [(12, 96)]), .nv⟩,
  ⟨0x4050, 1, 1, 4, 4, .u16, .rw, 150, (.ints [(50, 300)]), .nv⟩,
  ⟨0x4050, 1, 1, 5, 5, .u8, .rw, 5, (.ints [(1, 20)]), .nv⟩,
  ⟨0x4050, 1, 1, 6, 6, .u16, .rw, 180, (.ints [(30, 730)]), .nv⟩,
  ⟨0x4050, 1, 1, 7, 7, .bool, .ro, 0, .any, .vol⟩,
  ⟨0x4050, 1, 1, 8, 8, .time80, .rw, 0, .any, .vol⟩,
  ⟨0x4050, 1, 1, 9, 9, .u8, .ro, 0, .any, .vol⟩,
  ⟨0x4050, 1, 1, 10, 10, .u32, .rw, 500, (.ints [(100, 2000)]), .nv⟩,
  ⟨0x4060, 1, 1, 1, 1, .u16, .rw, 2000, (.ints [(500, 10000)]), .nv⟩,
  ⟨0x4060, 1, 1, 2, 2, .u16, .rw, 300, (.ints [(60, 1800)]), .nv⟩,
  ⟨0x4060, 1, 1, 3, 3, .u16, .rw, 50, (.ints [(10, 500)]), .nv⟩,
  ⟨0x4060, 1, 1, 4, 4, .bool, .rw, 1, .any, .nv⟩,
  ⟨0x4060, 1, 1, 5, 5, .u32, .rw, 200, .any, .nv⟩,
  ⟨0x4060, 1, 1, 6, 6, .u32, .rw, 100, .any, .nv⟩,
  ⟨0x4060, 1, 1, 7, 7, .u32, .rw, 1000, .any, .nv⟩,
  ⟨0x4060, 1, 1, 8, 8, .u32, .rw, 150, .any, .nv⟩,
  ⟨0x4060, 1, 1, 9, 9, .u32, .rw, 30000, .any, .nv⟩]

def objPage41_0 : List ObjRow := [
  ⟨0x4101, 1, 1, 1, 576, .u32, .ro, 0, .any, .mir⟩,
  ⟨0x4102, 1, 1, 1, 576, .u32, .ro, 0, .any, .mir⟩,
  ⟨0x4103, 1, 1, 1, 576, .u32, .ro, 100000, .any, .mir⟩,
  ⟨0x4104, 1, 1, 1, 576, .u32, .ro, 100000, .any, .mir⟩,
  ⟨0x4105, 1, 1, 1, 576, .u16, .ro, 0, .any, .mir⟩,
  ⟨0x4106, 1, 1, 1, 576, .u8, .rw, 0, (.ints [(0, 3)]), .nv⟩,
  ⟨0x4107, 1, 1, 1, 576, .u8, .rw, 0, (.ints [(0, 160)]), .nv⟩,
  ⟨0x4108, 1, 1, 1, 576, .u32, .ro, 0, .any, .nv⟩,
  ⟨0x4109, 1, 1, 1, 576, .u32, .ro, 0, .any, .nv⟩,
  ⟨0x410A, 1, 1, 1, 576, .u16, .ro, 0, .any, .nv⟩,
  ⟨0x410B, 1, 1, 1, 576, .u32, .ro, 0, .any, .mir⟩,
  ⟨0x410C, 1, 1, 1, 576, .u32, .ro, 0, .any, .mir⟩,
  ⟨0x410D, 1, 1, 1, 576, .u16, .ro, 0, .any, .mir⟩,
  ⟨0x4110, 1, 1, 1, 576, .u32, .ro, 200, .any, .vol⟩,
  ⟨0x4111, 1, 1, 1, 576, .u32, .ro, 100, .any, .vol⟩,
  ⟨0x4112, 1, 1, 1, 576, .u32, .ro, 1000, .any, .vol⟩,
  ⟨0x4113, 1, 1, 1, 576, .u32, .ro, 150, .any, .vol⟩,
  ⟨0x4114, 1, 1, 1, 576, .u32, .ro, 30000, .any, .vol⟩,
  ⟨0x4115, 1, 1, 1, 576, .domain, .ro, 0, .any, .nv⟩,
  ⟨0x4116, 1, 1, 1, 576, .u32, .ro, 0, .any, .nv⟩,
  ⟨0x4120, 1, 1, 1, 576, .domain, .ro, 0, .any, .vol⟩]

def objPage44_0 : List ObjRow := [
  ⟨0x4400, 1, 1, 1, 576, .domain, .ro, 0, .any, .nv⟩,
  ⟨0x4401, 1, 1, 1, 576, .u32, .ro, 0, .any, .nv⟩,
  ⟨0x4402, 1, 1, 1, 576, .u32, .ro, 0, .any, .nv⟩,
  ⟨0x4403, 1, 1, 1, 576, .i32, .ro, 0, .any, .nv⟩,
  ⟨0x4404, 1, 1, 1, 576, .i32, .ro, 0, .any, .nv⟩,
  ⟨0x4405, 1, 1, 1, 576, .i32, .ro, 0, .any, .nv⟩,
  ⟨0x4406, 1, 1, 1, 576, .i32, .ro, 0, .any, .nv⟩,
  ⟨0x4407, 1, 1, 1, 576, .u32, .ro, 0, .any, .nv⟩,
  ⟨0x4408, 1, 1, 1, 576, .u32, .ro, 0, .any, .nv⟩,
  ⟨0x4410, 1, 1, 0, 0, .u16, .rws, 0, (.ints [(1, 576), (65535, 65535)]), .nvs⟩,
  ⟨0x4420, 1, 1, 1, 1, .u8, .ro, 0, .any, .vol⟩,
  ⟨0x4420, 1, 1, 2, 2, .u32, .ro, 0, .any, .vol⟩,
  ⟨0x4420, 1, 1, 3, 3, .u32, .ro, 0, .any, .vol⟩]

def objPage46_0 : List ObjRow := [
  ⟨0x4600, 1, 1, 1, 1, .u8, .rw, 1, (.ints [(0, 3)]), .nv⟩,
  ⟨0x4600, 1, 1, 2, 2, .u32, .rw, 300, (.ints [(50, 5000)]), .nv⟩,
  ⟨0x4600, 1, 1, 3, 3, .u32, .rw, 2000, (.ints [(200, 10000)]), .nv⟩,
  ⟨0x4600, 1, 1, 4, 4, .u16, .rw, 60, (.ints [(10, 150)]), .nv⟩,
  ⟨0x4600, 1, 1, 5, 5, .u16, .rw, 10, (.ints [(1, 600)]), .nv⟩,
  ⟨0x4600, 1, 1, 6, 6, .u8, .rw, 7, (.ints [(0, 7)]), .nv⟩,
  ⟨0x4600, 1, 1, 7, 7, .u16, .rw, 2800, (.ints [(1500, 4500)]), .nv⟩,
  ⟨0x4600, 1, 1, 8, 8, .i8, .rw, 85, (.ints [(50, 95)]), .nv⟩,
  ⟨0x4600, 1, 1, 9, 9, .u16, .const, 300, .any, .fixed⟩,
  ⟨0x4600, 1, 1, 11, 11, .u32, .rw, 5000, (.ints [(500, 50000)]), .nv⟩,
  ⟨0x4601, 1, 1, 0, 0, .u8, .ro, 0, .any, .vol⟩,
  ⟨0x4610, 1, 1, 1, 576, .u32, .ro, 0, .any, .mir⟩,
  ⟨0x4611, 1, 1, 1, 576, .u32, .ro, 0, .any, .vol⟩,
  ⟨0x4612, 1, 1, 1, 576, .u8, .ro, 0, .any, .vol⟩,
  ⟨0x4613, 1, 1, 1, 576, .u32, .ro, 0, .any, .vol⟩,
  ⟨0x4620, 1, 1, 1, 40, .u8, .ro, 0, .any, .vol⟩,
  ⟨0x4621, 1, 1, 1, 40, .u32, .ro, 0, .any, .vol⟩]

def objPage50_0 : List ObjRow := [
  ⟨0x5000, 1, 1, 1, 1, .u8, .rw, 8, (.ints [(1, 2), (4, 4), (8, 8)]), .nv⟩,
  ⟨0x5000, 1, 1, 2, 2, .u8, .rw, 255, (.ints [(0, 15), (255, 255)]), .nv⟩,
  ⟨0x5000, 1, 1, 3, 3, .u16, .rw, 768, (.ints [(768, 769)]), .nv⟩,
  ⟨0x5000, 1, 1, 4, 4, .u32, .ro, 0, .any, .vol⟩,
  ⟨0x5000, 1, 1, 5, 5, .u8, .ro, 0, .any, .vol⟩,
  ⟨0x5010, 2, 1, 1, 1, .u8, .rw, 0, (.ints [(0, 4)]), .nv⟩,
  ⟨0x5010, 2, 1, 2, 2, .f32, .rw, 1065353216, .any, .nv⟩,
  ⟨0x5010, 2, 1, 3, 3, .f32, .rw, 0, .any, .nv⟩,
  ⟨0x5010, 2, 1, 4, 4, .u16, .rw, 1000, (.ints [(100, 10000)]), .nv⟩,
  ⟨0x5010, 2, 1, 5, 5, .u16, .rw, 100, (.ints [(1, 10000)]), .nv⟩,
  ⟨0x5010, 2, 1, 6, 6, .u16, .rw, 200, (.ints [(0, 2000)]), .nv⟩,
  ⟨0x5010, 2, 1, 7, 7, .f32, .ro, 0, .any, .vol⟩,
  ⟨0x5010, 2, 1, 8, 8, .f32, .ro, 0, .any, .vol⟩,
  ⟨0x5010, 2, 1, 9, 9, .u8, .ro, 0, .any, .vol⟩,
  ⟨0x5010, 2, 1, 10, 10, .u32, .ro, 0, .any, .vol⟩]

def objPage51_0 : List ObjRow := [
  ⟨0x5100, 16, 1, 1, 1, .bool, .rw, 0, .any, .nv⟩,
  ⟨0x5100, 16, 1, 2, 2, .u8, .rw, 0, (.ints [(0, 2), (4, 4), (8, 8)]), .nv⟩,
  ⟨0x5100, 16, 1, 3, 6, .u16, .rw, 0, .any, .nv⟩,
  ⟨0x5100, 16, 1, 7, 7, .u16, .rw, 0, .any, .nv⟩,
  ⟨0x5100, 16, 1, 8, 8, .u16, .rw, 0, .any, .nv⟩,
  ⟨0x5100, 16, 1, 9, 9, .u16, .rw, 0, .any, .nv⟩,
  ⟨0x5100, 16, 1, 10, 10, .f32, .rw, 1065353216, .positive, .nv⟩,
  ⟨0x5100, 16, 1, 11, 11, .f32, .rw, 1065353216, .positive, .nv⟩,
  ⟨0x5100, 16, 1, 12, 12, .f32, .rw, 0, .any, .nv⟩,
  ⟨0x5100, 16, 1, 13, 13, .f32, .rw, 0, .any, .nv⟩,
  ⟨0x5100, 16, 1, 14, 14, .f32, .rw, 0, .any, .nv⟩,
  ⟨0x5100, 16, 1, 15, 15, .f32, .rw, 0, .any, .nv⟩,
  ⟨0x5100, 16, 1, 16, 16, .u16, .rw, 8, (.ints [(1, 65535)]), .nv⟩,
  ⟨0x5100, 16, 1, 17, 17, .u8, .rw, 0, (.ints [(0, 1)]), .nv⟩,
  ⟨0x5100, 16, 1, 18, 18, .u8, .wo, 0, (.ints [(1, 2)]), .vol⟩,
  ⟨0x5100, 16, 1, 19, 19, .u16, .rw, 0, .any, .vol⟩,
  ⟨0x5100, 16, 1, 20, 20, .u8, .ro, 0, .any, .vol⟩,
  ⟨0x5100, 16, 1, 21, 24, .f32, .ro, 0, .any, .vol⟩,
  ⟨0x5100, 16, 1, 25, 25, .f32, .ro, 0, .any, .vol⟩,
  ⟨0x5100, 16, 1, 26, 26, .f32, .ro, 0, .any, .vol⟩,
  ⟨0x5100, 16, 1, 27, 27, .u8, .ro, 0, .any, .vol⟩,
  ⟨0x5100, 16, 1, 28, 28, .f32, .rw, 0, .any, .vol⟩,
  ⟨0x5100, 16, 1, 29, 29, .u32, .rw, 0, .any, .nv⟩,
  ⟨0x5100, 16, 1, 30, 30, .u32, .rw, 0, .any, .nv⟩]

def objPage52_0 : List ObjRow := [
  ⟨0x5200, 96, 1, 1, 1, .bfp, .rw, 0, .any, .nv⟩,
  ⟨0x5200, 96, 1, 2, 5, .u32, .rw, 0, .any, .nv⟩,
  ⟨0x5200, 96, 1, 6, 6, .bfp, .ro, 0, .any, .vol⟩,
  ⟨0x5200, 96, 1, 7, 10, .u32, .ro, 0, .any, .vol⟩,
  ⟨0x5200, 96, 1, 11, 11, .u32, .ro, 0, .any, .vol⟩,
  ⟨0x5200, 96, 1, 12, 12, .u32, .ro, 0, .any, .vol⟩,
  ⟨0x5200, 96, 1, 13, 13, .u8, .rw, 0, .any, .vol⟩,
  ⟨0x5200, 96, 1, 14, 14, .u32, .ro, 0, .any, .vol⟩]

def objPage54_0 : List ObjRow := [
  ⟨0x5400, 1, 1, 1, 1, .f32, .rw, 0, .tenths (0) (20000), .nv⟩,
  ⟨0x5400, 1, 1, 2, 2, .u8, .rw, 0, (.ints [(0, 4)]), .nv⟩,
  ⟨0x5400, 1, 1, 3, 3, .u8, .rw, 0, (.ints [(0, 15)]), .nv⟩,
  ⟨0x5400, 1, 1, 4, 4, .u8, .rw, 0, (.ints [(0, 1)]), .nv⟩,
  ⟨0x5400, 1, 1, 5, 5, .u16, .rw, 50, (.ints [(1, 200)]), .nv⟩,
  ⟨0x5400, 1, 1, 6, 6, .f32, .rw, 0, .any, .nv⟩,
  ⟨0x5400, 1, 1, 7, 7, .u8, .rw, 11, (.ints [(9, 15)]), .nv⟩,
  ⟨0x5400, 1, 1, 8, 8, .u16, .rw, 1, (.ints [(1, 256)]), .nv⟩,
  ⟨0x5400, 1, 1, 9, 9, .u32, .rw, 100, (.ints [(100, 1000000)]), .nv⟩,
  ⟨0x5400, 1, 1, 10, 10, .u32, .rw, 1000000, (.ints [(100, 1000000)]), .nv⟩,
  ⟨0x5400, 1, 1, 11, 11, .u16, .rw, 60, (.ints [(1, 3600)]), .nv⟩,
  ⟨0x5400, 1, 1, 12, 12, .time80, .rw, 0, .any, .nv⟩,
  ⟨0x5400, 1, 1, 13, 13, .u32, .rw, 600, (.ints [(1, 86400)]), .nv⟩,
  ⟨0x5400, 1, 1, 14, 14, .u32, .rw, 0, (.ints [(0, 604800)]), .nv⟩,
  ⟨0x5400, 1, 1, 15, 15, .u8, .wo, 0, (.ints [(1, 1)]), .vol⟩,
  ⟨0x5400, 1, 1, 16, 16, .u8, .wo, 0, (.ints [(1, 1)]), .vol⟩,
  ⟨0x5400, 1, 1, 17, 17, .u8, .ro, 0, .any, .vol⟩,
  ⟨0x5410, 1, 1, 0, 0, .u8, .ro, 16, .any, .fixed⟩,
  ⟨0x5410, 1, 1, 1, 16, .u32, .rw, 0, (.ints [(100, 1000000)]), .nv⟩,
  ⟨0x5411, 1, 1, 1, 16, .f32, .rw, 0, .any, .nv⟩,
  ⟨0x5412, 1, 1, 1, 16, .u16, .rw, 0, .any, .nv⟩,
  ⟨0x5440, 1, 1, 1, 1, .u8, .rw, 8, (.ints [(1, 8)]), .nv⟩,
  ⟨0x5440, 1, 1, 2, 2, .u8, .rw, 255, (.ints [(0, 15), (255, 255)]), .nv⟩,
  ⟨0x5440, 1, 1, 3, 3, .u8, .rw, 25, (.ints [(0, 100)]), .nv⟩,
  ⟨0x5440, 1, 1, 4, 4, .u8, .rw, 0, (.ints [(0, 4)]), .nv⟩,
  ⟨0x5440, 1, 1, 5, 5, .u8, .rw, 1, (.ints [(1, 8)]), .nv⟩,
  ⟨0x5440, 1, 1, 6, 6, .f32, .rw, 0, .any, .nv⟩,
  ⟨0x5440, 1, 1, 7, 7, .u8, .wo, 0, (.ints [(1, 3)]), .vol⟩,
  ⟨0x5440, 1, 1, 8, 8, .u8, .rw, 0, (.ints [(1, 1)]), .vol⟩,
  ⟨0x5440, 1, 1, 9, 9, .u16, .ro, 0, .any, .vol⟩,
  ⟨0x5440, 1, 1, 12, 12, .u8, .rw, 0, (.ints [(0, 2)]), .nv⟩]

def objPage54_1 : List ObjRow := [
  ⟨0x5441, 1, 1, 1, 8, .u16, .rw, 0, .any, .nv⟩,
  ⟨0x5442, 1, 1, 0, 0, .domain, .ro, 0, .any, .vol⟩,
  ⟨0x5480, 16, 1, 1, 1, .u8, .rw, 0, (.ints [(0, 4)]), .nv⟩,
  ⟨0x5480, 16, 1, 2, 2, .f32, .rw, 0, .any, .nv⟩,
  ⟨0x5480, 16, 1, 3, 3, .u16, .rw, 64, (.ints [(1, 4096)]), .nv⟩,
  ⟨0x5480, 16, 1, 4, 4, .u16, .rw, 8, (.ints [(2, 65535)]), .nv⟩,
  ⟨0x5480, 16, 1, 5, 5, .f32, .rw, 0, .any, .nv⟩,
  ⟨0x5480, 16, 1, 6, 6, .u8, .rw, 0, (.ints [(0, 3)]), .nv⟩,
  ⟨0x5480, 16, 1, 7, 7, .u8, .rw, 2, (.ints [(1, 3)]), .nv⟩,
  ⟨0x5480, 16, 1, 8, 8, .u8, .ro, 0, .any, .vol⟩,
  ⟨0x5480, 16, 1, 9, 9, .u16, .ro, 0, .any, .vol⟩,
  ⟨0x5480, 16, 1, 10, 10, .f32, .ro, 0, .any, .vol⟩,
  ⟨0x5480, 16, 1, 11, 11, .u8, .wo, 0, (.ints [(1, 1)]), .vol⟩,
  ⟨0x5480, 16, 1, 12, 12, .u8, .ro, 0, .any, .vol⟩,
  ⟨0x5490, 16, 1, 1, 1, .bfp, .rw, 0, .any, .nv⟩,
  ⟨0x5490, 16, 1, 2, 5, .u32, .rw, 0, .any, .nv⟩]

def objPage56_0 : List ObjRow := [
  ⟨0x5600, 1, 1, 1, 1, .f32, .rw, 0, .tenths (0) (20000), .nv⟩,
  ⟨0x5600, 1, 1, 2, 2, .f32, .rw, 0, .tenths (0) (20000), .nv⟩,
  ⟨0x5600, 1, 1, 3, 3, .f32, .rw, 0, .tenths (0) (25000), .nv⟩,
  ⟨0x5600, 1, 1, 4, 4, .f32, .rw, 0, .tenths (0) (25000), .nv⟩,
  ⟨0x5600, 1, 1, 6, 6, .u8, .rw, 8, (.ints [(2, 64)]), .nv⟩,
  ⟨0x5600, 1, 1, 7, 7, .u8, .ro, 0, .any, .vol⟩,
  ⟨0x5600, 1, 1, 8, 8, .f32, .ro, 0, .any, .vol⟩,
  ⟨0x5600, 1, 1, 9, 9, .f32, .ro, 0, .any, .vol⟩,
  ⟨0x5600, 1, 1, 10, 10, .u8, .ro, 0, .any, .vol⟩,
  ⟨0x5600, 1, 1, 11, 11, .u8, .ro, 0, .any, .vol⟩,
  ⟨0x5600, 1, 1, 12, 12, .u32, .ro, 0, .any, .vol⟩,
  ⟨0x5600, 1, 1, 13, 13, .u32, .ro, 0, .any, .vol⟩,
  ⟨0x5600, 1, 1, 14, 14, .f32, .ro, 0, .any, .vol⟩,
  ⟨0x5600, 1, 1, 15, 15, .f32, .rw, 1148846080, .tenths (100) (50000), .nv⟩,
  ⟨0x5620, 1, 1, 1, 1, .u32, .ro, 0, .any, .nv⟩,
  ⟨0x5620, 1, 1, 2, 2, .u32, .ro, 0, .any, .vol⟩]

def objPage58_0 : List ObjRow := [
  ⟨0x5810, 4, 1, 1, 1, .u8, .rw, 1, (.ints [(0, 2)]), .nv⟩,
  ⟨0x5810, 4, 1, 2, 2, .u16, .rw, 1536, (.ints [(1536, 1536), (1280, 1295)]), .nv⟩,
  ⟨0x5810, 4, 1, 3, 3, .f32, .rw, 0, .any, .vol⟩,
  ⟨0x5810, 2, 1, 4, 4, .f32, .rw, 0, .nonNegative, .nv⟩,
  ⟨0x5810, 2, 1, 5, 5, .f32, .rw, 0, .nonNegative, .nv⟩,
  ⟨0x5810, 2, 1, 6, 6, .f32, .rw, 0, .nonNegative, .nv⟩,
  ⟨0x5810, 2, 1, 7, 7, .f32, .rw, 1120403456, .positive, .nv⟩,
  ⟨0x5810, 2, 1, 8, 8, .f32, .rw, 1148846080, .positive, .nv⟩,
  ⟨0x5810, 2, 1, 9, 9, .f32, .rw, 1148846080, .positive, .nv⟩,
  ⟨0x5810, 2, 1, 10, 10, .f32, .rw, 1148846080, .positive, .nv⟩,
  ⟨0x5810, 2, 1, 11, 11, .f32, .rw, 1148846080, .positive, .nv⟩,
  ⟨0x5810, 2, 1, 12, 12, .f32, .rw, 3296329728, .any, .nv⟩,
  ⟨0x5810, 2, 1, 13, 13, .f32, .rw, 1148846080, .any, .nv⟩,
  ⟨0x5810, 4, 1, 14, 14, .u8, .wo, 0, (.ints [(1, 2)]), .vol⟩,
  ⟨0x5810, 2, 1, 15, 15, .f32, .rw, 1120403456, .positive, .nv⟩,
  ⟨0x5812, 2, 1, 4, 4, .f32, .rw, 1137180672, .nonNegative, .nv⟩,
  ⟨0x5812, 2, 1, 5, 5, .f32, .rw, 1137180672, .nonNegative, .nv⟩,
  ⟨0x5812, 2, 1, 6, 6, .f32, .rw, 1157234688, .nonNegative, .nv⟩,
  ⟨0x5812, 2, 1, 7, 7, .f32, .rw, 1165623296, .positive, .nv⟩,
  ⟨0x5812, 2, 1, 8, 8, .f32, .rw, 1184645120, .positive, .nv⟩,
  ⟨0x5812, 2, 1, 9, 9, .f32, .rw, 1176256512, .positive, .nv⟩,
  ⟨0x5812, 2, 1, 10, 10, .f32, .rw, 1184645120, .positive, .nv⟩,
  ⟨0x5812, 2, 1, 11, 11, .f32, .rw, 1176256512, .positive, .nv⟩,
  ⟨0x5812, 2, 1, 12, 12, .f32, .rw, 0, .any, .nv⟩,
  ⟨0x5812, 2, 1, 13, 13, .f32, .rw, 1179123712, .any, .nv⟩,
  ⟨0x5812, 2, 1, 15, 15, .f32, .rw, 1165623296, .positive, .nv⟩,
  ⟨0x5820, 4, 1, 1, 1, .f32, .ro, 0, .any, .mir⟩,
  ⟨0x5820, 4, 1, 2, 2, .f32, .ro, 0, .any, .mir⟩,
  ⟨0x5820, 4, 1, 3, 3, .f32, .ro, 0, .any, .mir⟩,
  ⟨0x5820, 4, 1, 4, 4, .u8, .ro, 0, .any, .mir⟩]

def objPage58_1 : List ObjRow := [
  ⟨0x5820, 4, 1, 5, 5, .f32, .ro, 0, .any, .mir⟩,
  ⟨0x5820, 4, 1, 6, 6, .u32, .ro, 0, .any, .vol⟩,
  ⟨0x5820, 4, 1, 7, 7, .f32, .ro, 0, .any, .mir⟩,
  ⟨0x5830, 2, 1, 1, 1, .i32, .rw, 1, .any, .nv⟩,
  ⟨0x5830, 2, 1, 2, 2, .u32, .rw, 1, (.ints [(1, 4294967295)]), .nv⟩,
  ⟨0x5830, 2, 1, 3, 3, .i32, .rw, 1, .any, .nv⟩,
  ⟨0x5830, 2, 1, 4, 4, .u32, .rw, 1, (.ints [(1, 4294967295)]), .nv⟩,
  ⟨0x5830, 2, 1, 5, 5, .u32, .rw, 0, .any, .nv⟩,
  ⟨0x5830, 2, 1, 6, 6, .bool, .rw, 0, .any, .nv⟩,
  ⟨0x5830, 2, 1, 7, 7, .u8, .wo, 0, (.ints [(1, 2)]), .vol⟩,
  ⟨0x5830, 2, 1, 8, 8, .f32, .rw, 1148846080, .positive, .nv⟩,
  ⟨0x5830, 2, 1, 9, 9, .f32, .rw, 1120403456, .positive, .nv⟩,
  ⟨0x5830, 2, 1, 10, 10, .f32, .rw, 1065353216, .tenths (1) (600), .nv⟩,
  ⟨0x5830, 2, 1, 11, 11, .f32, .rw, 1148846080, .positive, .nv⟩,
  ⟨0x5830, 2, 1, 12, 12, .f32, .ro, 0, .any, .mir⟩,
  ⟨0x5830, 2, 1, 13, 13, .u32, .ro, 0, .any, .mir⟩,
  ⟨0x5830, 2, 1, 14, 14, .u8, .ro, 0, .any, .mir⟩,
  ⟨0x5840, 2, 1, 1, 1, .u16, .rw, 1000, (.ints [(100, 2000)]), .nv⟩,
  ⟨0x5840, 2, 1, 2, 2, .u8, .rw, 30, (.ints [(0, 100)]), .nv⟩,
  ⟨0x5840, 2, 1, 3, 3, .u16, .rw, 500, (.ints [(10, 10000)]), .nv⟩,
  ⟨0x5840, 1, 1, 4, 4, .u8, .rw, 0, (.ints [(0, 7)]), .nv⟩,
  ⟨0x5840, 2, 1, 5, 5, .bool, .rw, 1, .any, .nv⟩,
  ⟨0x5840, 2, 1, 6, 6, .u8, .rw, 0, (.ints [(0, 1)]), .nv⟩,
  ⟨0x5840, 2, 1, 7, 7, .f32, .rw, 1157234688, .any, .nv⟩,
  ⟨0x5840, 2, 1, 8, 8, .f32, .rw, 1128792064, .any, .nv⟩,
  ⟨0x5840, 2, 1, 9, 9, .f32, .rw, 1137180672, .tenths (160) (128000), .nv⟩,
  ⟨0x5840, 2, 1, 10, 10, .f32, .rw, 1182400512, .any, .nv⟩,
  ⟨0x5840, 2, 1, 11, 11, .u16, .rw, 5, (.ints [(1, 100)]), .nv⟩,
  ⟨0x5840, 2, 1, 12, 12, .u16, .rw, 100, (.ints [(10, 2000)]), .nv⟩,
  ⟨0x5840, 2, 1, 13, 13, .f32, .rw, 0, .any, .nv⟩]

def objPage58_2 : List ObjRow := [
  ⟨0x5840, 2, 1, 14, 14, .u8, .wo, 0, (.ints [(1, 1)]), .vol⟩,
  ⟨0x5840, 2, 1, 15, 15, .u8, .ro, 0, .any, .mir⟩,
  ⟨0x5840, 2, 1, 16, 16, .f32, .ro, 0, .any, .mir⟩,
  ⟨0x5840, 2, 1, 17, 17, .time80, .ro, 0, .any, .vol⟩,
  ⟨0x5840, 2, 1, 18, 18, .u16, .ro, 0, .any, .vol⟩,
  ⟨0x5840, 2, 1, 19, 19, .u8, .ro, 0, .any, .vol⟩,
  ⟨0x5840, 2, 1, 20, 20, .bool, .rw, 0, .any, .nv⟩,
  ⟨0x5841, 1, 1, 4, 4, .u8, .rw, 1, (.ints [(0, 7)]), .nv⟩]

def objPage60_0 : List ObjRow := [
  ⟨0x6000, 1, 1, 1, 1, .u16, .ro, 0, .any, .mir⟩,
  ⟨0x6001, 1, 1, 1, 1, .i16, .ro, 0, .any, .vol⟩,
  ⟨0x6001, 1, 1, 2, 2, .i16, .ro, 0, .any, .vol⟩,
  ⟨0x6001, 1, 1, 3, 3, .u16, .ro, 0, .any, .vol⟩,
  ⟨0x6001, 1, 1, 4, 4, .u16, .ro, 0, .any, .vol⟩,
  ⟨0x6010, 16, 1, 1, 1, .u8, .rw, 0, (.ints [(0, 2)]), .nv⟩,
  ⟨0x6010, 16, 1, 2, 2, .u16, .rw, 10080, (.ints [(10000, 11000)]), .nv⟩,
  ⟨0x6010, 16, 1, 3, 3, .u8, .rw, 0, (.ints [(0, 1)]), .nv⟩,
  ⟨0x6010, 16, 1, 4, 4, .u16, .rw, 0, (.ints [(0, 2000)]), .nv⟩,
  ⟨0x6010, 16, 1, 5, 5, .u8, .rw, 0, (.ints [(0, 1)]), .nv⟩,
  ⟨0x6010, 16, 1, 6, 6, .f32, .rw, 1176256512, .tenths (1000) (10000000), .nv⟩,
  ⟨0x6010, 16, 1, 7, 7, .f32, .rw, 1163309056, .tenths (10000) (60000), .nv⟩,
  ⟨0x6010, 16, 1, 8, 10, .f32, .rw, 0, .any, .nv⟩,
  ⟨0x6010, 16, 1, 11, 11, .i16, .rw, 0, (.ints [(-160, 160)]), .nv⟩,
  ⟨0x6010, 16, 1, 12, 12, .i16, .rw, 32767, .any, .nv⟩,
  ⟨0x6010, 16, 1, 13, 13, .i16, .rw, 32767, .any, .nv⟩,
  ⟨0x6010, 16, 1, 14, 14, .i16, .ro, 0, .any, .vol⟩,
  ⟨0x6010, 16, 1, 15, 15, .u8, .ro, 4, .any, .vol⟩,
  ⟨0x6010, 16, 1, 16, 16, .u16, .ro, 0, .any, .vol⟩,
  ⟨0x6030, 1, 1, 1, 1, .i8, .rw, 0, (.ints [(-30, 20)]), .nv⟩,
  ⟨0x6030, 1, 1, 2, 2, .i8, .rw, 55, (.ints [(30, 70)]), .nv⟩,
  ⟨0x6030, 1, 1, 3, 3, .i8, .rw, -20, (.ints [(-40, 0)]), .nv⟩,
  ⟨0x6030, 1, 1, 4, 4, .i8, .rw, 60, (.ints [(40, 75)]), .nv⟩,
  ⟨0x6030, 1, 1, 5, 5, .u8, .rw, 20, (.ints [(5, 100)]), .nv⟩,
  ⟨0x6030, 1, 1, 6, 6, .u16, .rw, 60, (.ints [(10, 3600)]), .nv⟩,
  ⟨0x6040, 1, 1, 1, 1, .i16, .ro, 0, .any, .vol⟩,
  ⟨0x6040, 1, 1, 2, 2, .bool, .ro, 0, .any, .vol⟩,
  ⟨0x6040, 1, 1, 3, 3, .u16, .ro, 0, .any, .vol⟩,
  ⟨0x6040, 1, 1, 4, 4, .bool, .ro, 0, .any, .vol⟩,
  ⟨0x6040, 1, 1, 5, 5, .u32, .ro, 0, .any, .nv⟩]

def objPage60_1 : List ObjRow := [
  ⟨0x6050, 1, 1, 1, 1, .i8, .rw, 48, (.ints [(20, 70)]), .nv⟩,
  ⟨0x6050, 1, 1, 2, 2, .u8, .rw, 20, (.ints [(5, 100)]), .nv⟩,
  ⟨0x6050, 1, 1, 3, 3, .u16, .rw, 60, (.ints [(1, 3600)]), .nv⟩,
  ⟨0x6050, 1, 1, 4, 4, .i8, .rw, 80, (.ints [(40, 120)]), .nv⟩,
  ⟨0x6050, 1, 1, 5, 5, .u16, .rw, 25, (.ints [(0, 200)]), .nv⟩,
  ⟨0x6050, 1, 1, 6, 6, .u16, .rw, 30, (.ints [(0, 600)]), .nv⟩,
  ⟨0x6050, 1, 1, 7, 7, .f32, .rw, 1092616192, .tenths (1) (10000), .nv⟩,
  ⟨0x6050, 1, 1, 8, 8, .u8, .ro, 0, .any, .mir⟩,
  ⟨0x6050, 1, 1, 9, 9, .u8, .ro, 0, .any, .mir⟩,
  ⟨0x6050, 1, 1, 10, 10, .u8, .wo, 0, (.ints [(1, 1)]), .vol⟩,
  ⟨0x6050, 1, 1, 11, 11, .u16, .ro, 0, .any, .mir⟩,
  ⟨0x6050, 1, 1, 12, 12, .u32, .ro, 0, .any, .nv⟩,
  ⟨0x6060, 1, 1, 1, 1, .i8, .rw, 62, (.ints [(40, 80)]), .nv⟩,
  ⟨0x6060, 1, 1, 2, 2, .u8, .wo, 0, (.ints [(1, 1)]), .vol⟩,
  ⟨0x6060, 1, 1, 3, 3, .u16, .rw, 15000, (.ints [(1000, 60000)]), .nv⟩,
  ⟨0x6060, 1, 1, 4, 4, .u8, .rw, 8, (.ints [(2, 64)]), .nv⟩,
  ⟨0x6060, 1, 1, 5, 5, .u16, .rw, 50, (.ints [(10, 500)]), .nv⟩,
  ⟨0x6060, 1, 1, 6, 6, .u8, .ro, 0, .any, .mir⟩,
  ⟨0x6060, 1, 1, 7, 7, .u8, .ro, 0, .any, .mir⟩,
  ⟨0x6070, 1, 1, 1, 1, .u32, .rw, 416, (.ints [(0, 536870911)]), .nv⟩,
  ⟨0x6070, 1, 1, 2, 2, .u8, .rw, 0, (.ints [(0, 1)]), .nv⟩,
  ⟨0x6070, 1, 1, 3, 3, .u16, .rw, 1000, (.ints [(100, 10000)]), .nv⟩]

def objPage68_0 : List ObjRow := [
  ⟨0x6800, 1, 1, 1, 1, .u8, .ro, 5, .any, .vol⟩,
  ⟨0x6801, 1, 1, 0, 0, .u32, .ro, 0, .any, .vol⟩,
  ⟨0x6802, 1, 1, 0, 0, .u32, .ro, 0, .any, .vol⟩,
  ⟨0x6803, 1, 1, 1, 1, .u8, .ro, 0, .any, .vol⟩,
  ⟨0x6803, 1, 1, 2, 2, .u32, .ro, 0, .any, .vol⟩,
  ⟨0x6803, 1, 1, 3, 3, .u16, .ro, 0, .any, .vol⟩,
  ⟨0x6810, 1, 1, 1, 1, .f32, .rws, 0, .tenths (0) (20000), .nvs⟩,
  ⟨0x6810, 1, 1, 2, 2, .f32, .rws, 0, .tenths (0) (20000), .nvs⟩,
  ⟨0x6810, 1, 1, 3, 3, .f32, .rws, 1092616192, .tenths (10) (2000), .nvs⟩,
  ⟨0x6810, 1, 1, 4, 4, .f32, .rws, 1101004800, .tenths (10) (2000), .nvs⟩,
  ⟨0x6810, 1, 1, 5, 5, .u16, .rws, 1, (.ints [(1, 60)]), .nvs⟩,
  ⟨0x6810, 1, 1, 6, 6, .u8, .rws, 50, (.ints [(10, 90)]), .nvs⟩,
  ⟨0x6810, 1, 1, 7, 7, .u32, .rws, 3600, (.ints [(60, 86400)]), .nvs⟩,
  ⟨0x6811, 1, 1, 1, 1, .f32, .rws, 0, .tenths (0) (20000), .nvs⟩,
  ⟨0x6811, 1, 1, 2, 2, .f32, .rws, 0, .tenths (0) (20000), .nvs⟩,
  ⟨0x6820, 1, 1, 1, 1, .u32, .rws, 0, (.ints [(0, 5000000)]), .nvs⟩,
  ⟨0x6820, 1, 1, 2, 2, .u32, .rws, 0, (.ints [(0, 5000000)]), .nvs⟩,
  ⟨0x6820, 1, 1, 3, 3, .u16, .rws, 1000, (.ints [(100, 10000)]), .nvs⟩,
  ⟨0x6821, 1, 1, 1, 1, .u16, .rws, 0, (.ints [(0, 5000)]), .nvs⟩,
  ⟨0x6821, 1, 1, 2, 2, .u16, .rws, 0, (.ints [(0, 5000)]), .nvs⟩,
  ⟨0x6821, 1, 1, 3, 3, .i8, .rws, 70, (.ints [(40, 100)]), .nvs⟩,
  ⟨0x6830, 1, 1, 1, 1, .i8, .rws, 65, (.ints [(-40, 100)]), .nvs⟩,
  ⟨0x6830, 1, 1, 2, 2, .i8, .rws, -30, (.ints [(-40, 100)]), .nvs⟩,
  ⟨0x6830, 1, 1, 3, 3, .u16, .rws, 60, (.ints [(5, 600)]), .nvs⟩,
  ⟨0x6840, 1, 1, 1, 1, .f32, .rws, 0, .tenths (0) (50000), .nvs⟩,
  ⟨0x6840, 1, 1, 2, 2, .f32, .rws, 0, .tenths (0) (50000), .nvs⟩,
  ⟨0x6840, 1, 1, 3, 3, .f32, .rws, 0, .tenths (0) (25000), .nvs⟩,
  ⟨0x6840, 1, 1, 4, 4, .f32, .rws, 0, .tenths (0) (25000), .nvs⟩,
  ⟨0x6840, 1, 1, 5, 5, .u32, .ro, 0, .any, .vol⟩,
  ⟨0x6850, 1, 1, 1, 1, .u8, .rws, 0, (.ints [(0, 3)]), .nvs⟩]

def objPage68_1 : List ObjRow := [
  ⟨0x6850, 1, 1, 2, 2, .u8, .rw, 0, (.ints [(0, 3)]), .vol⟩,
  ⟨0x6850, 1, 1, 3, 3, .u8, .ro, 0, .any, .vol⟩,
  ⟨0x6850, 1, 1, 4, 4, .f32, .rws, 1084227584, .tenths (10) (1000), .nvs⟩,
  ⟨0x6850, 1, 1, 5, 5, .u8, .rws, 8, (.ints [(1, 64)]), .nvs⟩,
  ⟨0x6860, 1, 1, 1, 1, .u8, .wo, 0, (.ints [(1, 1)]), .vol⟩,
  ⟨0x6870, 1, 1, 1, 1, .bool, .rws, 0, .any, .nvs⟩,
  ⟨0x6870, 1, 1, 2, 2, .u8, .wo, 0, (.ints [(1, 1)]), .vol⟩,
  ⟨0x6870, 1, 1, 3, 3, .u8, .ro, 0, .any, .vol⟩,
  ⟨0x6870, 1, 1, 4, 4, .bool, .rws, 0, .any, .nvs⟩,
  ⟨0x6880, 1, 1, 1, 1, .u8, .rw, 0, (.ints [(0, 1)]), .vol⟩,
  ⟨0x6880, 1, 1, 2, 2, .f32, .rws, 1092616192, .tenths (10) (1000), .nvs⟩,
  ⟨0x6880, 1, 1, 3, 3, .u16, .rws, 5000, (.ints [(500, 30000)]), .nvs⟩,
  ⟨0x6880, 1, 1, 4, 4, .u8, .ro, 0, .any, .vol⟩,
  ⟨0x6880, 1, 1, 5, 5, .u16, .ro, 0, .any, .vol⟩,
  ⟨0x6880, 1, 1, 6, 6, .u8, .rw, 40, (.ints [(20, 100)]), .nv⟩,
  ⟨0x6880, 1, 1, 7, 7, .u8, .wo, 0, (.ints [(1, 1)]), .vol⟩,
  ⟨0x6890, 1, 1, 1, 1, .str, .wo, 0, .any, .nvs⟩,
  ⟨0x6890, 1, 1, 2, 2, .u16, .ro, 0, .any, .nv⟩,
  ⟨0x6890, 1, 1, 3, 3, .u32, .ro, 0, .any, .nv⟩,
  ⟨0x6890, 1, 1, 4, 4, .bool, .ro, 0, .any, .nv⟩,
  ⟨0x6891, 1, 1, 0, 0, .domain, .ro, 0, .any, .nv⟩,
  ⟨0x6891, 1, 1, 1, 1, .u32, .ro, 0, .any, .nv⟩,
  ⟨0x6891, 1, 1, 2, 2, .domain, .ro, 0, .any, .nv⟩]

def objPage70_0 : List ObjRow := [
  ⟨0x7000, 1, 1, 1, 1, .u8, .rw, 0, (.ints [(0, 1)]), .nv⟩,
  ⟨0x7000, 1, 1, 2, 2, .u8, .rw, 0, (.ints [(0, 2)]), .nv⟩,
  ⟨0x7000, 1, 1, 3, 3, .bool, .rw, 0, .any, .nv⟩,
  ⟨0x7000, 1, 1, 4, 4, .u8, .rw, 4, (.ints [(1, 64)]), .nv⟩,
  ⟨0x7000, 1, 1, 5, 5, .u16, .rw, 4096, (.ints [(256, 65535)]), .nv⟩,
  ⟨0x7000, 1, 1, 6, 6, .u8, .rw, 64, (.ints [(16, 255)]), .nv⟩,
  ⟨0x7000, 1, 1, 7, 7, .u16, .rw, 256, (.ints [(256, 65535)]), .nv⟩,
  ⟨0x7000, 1, 1, 8, 8, .u8, .rw, 20, (.ints [(4, 32)]), .nv⟩,
  ⟨0x7000, 1, 1, 9, 9, .bool, .rw, 0, .any, .nv⟩,
  ⟨0x7001, 1, 1, 0, 0, .u8, .ro, 0, .any, .vol⟩,
  ⟨0x7001, 1, 1, 1, 1, .u8, .ro, 0, .any, .vol⟩,
  ⟨0x7002, 1, 1, 1, 1, .u8, .ro, 255, .any, .vol⟩,
  ⟨0x7002, 1, 1, 2, 2, .u16, .ro, 0, .any, .vol⟩,
  ⟨0x7002, 1, 1, 3, 3, .u8, .ro, 255, .any, .vol⟩,
  ⟨0x7003, 1, 1, 0, 0, .u8, .wo, 0, (.ints [(1, 1)]), .vol⟩,
  ⟨0x7005, 1, 1, 0, 0, .u8, .wo, 0, (.ints [(1, 1)]), .vol⟩,
  ⟨0x7006, 1, 1, 1, 1, .u32, .ro, 0, .any, .vol⟩,
  ⟨0x7006, 1, 1, 2, 2, .u8, .ro, 0, .any, .vol⟩,
  ⟨0x7006, 1, 1, 3, 3, .u32, .ro, 0, .any, .vol⟩,
  ⟨0x7006, 1, 1, 4, 4, .bool, .ro, 0, .any, .vol⟩,
  ⟨0x7007, 1, 1, 1, 1, .u8, .ro, 0, .any, .vol⟩,
  ⟨0x7007, 1, 1, 2, 2, .u8, .ro, 0, .any, .vol⟩,
  ⟨0x7008, 1, 1, 1, 1, .u8, .ro, 0, .any, .vol⟩,
  ⟨0x7008, 1, 1, 2, 2, .u32, .ro, 0, .any, .vol⟩,
  ⟨0x7008, 1, 1, 3, 3, .u32, .ro, 0, .any, .vol⟩,
  ⟨0x7008, 1, 1, 4, 4, .u32, .ro, 0, .any, .vol⟩,
  ⟨0x7008, 1, 1, 5, 5, .u32, .ro, 0, .any, .vol⟩,
  ⟨0x7009, 1, 1, 1, 1, .u8, .ro, 0, .any, .vol⟩,
  ⟨0x7009, 1, 1, 2, 2, .u32, .ro, 0, .any, .vol⟩,
  ⟨0x7009, 1, 1, 3, 3, .u16, .ro, 0, .any, .vol⟩]

def objPage70_1 : List ObjRow := [
  ⟨0x700A, 1, 1, 1, 1, .u32, .ro, 0, .any, .nv⟩,
  ⟨0x700A, 1, 1, 2, 2, .u8, .ro, 0, .any, .nv⟩,
  ⟨0x700A, 1, 1, 3, 3, .u16, .ro, 0, .any, .nv⟩,
  ⟨0x7020, 1, 1, 1, 1, .f32, .rw, 1084227584, .any, .nv⟩,
  ⟨0x7020, 10, 1, 2, 2, .bool, .rw, 1, .any, .nv⟩,
  ⟨0x7020, 11, 1, 3, 3, .f32, .ro, 0, .any, .vol⟩,
  ⟨0x7020, 11, 1, 4, 4, .u32, .ro, 0, .any, .vol⟩,
  ⟨0x7021, 1, 1, 1, 1, .f32, .rw, 1073741824, .any, .nv⟩,
  ⟨0x7022, 1, 1, 1, 1, .f32, .rw, 1073741824, .any, .nv⟩,
  ⟨0x7023, 1, 1, 1, 1, .f32, .rw, 0, .any, .nv⟩,
  ⟨0x7024, 1, 1, 1, 1, .f32, .rw, 0, .any, .nv⟩,
  ⟨0x7025, 1, 1, 1, 1, .f32, .rw, 1090519040, .any, .nv⟩,
  ⟨0x7026, 1, 1, 1, 1, .f32, .rw, 0, .any, .nv⟩,
  ⟨0x7027, 1, 1, 1, 1, .f32, .rw, 1115684864, .any, .nv⟩,
  ⟨0x7028, 1, 1, 1, 1, .f32, .rw, 1115684864, .any, .nv⟩,
  ⟨0x7029, 1, 1, 1, 1, .f32, .rw, 1073741824, .any, .nv⟩,
  ⟨0x702A, 1, 1, 1, 1, .f32, .rw, 0, .any, .nv⟩,
  ⟨0x702A, 1, 1, 2, 2, .bool, .rw, 0, .any, .nv⟩]

def objPage78_0 : List ObjRow := [
  ⟨0x7800, 3, 64, 1, 1, .bool, .rw, 1, .any, .nv⟩,
  ⟨0x7800, 3, 64, 2, 2, .u8, .rw, 0, (.ints [(0, 1)]), .nv⟩,
  ⟨0x7800, 3, 64, 3, 3, .u8, .rw, 15, (.ints [(0, 15)]), .nv⟩,
  ⟨0x7800, 3, 64, 4, 4, .u8, .rw, 0, (.ints [(0, 1)]), .nv⟩,
  ⟨0x7800, 3, 64, 5, 5, .u16, .rw, 100, (.ints [(10, 10000)]), .nv⟩,
  ⟨0x7800, 3, 64, 6, 6, .u8, .wo, 0, (.ints [(1, 1)]), .vol⟩,
  ⟨0x7800, 3, 64, 7, 7, .bool, .rw, 0, .any, .nv⟩,
  ⟨0x7800, 3, 64, 8, 8, .u8, .rw, 0, (.ints [(0, 1)]), .nv⟩,
  ⟨0x7800, 3, 64, 9, 9, .u8, .rw, 1, (.ints [(0, 1)]), .nv⟩,
  ⟨0x7801, 3, 64, 1, 1, .u16, .rw, 500, (.ints [(125, 125), (250, 250), (500, 500), (1000, 1000)]), .nv⟩,
  ⟨0x7801, 3, 64, 2, 2, .u16, .rw, 800, (.ints [(700, 875)]), .nv⟩,
  ⟨0x7801, 3, 64, 3, 3, .u16, .rw, 2000, (.ints [(1000, 1000), (2000, 2000), (4000, 4000), (5000, 5000)]), .nv⟩,
  ⟨0x7801, 3, 64, 4, 4, .u16, .rw, 750, (.ints [(600, 800)]), .nv⟩,
  ⟨0x7801, 3, 64, 5, 5, .bool, .rw, 1, .any, .nv⟩,
  ⟨0x7801, 3, 64, 6, 6, .u16, .ro, 0, .any, .vol⟩,
  ⟨0x7802, 3, 64, 1, 1, .u8, .ro, 4, .any, .vol⟩,
  ⟨0x7802, 3, 64, 2, 2, .u16, .ro, 0, .any, .vol⟩,
  ⟨0x7802, 3, 64, 3, 3, .u16, .ro, 0, .any, .vol⟩,
  ⟨0x7802, 3, 64, 4, 4, .u8, .ro, 0, .any, .vol⟩,
  ⟨0x7802, 3, 64, 5, 5, .u32, .ro, 0, .any, .vol⟩,
  ⟨0x7802, 3, 64, 6, 6, .u32, .ro, 0, .any, .vol⟩,
  ⟨0x7802, 3, 64, 7, 7, .u32, .ro, 0, .any, .vol⟩,
  ⟨0x7802, 3, 64, 8, 12, .u32, .ro, 0, .any, .vol⟩,
  ⟨0x7802, 3, 64, 13, 13, .u32, .ro, 0, .any, .vol⟩,
  ⟨0x7802, 3, 64, 14, 14, .u32, .ro, 0, .any, .nv⟩,
  ⟨0x7802, 3, 64, 15, 15, .u8, .ro, 0, .any, .vol⟩,
  ⟨0x7802, 3, 64, 16, 16, .u8, .wo, 0, (.ints [(1, 1)]), .vol⟩,
  ⟨0x7802, 3, 64, 17, 17, .u32, .ro, 0, .any, .vol⟩,
  ⟨0x7808, 3, 64, 1, 1, .domain, .rw, 0, .any, .nv⟩,
  ⟨0x7808, 3, 64, 2, 2, .u8, .ro, 0, .any, .vol⟩]

def objPage78_1 : List ObjRow := [
  ⟨0x7809, 3, 64, 1, 8, .u32, .rw, 0, (.ints [(0, 536870911)]), .nv⟩,
  ⟨0x780A, 3, 64, 1, 8, .u32, .rw, 0, .any, .nv⟩,
  ⟨0x7810, 3, 64, 1, 1, .domain, .ro, 0, .any, .vol⟩,
  ⟨0x7810, 3, 64, 2, 2, .u8, .ro, 0, .any, .vol⟩,
  ⟨0x7810, 3, 64, 3, 3, .u32, .ro, 0, .any, .vol⟩,
  ⟨0x7811, 3, 64, 1, 1, .domain, .ro, 0, .any, .vol⟩,
  ⟨0x7811, 3, 64, 2, 2, .u8, .ro, 0, .any, .vol⟩,
  ⟨0x7811, 3, 64, 3, 3, .u32, .ro, 0, .any, .vol⟩,
  ⟨0x7818, 3, 64, 0, 0, .domain, .wo, 0, .any, .vol⟩,
  ⟨0x7819, 3, 64, 1, 3, .u8, .ro, 0, .any, .vol⟩,
  ⟨0x7819, 3, 64, 4, 4, .u32, .ro, 0, .any, .vol⟩,
  ⟨0x7820, 1, 1, 1, 1, .u32, .rw, 417, (.ints [(0, 536870911)]), .nv⟩,
  ⟨0x7820, 1, 1, 2, 2, .u8, .rw, 0, (.ints [(0, 1)]), .nv⟩,
  ⟨0x7820, 1, 1, 3, 3, .u16, .rw, 400, (.ints [(1, 65535)]), .nv⟩]

def objPage80_0 : List ObjRow := [
  ⟨0x8000, 1, 1, 1, 1, .u32, .ro, 0, .any, .vol⟩,
  ⟨0x8000, 1, 1, 2, 2, .u32, .ro, 0, .any, .vol⟩,
  ⟨0x8000, 1, 1, 3, 3, .u16, .ro, 0, .any, .vol⟩,
  ⟨0x8000, 1, 1, 4, 4, .u32, .ro, 0, .any, .vol⟩,
  ⟨0x8000, 1, 1, 5, 5, .u16, .ro, 0, .any, .vol⟩,
  ⟨0x8002, 1, 1, 0, 0, .domain, .ro, 0, .any, .nv⟩,
  ⟨0x8002, 1, 1, 1, 8, .domain, .ro, 0, .any, .nv⟩,
  ⟨0x8003, 1, 1, 1, 1, .u16, .rw, 0, .any, .vol⟩,
  ⟨0x8003, 1, 1, 2, 2, .u8, .ro, 0, .any, .vol⟩,
  ⟨0x8003, 1, 1, 3, 3, .u8, .ro, 0, .any, .vol⟩,
  ⟨0x8003, 1, 1, 4, 4, .u16, .ro, 0, .any, .vol⟩,
  ⟨0x8011, 1, 1, 1, 1, .u16, .rw, 16, (.ints [(0, 1024)]), .nv⟩,
  ⟨0x8011, 1, 1, 2, 2, .u32, .rw, 1000, (.ints [(0, 1000000)]), .nv⟩,
  ⟨0x8012, 1, 1, 1, 1, .u16, .rw, 8, (.ints [(0, 1024)]), .nv⟩,
  ⟨0x8012, 1, 1, 2, 2, .u32, .rw, 200, (.ints [(0, 1000000)]), .nv⟩,
  ⟨0x8013, 1, 1, 1, 1, .u16, .rw, 4, (.ints [(0, 1024)]), .nv⟩,
  ⟨0x8013, 1, 1, 2, 2, .u32, .rw, 100, (.ints [(0, 1000000)]), .nv⟩,
  ⟨0x8014, 1, 1, 1, 1, .u16, .rw, 8, (.ints [(0, 1024)]), .nv⟩,
  ⟨0x8014, 1, 1, 2, 2, .u32, .rw, 1000, (.ints [(0, 1000000)]), .nv⟩,
  ⟨0x8015, 1, 1, 1, 1, .u16, .rw, 1024, (.ints [(64, 8192)]), .nv⟩,
  ⟨0x8015, 1, 1, 2, 2, .u32, .rw, 200000, (.ints [(1000, 5000000)]), .nv⟩,
  ⟨0x8016, 1, 1, 1, 1, .u32, .ro, 0, .any, .vol⟩,
  ⟨0x8016, 1, 1, 2, 2, .u32, .ro, 0, .any, .vol⟩]

def objPageA0_0 : List ObjRow := [
  ⟨0xA000, 1, 1, 1, 1, .u8, .wo, 0, (.ints [(1, 3)]), .vol⟩,
  ⟨0xA000, 1, 1, 2, 2, .u8, .ro, 0, .any, .vol⟩,
  ⟨0xA000, 1, 1, 3, 3, .u8, .rw, 0, (.ints [(0, 1)]), .nv⟩,
  ⟨0xA001, 1, 1, 1, 1, .u32, .ro, 0, .any, .nv⟩,
  ⟨0xA001, 1, 1, 2, 2, .u32, .ro, 0, .any, .nv⟩,
  ⟨0xA001, 1, 1, 3, 3, .u32, .ro, 0, .any, .nv⟩,
  ⟨0xA001, 1, 1, 4, 4, .u32, .ro, 0, .any, .nv⟩,
  ⟨0xA001, 1, 1, 5, 5, .time80, .ro, 0, .any, .nv⟩,
  ⟨0xA001, 1, 1, 6, 6, .domain, .ro, 0, .any, .nv⟩,
  ⟨0xA010, 1, 1, 0, 0, .domain, .wo, 0, .any, .vol⟩,
  ⟨0xA011, 1, 1, 1, 1, .u8, .ro, 0, .any, .vol⟩,
  ⟨0xA011, 1, 1, 2, 2, .u8, .ro, 0, .any, .vol⟩,
  ⟨0xA011, 1, 1, 3, 3, .u8, .wo, 0, (.ints [(1, 1)]), .vol⟩,
  ⟨0xA011, 1, 1, 4, 4, .bool, .rws, 0, .any, .nvs⟩,
  ⟨0xA012, 1, 1, 0, 0, .domain, .rws, 0, .any, .nvs⟩,
  ⟨0xA020, 1, 1, 1, 1, .u16, .ro, 0, .any, .vol⟩,
  ⟨0xA020, 1, 1, 2, 2, .u16, .rw, 10, (.ints [(1, 3600)]), .nv⟩,
  ⟨0xA020, 1, 1, 3, 3, .u32, .ro, 0, .any, .vol⟩,
  ⟨0xA021, 1, 1, 1, 6, .u32, .ro, 0, .any, .vol⟩,
  ⟨0xA022, 1, 1, 1, 6, .u32, .ro, 0, .any, .vol⟩,
  ⟨0xA030, 1, 1, 1, 1, .u32, .ro, 0, .any, .vol⟩,
  ⟨0xA030, 1, 1, 2, 2, .u32, .ro, 0, .any, .vol⟩,
  ⟨0xA030, 1, 1, 3, 3, .u8, .ro, 0, .any, .vol⟩,
  ⟨0xA040, 1, 1, 0, 0, .domain, .ro, 0, .any, .mir⟩,
  ⟨0xA041, 1, 1, 0, 0, .domain, .wo, 0, .any, .vol⟩,
  ⟨0xA042, 1, 1, 0, 0, .u16, .ro, 0, .any, .mir⟩,
  ⟨0xA050, 1, 1, 1, 64, .u8, .ro, 0, .any, .vol⟩,
  ⟨0xA051, 1, 1, 1, 64, .u32, .ro, 0, .any, .vol⟩,
  ⟨0xA060, 1, 1, 1, 1, .u32, .ro, 0, .any, .vol⟩,
  ⟨0xA060, 1, 1, 2, 2, .u32, .ro, 0, .any, .vol⟩]

/-- The rows whose indices lie in page `p` (index / 256). -/
def objPage (p : Nat) : List ObjRow :=
  if p = 0x10 then objPage10_0 else
  if p = 0x11 then objPage11_0 else
  if p = 0x12 then objPage12_0 else
  if p = 0x13 then objPage13_0 else
  if p = 0x14 then objPage14_0 else
  if p = 0x15 then objPage15_0 else
  if p = 0x20 then objPage20_0 ++ objPage20_1 else
  if p = 0x21 then objPage21_0 else
  if p = 0x28 then objPage28_0 ++ objPage28_1 else
  if p = 0x30 then objPage30_0 else
  if p = 0x31 then objPage31_0 else
  if p = 0x34 then objPage34_0 ++ objPage34_1 else
  if p = 0x38 then objPage38_0 else
  if p = 0x40 then objPage40_0 ++ objPage40_1 else
  if p = 0x41 then objPage41_0 else
  if p = 0x44 then objPage44_0 else
  if p = 0x46 then objPage46_0 else
  if p = 0x50 then objPage50_0 else
  if p = 0x51 then objPage51_0 else
  if p = 0x52 then objPage52_0 else
  if p = 0x54 then objPage54_0 ++ objPage54_1 else
  if p = 0x56 then objPage56_0 else
  if p = 0x58 then objPage58_0 ++ objPage58_1 ++ objPage58_2 else
  if p = 0x60 then objPage60_0 ++ objPage60_1 else
  if p = 0x68 then objPage68_0 ++ objPage68_1 else
  if p = 0x70 then objPage70_0 ++ objPage70_1 else
  if p = 0x78 then objPage78_0 ++ objPage78_1 else
  if p = 0x80 then objPage80_0 else
  if p = 0xA0 then objPageA0_0 else
  []

/-- Every page that holds rows. -/
def objPages : List Nat := [0x10, 0x11, 0x12, 0x13, 0x14, 0x15, 0x20, 0x21, 0x28, 0x30, 0x31, 0x34, 0x38, 0x40, 0x41, 0x44, 0x46, 0x50, 0x51, 0x52, 0x54, 0x56, 0x58, 0x60, 0x68, 0x70, 0x78, 0x80, 0xA0]

/-- A row covers `index:sub`. -/
def ObjRow.covers (r : ObjRow) (index sub : Nat) : Bool :=
  decide (r.base ≤ index) && decide (index < r.base + r.count * r.stride) && decide ((index - r.base) % r.stride = 0)
    && decide (r.subLo ≤ sub) && decide (sub ≤ r.subHi)

/-- The first row of a list that covers `index:sub`. -/
def objFind : List ObjRow → Nat → Nat → Option ObjRow
  | [], _, _ => none
  | r :: l, i, sub => if r.covers i sub then some r else objFind l i sub

/-- The row of `index:sub`, if the object maps name it. A bank of the CAN controllers (`B`, R12) and the
CM18 slots reach past the page of their base, so those pages are looked up at the page of the base. -/
def objRow (index sub : Nat) : Option ObjRow := objFind (objPage (index / 256)) index sub

/-- The key of an object in the store. -/
def objKey (index sub : Nat) : Nat := index * 65536 + sub

/-- The objects whose default the map gives as "per card", "per firmware" or not at all because it lies in the card: the
identity, the PTP port corrections, the firmware revisions. -/
def perCardKeys : List Nat := [objKey 0x1000 4, objKey 0x1000 5, objKey 0x1000 7, objKey 0x1010 4, objKey 0x2810 1,
  objKey 0x2810 2, objKey 0x2811 1, objKey 0x2811 2, objKey 0x2050 9, objKey 0x2050 10]

/-- What an object that nothing has written reads as: the default of its row, 0 where the map gives none. -/
def objDefault (k : Nat) : Int :=
  if perCardKeys.contains k then Config.perCard k else
  match objRow (k / 65536) (k % 65536) with
  | some r => r.dflt
  | none => 0

end Sys2Proof.Machine
end

