-- ==== Sys2Proof/Machine/StateClock.lean ====
section
/-!
DEFINITION. State of the frame, Clocktower, the lanes and the event recorder (chapters 01, 02 and 15): what the
spec gives the machine beside the objects of the dictionary.
Marks (notes/assumptions): DESIGN CHOICE 7.
-/
namespace Sys2Proof.Machine

/-- The writer of a host command (R369). -/
inductive Origin where
  | eop
  | service
  | alley
  | safety
  | module
  deriving DecidableEq, Repr

/-- An event request as lane 37 carries it (R411). -/
structure EventReq where
  code : Nat
  src : Nat
  c : Nat
  frame : Nat
  data : List Byte
  trunc : Bool
  userSev : Nat
  /-- [R474] it fell while the host domain was down -/
  down : Bool
  deriving DecidableEq, Repr

/-- A host command as lane 41 carries it (R368, R369): a value for a plain object or the bytes of a DOMAIN,
with the request and the item it answers, or the transfer it ends. -/
structure WriteReq where
  index : Nat
  sub : Nat
  val : Int
  bytes : List Byte
  origin : Origin
  locked : Bool
  seq : Nat
  item : Nat
  tid : Nat
  deriving DecidableEq, Repr

/-- An element of a lane (R65). -/
inductive Elem where
  | nums (l : List Int)
  | bytes (l : List Byte)
  | event (e : EventReq)
  | write (w : WriteReq)
  deriving DecidableEq, Repr

/-- One lane (R63). -/
structure Lane where
  /-- [R65] the unread elements, oldest first -/
  elems : List Elem := []
  /-- [R63] elements of producers that stall on a full WAIT lane, in arrival order -/
  waiting : List Elem := []
  /-- [R63] the counter value at the last discard -/
  lastDrop : Option Nat := none
  deriving DecidableEq, Repr

/-- A comparator (R60, R61). -/
structure Comp where
  /-- [R60] armed -/
  armed : Bool := false
  /-- [R60] edges produced since arming -/
  count : Nat := 0
  /-- [R60] index j of the next leading edge -/
  j : Nat := 0
  /-- [R60] a pulse is in progress -/
  pulse : Bool := false
  /-- [R61] the counter value at which the pulse in progress ends -/
  endC : Nat := 0
  deriving DecidableEq, Repr

/-- A master heard on a port, with the fields best master selection compares (R45, R46). -/
structure Master where
  port : Nat
  ann : Announce
  deriving DecidableEq, Repr

/-- What a PTP port keeps (R48, R49, R51). -/
structure PtpPort where
  /-- [R48] corrected egress time t1 of the Pdelay_Req in flight, in 2^-16 ns -/
  t1 : Option Int := none
  /-- [R48] its sequence number, one higher for each request -/
  reqSeq : Nat := 0
  /-- [R49] the last values of d, newest first, at most 16, in 2^-16 ns -/
  delays : List Int := []
  /-- [R49] master, sequence number and θ of the last Sync measured on the port -/
  last : Option (Nat × Nat × Int) := none
  /-- [R51] consecutive Sync messages missed -/
  missed : Nat := 0
  deriving DecidableEq, Repr

/-- Clocktower. -/
structure Clk where
  /-- [R41] the counter C, 4 ns, 64 bits -/
  c : Nat := 0
  /-- [R41] the offset O, in 2^-16 ns -/
  o : Int := 0
  /-- [R41] the rate ρ in force, in 2^-40 -/
  rho : Int := 0
  /-- [R50] rho_int of the PI filter -/
  rhoInt : Int := 0
  /-- [R51] consecutive samples within the lock threshold -/
  lockRun : Nat := 0
  /-- [R51] consecutive samples above the unlock threshold -/
  unlockRun : Nat := 0
  /-- [R55] the automatic step due at the next boundary, in 2^-16 ns -/
  autoStep : Option Int := none
  /-- [R409] the servo has entered LOCKED since reset -/
  everLocked : Bool := false
  /-- [R51] HOLD was entered from LOCKED -/
  heldLocked : Bool := false
  /-- [R52, R59] counter value from which the holdover limit runs -/
  holdFrom : Nat := 0
  /-- [R52] counter value at the entry into HOLD -/
  heldC : Nat := 0
  /-- [R52] counter value at which plant coherence was lost -/
  lostAt : Nat := 0
  /-- [R51] Sync intervals without θ -/
  thetaMissed : Nat := 0
  /-- [R51] the grandmaster identity the servo follows -/
  grandmaster : Option Nat := none
  /-- [R45] the selected master's identity -/
  selected : Option Nat := none
  /-- [R45] the masters heard -/
  masters : List Master := []
  /-- [R48] port A -/
  portA : PtpPort := {}
  /-- [R48] port B -/
  portB : PtpPort := {}
  /-- [R49] consecutive measurements with the other port's variance below the ratio -/
  hyst : Nat := 0
  /-- [R59] the PPS aid feeds the servo in HOLD (bit 3 of 0x2805:0 shows it) -/
  ppsAid : Bool := false
  /-- [R60] the comparators C0 to C7 that are not at rest, by number -/
  comps : List (Nat × Comp) := []
  deriving DecidableEq, Repr

/-- The frame and the profile. -/
structure Frame where
  /-- [R33] module time of the next boundary, in ns -/
  nextAt : Int := 250000
  /-- [R33] counter value of the last boundary -/
  boundaryC : Nat := 0
  /-- [R34] counter value of the boundary before it -/
  prevC : Nat := 0
  /-- [R44] counter duration of the last whole frame, ns -/
  lastNs : Int := 250000
  /-- [R36, R57] module time, ns, from which the frame in course counts its slots: S(n), after a step the stepped time -/
  sAt : Int := 0
  /-- [R32] S(n) of the frame in course, ns, and the time status 0x2805:0 as it stood then -/
  sNom : Int := 0
  sStat : Int := 0
  /-- [R32, R378] the same of the frame before it -/
  prevAt : Int := 0
  prevStat : Int := 0
  /-- [R167, R170] the profile in which the frame before ran -/
  lastProfile : Int := 0
  /-- [R110] frame number and time status 0x2805:0 at S of the last 16 frames, newest first -/
  stats : List (Nat × Int) := []
  /-- [R38] the windows, 1 to 6, that have overrun in the frame in course -/
  late : List Nat := []
  /-- [R17] the windows whose data a packet that failed its CRC carried in the frame in course -/
  lost : List Nat := []
  /-- [R39] consecutive frames without an overrun -/
  clean : Nat := 0
  /-- [R22] profile and reason to take at the next boundary -/
  change : Option (Nat × Nat) := none
  /-- [R26] counter value at the entry into Guarded -/
  guardedC : Nat := 0
  /-- [R30] frames of the 16-frame filter still to settle -/
  settling : Nat := 0
  /-- [R27] frames since the entry into Park, modulo 4,096 -/
  parkPhase : Nat := 0
  /-- [R27] Park has been entered and its entry actions are due -/
  parkNew : Bool := false
  /-- [R18] the string domain has released itself: 1 no valid packet, 2 J2 loop open; 0 no release -/
  released : Nat := 0
  /-- [R23] counter value from which |string current| has stayed below the rest threshold -/
  restFrom : Option Nat := none
  deriving DecidableEq, Repr

/-- A token bucket, in 2^-16 tokens, as it stood at a counter value (R417). -/
structure Bucket where
  tokens : Int
  at_ : Nat
  deriving DecidableEq, Repr

/-- The event recorder. -/
structure Evt where
  /-- [R412] founding area in MRAM: slot and the 64 bytes stored -/
  founding : List (Nat × List Byte) := []
  /-- [R412] circulating area in MRAM: slot and the 64 bytes stored -/
  circ : List (Nat × List Byte) := []
  /-- [R408] the number of the next record -/
  next : Nat := 1
  /-- [R412] the card has left BLANK once -/
  leftBlank : Bool := false
  /-- [R417] the code buckets in use; a code not listed has a full bucket -/
  buckets : List (Nat × Bucket) := []
  /-- [R417] the global bucket; none means full -/
  global : Option Bucket := none
  /-- [R417] the global limit has been raised in this onset -/
  globalFlag : Bool := false
  /-- [R418] suppressed counts pending, by code -/
  pendingCnt : List (Nat × Nat) := []
  /-- [R418] codes whose pending count has saturated -/
  supsat : List Nat := []
  /-- [R418] counter value of each code's last record or summary -/
  lastRec : List (Nat × Nat) := []
  /-- [R416] severity of the most recent occurrence of each user code -/
  userSev : List (Nat × Nat) := []
  /-- [R474] event codes, sources and data the string domain holds for the next start -/
  deferred : List EventReq := []
  /-- [R429] the start whose RESET record is still to be written: source and the role held before -/
  boot : Option (Nat × Int) := none
  deriving DecidableEq, Repr

end Sys2Proof.Machine
end

