-- ==== Sys2Proof/Machine/StateHost.lean ====
section
/-!
DEFINITION. State of the object server, the sessions, the transfers, PRP and Alley (chapter 13).
Marks (notes/assumptions): DESIGN CHOICE 166.
-/
namespace Sys2Proof.Machine

/-- A handshake between CHALLENGE and PROOF (R360). -/
structure Handshake where
  chan : Channel
  addr : Nat
  udp : Nat
  /-- [R357] the number of its HELLO -/
  seq : Nat
  takeover : Bool
  nc : List Byte
  nm : List Byte
  sid : Nat
  client : List Byte
  /-- [R364] the pre-shared key as it stood at the HELLO -/
  key : List Byte
  deriving DecidableEq, Repr

/-- A session of the object protocol (R359 to R365). -/
structure Session where
  /-- [R360] the session is open -/
  isOpen : Bool := false
  /-- [R360] session identifier -/
  sid : Nat := 0
  /-- [R361] session key -/
  key : List Byte := []
  /-- [R362] client address -/
  addr : Nat := 0
  /-- [R377] client UDP port -/
  udp : Nat := 0
  /-- [R358] client identity -/
  client : List Byte := []
  /-- [R359] highest sequence number accepted, none before the first -/
  high : Option Nat := none
  /-- [R359] numbers accepted among the 64 below the highest -/
  seen : List Nat := []
  /-- [R359] the last 16 requests answered with their stored responses, newest first -/
  answered : List (Nat × List Byte) := []
  /-- [R365] a safety session is open inside this session -/
  safety : Bool := false
  /-- [R365] the nonce of the SAFETY_CHALLENGE outstanding -/
  nonce : Option (List Byte) := none
  /-- [R357] the module's own message number -/
  out : Nat := 0
  deriving DecidableEq, Repr

/-- A segmented transfer (R371, R372). -/
structure Transfer where
  chan : Channel
  tid : Nat
  write : Bool
  index : Nat
  sub : Nat
  len : Nat
  crc : Nat
  data : List Byte
  /-- bytes acknowledged (read) or received in order (write) -/
  acked : Nat
  /-- bytes sent (read) -/
  sentTo : Nat
  window : Nat
  /-- segments received since the last acknowledgement -/
  unacked : Nat
  /-- the whole value has entered lane 41 -/
  queued : Bool
  deriving DecidableEq, Repr

/-- One item of a WRITE whose answer is outstanding or known: object, error once known, status. -/
structure RespItem where
  index : Nat
  sub : Nat
  err : Option Nat
  status : Nat
  deriving DecidableEq, Repr

/-- A WRITE response that waits for its items (R370). -/
structure PendingResp where
  chan : Channel
  seq : Nat
  items : List RespItem
  deriving DecidableEq, Repr

/-- A staged value of the pending set (R373). -/
structure PendEntry where
  index : Nat
  sub : Nat
  val : Int
  rws : Bool
  deriving DecidableEq, Repr

/-- An accepted commit between its checks and its effect (R375). -/
structure Commit where
  entries : List PendEntry
  origin : Origin
  deriving DecidableEq, Repr

/-- The object server. -/
structure HostSt where
  /-- [R362] the session with the plant controller -/
  eop : Session := {}
  /-- [R366] the session on the front service port -/
  service : Session := {}
  /-- [R360] handshakes in progress -/
  shakes : List Handshake := []
  /-- [R360] address and counter value of each failed proof -/
  failures : List (Nat × Nat) := []
  /-- [R360] addresses blocked and the counter value until which -/
  blocked : List (Nat × Nat) := []
  /-- [R371] transfers in progress -/
  transfers : List Transfer := []
  /-- [R370] write responses outstanding -/
  resps : List PendingResp := []
  /-- [R372] transfers whose write has been answered: channel, identifier and error -/
  tidDone : List (Channel × Nat × Nat) := []
  /-- [R369] writes serialised in the frame in course -/
  batch : List WriteReq := []
  /-- [R369] what the guard core and the safety functions have written in a frame: frame number, index and sub-index -/
  rankOne : List (Nat × Nat × Nat) := []
  /-- [R354] serialised writes whose boundary has come -/
  due : List WriteReq := []
  /-- [R373] the pending set -/
  pendSet : List PendEntry := []
  /-- [R375] the accepted commit that has not taken effect -/
  commit : Option Commit := none
  /-- [R368] the error code the last write was answered with -/
  lastErr : Nat := 0
  /-- [R378] set sequence of each publish set -/
  pubSeq : List (Nat × Nat) := []
  /-- [R378] counter value of the last publish drop -/
  pubDrop : Option Nat := none
  /-- [R379] node table: source address and counter value last heard -/
  nodes : List (Nat × Nat) := []
  /-- [R379] frames seen: source, sequence number and counter value -/
  seen : List (Nat × Nat × Nat) := []
  /-- [R379] redundancy control sequence number -/
  prpSeq : Nat := 0
  /-- [R380] counter value of the last frame on each LAN -/
  lanHeard : List (Nat × Nat) := []
  /-- [R380] counter value at which a LAN went down -/
  lanDown : List (Nat × Nat) := []
  /-- [R380] ports on which the wrong-LAN condition stands -/
  wrongLan : List Nat := []
  /-- [R356] IPv4 address in force, taken from 0x1010:1 at reset -/
  ip : Nat := 0
  /-- [R364] the pre-shared key as handshakes use it -/
  psk : List Byte := []
  deriving DecidableEq, Repr

/-- The Alley mailbox (R66). -/
structure Mailbox where
  req : WriteReq
  pushed : Bool
  result : Option Nat
  deriving DecidableEq, Repr

/-- The management target. -/
structure AlleySt where
  /-- [R382] status and payload of the response held -/
  response : Option (Nat × List Byte) := none
  /-- [R66] the mailbox -/
  mailbox : Option Mailbox := none
  /-- [R385] the lock is open -/
  lock : Bool := false
  /-- [R385] the nonce of the LOCK_CHALLENGE outstanding -/
  nonce : Option (List Byte) := none
  deriving DecidableEq, Repr

/-- The safety password and the change log (R291 to R295). -/
structure SafeLog where
  /-- [R291] salt of the stored derivation -/
  salt : List Byte := []
  /-- [R291] the stored derivation, empty while no password is set -/
  derived : List Byte := []
  /-- [R292] counter value at which the lockout in course ends -/
  lockEnd : Option Nat := none
  /-- [R292] length of the last lockout, s -/
  lockSecs : Nat := 0
  /-- [R294] the log's entries by place (sequence number mod 256) -/
  entries : List (Nat × List Byte) := []
  /-- [R294] chain hash of the last entry -/
  chain : List Byte := List.replicate 32 0#8
  /-- [R375] values of a commit cut short that have their entries but are not in force -/
  undone : List PendEntry := []
  /-- [R293, R442] the MODEL's own, not the spec's: for each change-log entry of an RWS write to come, the next first, whether both
  its read-backs fail; none fails past the end of the list (DESIGN CHOICE 166) -/
  fails : List Bool := []
  deriving DecidableEq, Repr

/-- A symbol of the program image (R328). -/
structure Symbol where
  index : Nat
  sub : Nat
  ty : Nat
  flags : Nat
  count : Nat
  region : Nat
  owner : Nat
  size : Nat
  off : Nat
  name : List Byte
  deriving DecidableEq, Repr

/-- An object output of the program image (R329). -/
structure ObjOut where
  index : Nat
  sub : Nat
  ty : Nat
  task : Nat
  safe : Int
  deriving DecidableEq, Repr

end Sys2Proof.Machine
end

