-- ==== Sys2Proof/Machine/StateProgram.lean ====
section
/-!
DEFINITION. State of the cyclic program (chapter 12).
-/
namespace Sys2Proof.Machine

/-- A CAN station of the program image (R329). -/
structure Station where
  num : Nat
  bus : Nat
  flags : Nat
  failCount : Nat
  rxId : Nat
  rxLen : Nat
  txLen : Nat
  rxTimeout : Nat
  txId : Nat
  txPeriod : Nat
  failOff : Nat
  safeOff : Nat
  deriving DecidableEq, Repr

/-- A program image whose checks have passed (R327). -/
structure ProgImage where
  version : Nat
  buildTime : Int
  code : List Byte
  consts : List Byte
  initData : List Byte
  initRetained : List Byte
  symbols : List Symbol
  stations : List Station
  outputs : List ObjOut
  mfMask : Nat
  mfSafe : Nat
  fastEntry : Nat
  backEntry : Nat
  /-- entry, period N and phase of each slow task -/
  slow : List (Nat × Nat × Nat)
  ifCrc : Nat
  retCrc : Nat
  imgCrc : Nat
  table : List Byte
  /-- the image itself -/
  raw : List Byte
  deriving DecidableEq, Repr

/-- A task: 0 fast, 1 to 4 slow 0 to 3, 5 background (R334). -/
structure Task where
  /-- [R334] a run is in progress -/
  running : Bool := false
  /-- counter value of the release of the last run -/
  releaseC : Nat := 0
  /-- [R352, R44] the release time of the last run: ns of counter time -/
  releaseNs : Int := 0
  /-- [R348, R350] the constants the run sees, forced ones with their forced values -/
  consts : List Byte := []
  /-- [R334] the private copy of the input image of the run -/
  image : List Byte := []
  /-- [R340] frame number of that image -/
  imageFrame : Nat := 0
  /-- [R334] a run that has ended hands to the next seal what it wrote to the output image: offset and bytes -/
  out : Option (List (Nat × List Byte)) := none
  /-- [R335] the next run is the first after a start -/
  first : Bool := false
  /-- [R334] the pass in course has been recorded as long -/
  long : Bool := false
  /-- [R337] what the last environment call returned: status and value -/
  ret : Nat × Int := (0, 0)
  deriving DecidableEq, Repr

/-- A force (R349). -/
structure Force where
  name : List Byte
  ty : Nat
  index : Nat
  sub : Nat
  value : Nat
  /-- [R348, R349] the tasks in which it is in force, each with the value it is forced to there -/
  views : List (Nat × Nat) := []
  /-- [R351] what an online change has given the variable beneath it -/
  under : Option (List Byte) := none
  deriving DecidableEq, Repr

/-- A force request under way to its task boundary: 1 set, 2 clear, 3 clear all; the tasks whose release applies it
(R349). -/
structure ForceReq where
  cmd : Nat
  index : Nat
  sub : Nat
  value : Nat
  tasks : List Nat
  /-- one of its tasks has been released -/
  applied : Bool := false
  deriving DecidableEq, Repr

/-- An online change under way (R348), with the tasks that have still to be released; a change that has reached its region
has been applied. -/
structure Change where
  index : Nat
  sub : Nat
  bytes : List Byte
  source : Nat
  tasks : List Nat
  applied : Bool
  deriving DecidableEq, Repr

/-- A station's condition (R341 to R345). -/
structure StationSt where
  /-- [R343] lost -/
  lost : Bool := false
  /-- [R344] images that have shown it lost -/
  images : Nat := 0
  /-- [R341] images since the last valid input, saturating at 15 -/
  age : Nat := 0
  /-- [R343] counter value at which the last valid message arrived -/
  rxC : Nat := 0
  /-- [R338] the last payload received -/
  payload : List Byte := []
  /-- [R345] its outputs were withheld at the last release -/
  withheld : Bool := false
  /-- [R340] frames since its message was last handed on -/
  sincetx : Nat := 0
  /-- [R343] a valid message has been received -/
  heard : Bool := false
  deriving DecidableEq, Repr

/-- A retained checkpoint in MRAM (R346); one that a brown-out cut short is not valid. -/
structure RetCopy where
  valid : Bool
  seq : Nat
  layout : Nat
  opSec : Nat
  region : List Byte
  deriving DecidableEq, Repr

/-- The cyclic program. -/
structure Prog where
  /-- [R332] the active image -/
  image : Option ProgImage := none
  /-- [R330] the staging area -/
  staged : List Byte := []
  /-- [R331] the checked image -/
  checked : Option ProgImage := none
  /-- [R327] data region -/
  data : List Byte := []
  /-- [R346] retained region -/
  retained : List Byte := []
  /-- [R348] constants as online changes have left them -/
  consts : List Byte := []
  /-- [R334] the tasks not at rest -/
  tasks : List (Nat × Task) := []
  /-- [R338] the input image assembled last -/
  input : List Byte := []
  /-- [R340] the output image as the seals have left it -/
  outVec : List Byte := []
  /-- [R349] the forces in force -/
  forces : List Force := []
  /-- [R349] force requests that wait for a task boundary -/
  forceReqs : List ForceReq := []
  /-- [R348] online changes that wait -/
  changes : List Change := []
  /-- [R341] stations not at rest, by station number -/
  stations : List (Nat × StationSt) := []
  /-- [R338, R344] stations lost and payloads received as they stood at the boundary before the last, and at the last -/
  latchOld : List (Nat × Bool × List Byte) := []
  latch : List (Nat × Bool × List Byte) := []
  /-- [R339] plant coherence at the same two boundaries -/
  cohOld : Bool := false
  coh : Bool := false
  /-- [R346] the retained region as it stood at the last output seal -/
  sealedRet : List Byte := []
  /-- [R333] the active image has still to be stored in NOR -/
  storeDue : Bool := false
  /-- [R331] what is being forwarded to the partner: the image and the number of the next block -/
  fwd : Option (List Byte × Nat) := none
  /-- [R331] the image being received from the partner: length and blocks by number -/
  fwdIn : Option (Nat × List (Nat × List Byte)) := none
  /-- [R346] the two MRAM copies, the older first -/
  copies : List RetCopy := []
  /-- [R342] the object outputs take their safe values at the next seal -/
  safeDue : Bool := false
  /-- [R333] images stored in NOR: sequence number and image -/
  stored : List (Nat × ProgImage) := []
  /-- [R340, R376] levels of the MF plain outputs at the last release, bit p for pin p -/
  mfOut : Nat := 0
  /-- [R44, R352] counter time in ns up to the last release of a task, and the counter value there -/
  durNs : Int := 0
  durC : Nat := 0
  /-- [R308] retained pages changed since they were last mirrored -/
  dirty : List Nat := []
  deriving DecidableEq, Repr

end Sys2Proof.Machine
end

