-- ==== Sys2Proof/Machine/StateCan.lean ====
section
/-!
DEFINITION. State of the CAN controllers (chapter 14).
-/
namespace Sys2Proof.Machine

/-- A loaded transmit buffer (R393, R395). -/
structure CanBuf where
  /-- [R391] the 72-byte element -/
  elem : List Byte
  /-- [R393] place in the order of loading -/
  order : Nat
  /-- [R395] failed attempts -/
  attempts : Nat := 0
  /-- [R396] collision-type errors among them -/
  collisions : Nat := 0
  deriving DecidableEq, Repr

/-- A bit rate and a sample point of B+0x01 (R388): kbit/s and 0.1 %. -/
structure CanRate where
  rate : Nat
  point : Nat
  deriving DecidableEq, Repr

/-- A controller: 0 CAN T, 1 CAN C, 2 CAN X. -/
structure CanSt where
  /-- [R388] nominal and data rate in force since the last reset -/
  nominal : CanRate := ⟨500, 800⟩
  data : CanRate := ⟨2000, 750⟩
  /-- [R389] the secondary sample point placed last, ns -/
  second : Rat := 0
  /-- [R393] the three buffers -/
  bufs : List (Option CanBuf) := [none, none, none]
  /-- [R393] the buffer that transmits -/
  sending : Option Nat := none
  /-- [R393] the buffer the next element waits for in order 1 -/
  rotate : Nat := 0
  /-- [R393] buffers loaded so far -/
  loads : Nat := 0
  /-- [R393] the transmit order in force -/
  order : Nat := 0
  /-- [R399] the controller is off the bus, with the counter value from which -/
  off : Option Nat := none
  /-- [R399] the recovery sequence runs -/
  recovering : Bool := false
  /-- [R404] receive queues A and B, oldest first -/
  queueA : List (List Byte) := []
  queueB : List (List Byte) := []
  /-- [R404] entries were discarded since the last one stored -/
  overA : Bool := false
  overB : Bool := false
  /-- [R404] counter value of the last discard -/
  dropA : Option Nat := none
  dropB : Option Nat := none
  /-- [R400] counter value of the last format mismatch of each station -/
  formatC : List (Nat × Nat) := []
  deriving DecidableEq, Repr

end Sys2Proof.Machine
end

