-- ==== Sys2Proof/Machine/StatePower.lean ====
section
/-!
DEFINITION. State of the supplies, the reset causes, the NOR banks, the vault and the life-cycle (chapters 16 and 17).
Marks (notes/assumptions): DESIGN CHOICE 7.
-/
namespace Sys2Proof.Machine

/-- A NOR bank's firmware region (R433): `factory` stands for the image the card was delivered with. -/
structure Bank where
  factory : Bool := false
  image : List Byte := []
  deriving DecidableEq, Repr

/-- The commit marker a start finds set (R437, R442): record kind, address of the target copy, the slice and copy it names, and
whether the target copy's CRC was written. -/
structure Marker where
  kind : Nat
  addr : Nat
  slice : Nat
  copy : Nat
  valid : Bool
  deriving DecidableEq, Repr

/-- The vault (R437). -/
structure Vault where
  /-- [R437] the alive word reads 0xA5C3 -/
  alive : Bool := true
  /-- [R438] half-seconds without main, 33 bits, saturating -/
  halfSecs : Nat := 0
  /-- [R439] power-cycle shadow, 24 bits -/
  shadow : Nat := 0
  /-- [R437] removal latch -/
  removal : Bool := false
  /-- [R437] case-open latch -/
  caseOpen : Bool := false
  /-- [R437] low flag -/
  low : Bool := false
  /-- [R437] commit marker -/
  marker : Option Marker := none
  deriving DecidableEq, Repr

/-- Supplies, resets, banks, life-cycle. -/
structure Pwr where
  /-- [R424] main stands -/
  mainUp : Bool := true
  /-- [R423] the management standby stands -/
  standbyUp : Bool := true
  /-- [R424] the power-fail warning stands -/
  warning : Bool := false
  /-- [R429] the writes of R426 have completed since the warning -/
  flushed : Bool := false
  /-- [R429] standby was lost together with main since the last start -/
  allLost : Bool := false
  /-- [R429] the reset-cause register for the next start -/
  cause : Nat := 1
  /-- [R429] the rail that left its limits -/
  rail : Nat := 0
  /-- [R431] the engine that missed its key: 0 HK, 1 AC2, 2 AC3 -/
  engine : Nat := 0
  /-- [R429] the role held before the reset -/
  prevRole : Int := 0
  /-- [R432] a reset is due 10 ms after its response, with its source -/
  resetDue : Option Nat := none
  /-- [R425] START_COMPLETE has been written since the start -/
  started : Bool := true
  /-- [R436] the first frame boundary since the start has been reached -/
  booted : Bool := true
  /-- [R436] the boot that has ended counts as a failed trial boot -/
  trialBad : Bool := false
  /-- [R434] neither bank is valid and HK stays in boot ROM -/
  bootRom : Bool := false
  /-- [R433] bank 0 -/
  bank0 : Bank := { factory := true }
  /-- [R433] bank 1 -/
  bank1 : Bank := {}
  /-- [R436] the selected bank has been newly selected and boots on trial -/
  trialNext : Bool := false
  /-- [R435] the image being programmed into the bank not booted -/
  program : Option (List Byte) := none
  /-- [R444] COMMISSIONED fuse -/
  fuseC : Bool := false
  /-- [R444] FIELDED fuse -/
  fuseF : Bool := false
  /-- [R444] RETIRED fuse -/
  fuseR : Bool := false
  /-- [R447] a transition under way: old state, new state, source and region mask -/
  transition : Option (Nat × Nat × Nat × Nat) := none
  /-- [R439] operating seconds as the counters record holds them -/
  opCommitted : Nat := 0
  /-- [R439] counter value up to which operating seconds have been counted -/
  opFrom : Nat := 0
  /-- [R437] the vault -/
  vault : Vault := {}
  /-- [R469] PRESENT is closed -/
  present : Bool := true
  /-- [R469] the main switch is closed -/
  mainSwitch : Bool := true
  /-- [R469] the standby switch is closed -/
  standbySwitch : Bool := true
  /-- [R469] the inrush failure holds the main switch open -/
  inrushFail : Bool := false
  /-- [R454] the J2 loop is open -/
  j2Open : Bool := false
  deriving DecidableEq, Repr

end Sys2Proof.Machine
end

