-- ==== Sys2Proof/Machine/StateRings.lean ====
section
/-!
DEFINITION. State of the cell-monitor rings (chapter 03) and of the CM18 authentication (chapter 05).
-/
namespace Sys2Proof.Machine

/-- A unit as the last enumeration of its ring found it (R82, R83, R86). -/
structure RingUnit where
  /-- East hop -/
  hop : Nat
  /-- 64-bit identity -/
  ident : Nat
  /-- arrival from East e[h], ns -/
  e : Option Nat
  /-- arrival from West w[h], ns -/
  w : Option Nat
  /-- [R80] hardware revision -/
  hardware : Nat
  /-- [R80] wake cause -/
  wake : Nat
  /-- [R80, R82] h_E and h_W in force, as the last IDENT read them back -/
  hE : Nat
  hW : Nat
  deriving DecidableEq, Repr

/-- A READ or READ_ONE on its way (R88, R94). -/
structure RingRead where
  /-- the port it left from: 0 East, 1 West -/
  port : Nat
  /-- its sequence number -/
  seq : Nat
  /-- blocks asked for, current and previous together -/
  blocks : Nat
  deriving DecidableEq, Repr

/-- A ring. Unit sets are masks with bit h − 1 for East hop h. -/
structure Ring where
  /-- [R68] Hmax -/
  hmax : Nat := 0
  /-- [R82] units reachable from East at the enumeration -/
  reachE : Nat := 0
  /-- [R82] units reachable from West at the enumeration -/
  reachW : Nat := 0
  /-- [R82] the units found -/
  units : List RingUnit := []
  /-- [R93] broken mode -/
  broken : Bool := false
  /-- [R93] frame number at the entry into broken mode -/
  brokenFrom : Nat := 0
  /-- [R93] no unit has been reachable from either end since a read or an enumeration found it so -/
  unreach : Bool := false
  /-- [R69] the ring is not run because it is oversize -/
  oversize : Bool := false
  /-- [R82] frame number at the start of the enumeration in course -/
  enumFrom : Nat := 0
  /-- [R69] the ring has been enumerated since start -/
  seen : Bool := false
  /-- [R91] frame numbers and instants S, in ns, of the last two SYNCs, newest first -/
  syncs : List (Nat × Int) := []
  /-- [R76] sequence number of the last command -/
  seq : Nat := 0
  /-- [R94] reads outstanding -/
  reads : List RingRead := []
  /-- [R94] units whose current sample this sweep asks for -/
  want : Nat := 0
  /-- [R94] units whose current sample has been read in this sweep -/
  got : Nat := 0
  /-- [R94] units that received no SYNC for this sample -/
  nosync : Nat := 0
  /-- [R95] units whose sample was late in the last frame -/
  prevWant : Nat := 0
  /-- [R95] of those, the units whose previous sample has been read -/
  prevGot : Nat := 0
  /-- [R87] units that gave a block in this sweep, good or not -/
  gave : Nat := 0
  /-- [R87, R94] the READ of this sweep brought fewer blocks than were asked for -/
  recount : Bool := false
  /-- [R94] units a READ_ONE has been sent to in this sweep -/
  asked : Nat := 0
  /-- [R94] units a READ_ONE for the previous sample has been sent to in this sweep -/
  askedPrev : Nat := 0
  /-- [R93] detection of a break not yet recorded: 2 ABORT, 3 timeout, 0 none -/
  detect : Nat := 0
  /-- [R93] the ends from which no unit answered in this sweep, bit 0 East, bit 1 West -/
  dead : Nat := 0
  /-- [R72] errors in the frame in course -/
  frameErr : Nat := 0
  /-- [R72] the frame in course is not counted -/
  frameSkip : Bool := false
  /-- [R72] frame number and errors of each of the last 1,024 frames that had any -/
  errs : List (Nat × Nat) := []
  /-- [R73] frame number and missing units' presence, frames of the last 1,024 with missing cells -/
  missFrames : List Nat := []
  /-- [R73] frame number of the last RING_CRC_HIGH -/
  crcHigh : Option Nat := none
  /-- [R303] frame number of the sweep closed last and its missing units -/
  miss : Nat × Nat := (0, 0)
  /-- [R87] consecutive frames without a block, by East hop -/
  noResp : List (Nat × Nat) := []
  /-- [R74] a RATE broadcast is out: the rate it sets, and the ports (bit 0 East, bit 1 West) that have changed -/
  rateTo : Option (Nat × Nat) := none
  /-- [R72] an acknowledgement waits for its RATE broadcast -/
  ack : Bool := false
  /-- [R72] the broadcast of an acknowledgement is out and the next boundary completes the return -/
  ackSent : Bool := false
  /-- [R97] counter value of the last FAULT decoded on a port of the ring -/
  faultC : Option Nat := none
  deriving DecidableEq, Repr

/-- The authentication of one CM18 (R152 to R154). -/
structure Auth where
  /-- [R153] 0 none, 1 GET_CERT due, 2 certificate awaited, 3 CHALLENGE due, 4 response awaited, 5 STORE due, 6 STORE
  answer awaited -/
  stage : Nat := 0
  /-- [R153] frame number at which the request left -/
  from_ : Nat := 0
  /-- [R153] the nonce most recently sent to the unit -/
  nonce : List Byte := []
  /-- [R152] the certified device public key -/
  key : List Byte := []
  /-- [R154] the last known write counter -/
  counter : Nat := 0
  /-- [R154] STORE has been repeated once -/
  again : Bool := false
  /-- [R154] a STORE is due after the exchange in course -/
  store : Bool := false
  /-- [R153] frame number at which the last attempt failed -/
  failedAt : Option Nat := none
  deriving DecidableEq, Repr

/-- Roundabout. -/
structure Rings where
  /-- [R68] the rings that are not at rest, by number -/
  ring : List (Nat × Ring) := []
  /-- [R152] the authentication block received last on each ring, in Plaza -/
  authBuf : List (Nat × List Byte) := []
  /-- [R153] the authentications in progress, by slot -/
  auth : List (Nat × Auth) := []
  /-- [R100] frame number of the active frame of Park announced -/
  active : Option Nat := none
  /-- [R98] Park has been entered and the rings have still to be put to sleep -/
  sleepDue : Bool := false
  /-- [R282] THRESH is due at the next release -/
  threshDue : Bool := false
  deriving DecidableEq, Repr

end Sys2Proof.Machine
end

