-- ==== Sys2Proof/Machine/StateCells.lean ====
section
/-!
DEFINITION. State of the measurement front end, the cells, the estimator, the cell records and balancing (chapters 04 to 06).
-/
namespace Sys2Proof.Machine

/-- One converter of a precision channel (R111, R112). Windows are counts of full scale / 2^23. -/
structure Converter where
  /-- [R112] offset z, counts -/
  z : Rat := 0
  /-- [R112] gain g -/
  g : Rat := 1
  /-- [R112] z or g beyond its limit at the last calibration -/
  bad : Bool := false
  /-- [R106] an idle phase has calibrated it within its limits -/
  cal : Bool := false
  /-- [R112] sum and number of the zero windows of the idle phase in course -/
  zero : Int × Nat := (0, 0)
  /-- [R112] sum and number of its positive reference windows -/
  pos : Int × Nat := (0, 0)
  /-- [R112] sum and number of its negative reference windows -/
  neg : Int × Nat := (0, 0)
  deriving DecidableEq, Repr

/-- A precision channel: 0 I_S, 1 I_H, 2 V_S, 3 V_L. -/
structure Chan where
  /-- [R111] converter A -/
  a : Converter := {}
  /-- [R111] converter B -/
  b : Converter := {}
  /-- [R111] the converter on the input: 0 A, 1 B -/
  on : Nat := 0
  /-- [R115] single-converter mode -/
  single : Bool := false
  /-- [R115] frame number at its beginning -/
  singleFrom : Nat := 0
  /-- [R115] consecutive refused handovers -/
  refused : Nat := 0
  /-- [R126] the last refused handover difference, in the channel's unit -/
  lastDiff : Rat := 0
  /-- [R106] the last handover was refused -/
  refFlag : Bool := false
  /-- [R106] an overrange stands -/
  ovr : Bool := false
  deriving DecidableEq, Repr

/-- A cross-check (R119, R123). -/
structure Check where
  /-- [R119] sum of the residuals of the window in course -/
  sum : Rat := 0
  /-- [R119] sum of its soft limits -/
  soft : Rat := 0
  /-- [R119] frames of the window in course -/
  n : Nat := 0
  /-- [R118] sum of what the untrimmed channel should read, V -/
  ref : Rat := 0
  /-- [R118] sum of the untrimmed channel, V -/
  raw : Rat := 0
  /-- [R123] consecutive windows within the soft limit -/
  run : Nat := 0
  /-- [R120] counter value at which the injection run in course began, none where it began with the tones -/
  since : Option Nat := none
  deriving DecidableEq, Repr

/-- A divider calibration run (R117). -/
structure DivCal where
  /-- sum of the reference, V -/
  ref : Rat := 0
  /-- sum of the untrimmed channel, V -/
  raw : Rat := 0
  /-- frames of the run -/
  n : Nat := 0
  /-- reason of a precondition that failed, 0 none -/
  fail : Nat := 0
  deriving DecidableEq, Repr

/-- A frame value of a cell as the filter keeps it (R108). -/
structure Samp where
  frame : Nat
  /-- [R107] its instant, ns -/
  at_ : Int
  /-- 0.125 µV -/
  v : Nat
  /-- it takes part in the filtered value -/
  ok : Bool
  /-- its uncertainty, µV -/
  u : Rat := 0
  /-- [R109] the tone component taken out of it, V -/
  tone : Rat := 0
  /-- it came in with the image being assembled: uncertainty and tone are still to be worked out -/
  fresh : Bool := true
  /-- [R138] the frame number in which it came in, where that was after the image of its own frame -/
  late : Option Nat := none
  deriving DecidableEq, Repr

/-- The open-wire state of a CM18 slot (R128 to R134). -/
structure WireSt where
  /-- [R130] the selector-5 result read last, with its frame number -/
  sel5 : Option (Nat × Nat) := none
  /-- [R130] the selector-6 result read last, with its frame number -/
  sel6 : Option (Nat × Nat) := none
  /-- [R130] the test count at the last result taken -/
  count : Nat := 0
  /-- [R128] taps of the cycle in course, 0 none -/
  taps : Nat := 0
  /-- [R128] frame number in which the OWT left -/
  sentAt : Nat := 0
  /-- [R128] the cycle waits for its release -/
  due : Nat := 0
  /-- [R130] the cycle in course or due is an on-demand test -/
  demand : Bool := false
  /-- [R130] a scheduled cycle deferred by an on-demand test -/
  deferred : Bool := false
  /-- [R131, R35] what is due has been sealed and leaves with the next release -/
  go : Bool := false
  /-- [R130] taps that wait for an on-demand test of their own, in order -/
  queue : List Nat := []
  /-- [R131] taps with opposite deviations in the frame read last, bit t -/
  opp : Nat := 0
  /-- [R132] taps judged to be of high resistance, bit t -/
  tapRes : Nat := 0
  /-- [R130] taps with one positive result -/
  once : Nat := 0
  /-- [R132] tests of each tap with opposite deviations and no positive result -/
  high : List (Nat × Nat) := []
  /-- [R134] clean cycles of each confirmed tap -/
  clean : List (Nat × Nat) := []
  /-- [R122] the stack check is beyond its soft limit -/
  stackBad : Bool := false
  /-- [R122] the stack difference, 0.25 µV -/
  stackDiff : Int := 0
  /-- [R122] the reference deviation is beyond its soft limit -/
  refBad : Bool := false
  /-- [R122] the reference deviation is beyond its hard limit -/
  refHard : Bool := false
  /-- [R122] the reference deviation, 1.25 µV -/
  refDev : Int := 0
  /-- [R126] the die temperature read last, 0.0625 °C -/
  die : Option Int := none
  /-- [R149] rest flag and minutes since it was set -/
  rest : Bool × Nat := (false, 0)
  /-- [R187] low and high bits of the mask read back, none before the first block of their selector -/
  readLow : Option Nat := none
  readHigh : Option Nat := none
  /-- [R187] frame number of a block of selector 3, and of selector 4, not yet compared -/
  low3 : Option Nat := none
  high4 : Option Nat := none
  /-- [R187] on-time read back -/
  readOn : Option Nat := none
  /-- [R122] raw counts of the 18 channels read last -/
  counts : List Nat := []
  /-- [R131] the instant of their sample, ns -/
  countsAt : Int := 0
  /-- [R186] frame number, mask and on-time of the commands that left last, newest first -/
  cmds : List (Nat × Nat × Nat) := []
  /-- [R186] mask and on-time sealed for the next release -/
  balNext : Nat × Nat := (0, 0)
  /-- [R129] taps and frame number of the open-wire order before the one in course -/
  before : Nat × Nat := (0, 0)
  /-- [R187] a mismatch stands; of the part of selector 3, and of that of selector 4 -/
  mismatch : Bool := false
  misLow : Bool := false
  misHigh : Bool := false
  /-- [R187] the thermal cap flag stands, and the frames since it began or ended -/
  cap : Bool × Nat := (false, 0)
  /-- [R187] reduction of k_max -/
  kLow : Nat := 0
  /-- [R185] the die limit holds the mask at zero -/
  dieHot : Bool := false
  /-- [R188] the CM18 paused bleed in the frame read last (flag bit 1) -/
  paused : Bool := false
  /-- [R79] the temperature channels read last, 0.0625 °C -/
  temps : List (Option Int) := []
  deriving DecidableEq, Repr

/-- What the conditions of R159 are judged on, up to a frame of a walk. -/
structure WalkSpan where
  /-- counter time since the end of the opening rest, ns -/
  ns : Int := 0
  /-- span of T_n so far, 0.0625 °C, none before the first frame -/
  t : Option (Rat × Rat) := none
  /-- frames MISSING -/
  missing : Nat := 0
  /-- the first condition of R159 that failed, 0 none -/
  bad : Nat := 0
  deriving DecidableEq, Repr

/-- A walk in progress (R159). -/
structure Walk where
  /-- z at the opening anchor, 10^-12 -/
  z : Int
  /-- half-width at the opening anchor -/
  u : Rat
  /-- charge counted since, A·s -/
  q : Rat := 0
  /-- integral of u_I, A·s -/
  uq : Rat := 0
  /-- the opening rest has ended -/
  left : Bool := false
  /-- the span so far -/
  span : WalkSpan := {}
  /-- the span as it stood when the rest in course began -/
  atRest : Option WalkSpan := none
  /-- ns of the charging run in course -/
  chargeNs : Int := 0
  deriving DecidableEq, Repr

/-- Five impedance parameters (R136, R165): Rs, Ra, τa, Rb, τb in µΩ and ms. -/
structure Band where
  rs : Rat
  ra : Rat
  ta : Rat
  rb : Rat
  tb : Rat
  deriving DecidableEq, Repr

/-- A running single-bin DFT (R166), in 10^-12 V. -/
structure Bin where
  re : Int := 0
  im : Int := 0
  /-- [R166] the bin is valid -/
  ok : Bool := false
  deriving DecidableEq, Repr

/-- A cell record (R174). -/
structure CellRec where
  digest : Nat := 0
  changes : Nat := 0
  created : Nat := 0
  gridSecs : Nat := 0
  /-- value and stamp of each extreme: voltage max, min, temperature max, min, current max, min; none while empty -/
  ext : List (Option (Int × Nat)) := List.replicate 6 none
  /-- grid, seconds by index, zero entries left out -/
  grid : List (Nat × Nat) := []
  /-- current bands, seconds -/
  bands : List (Nat × Nat) := []
  charge : Nat := 0
  discharge : Nat := 0
  bleed : Nat := 0
  bleedTime : Nat := 0
  deriving DecidableEq, Repr

/-- The remainders a record carries in Plaza (R173). -/
structure RecRest where
  /-- ns of each grid entry below a second -/
  grid : List (Nat × Int) := []
  gridSum : Int := 0
  bands : List (Nat × Int) := []
  /-- A·s below 0.01 Ah -/
  charge : Rat := 0
  discharge : Rat := 0
  /-- A·s below 1 mAh -/
  bleed : Rat := 0
  bleedTime : Int := 0
  deriving DecidableEq, Repr

/-- A cell position. -/
structure Cell where
  /-- [R107] frame number and instant, ns, of the sample held -/
  instant : Nat × Int := (0, 0)
  /-- [R107] the position holds a sample -/
  held : Bool := false
  /-- [R108] the frames of the window, newest first -/
  hist : List Samp := []
  /-- [R131] the taps whose opposite deviations set CHECK, bit t; 0 where CHECK does not stand -/
  checks : Nat := 0
  /-- [R132] beside a broken tap with a second fault: the value is held, with no estimate -/
  hold : Bool := false
  /-- [R133] the last filtered value before CHECK was set, 0.125 µV -/
  lastGood : Nat := 0
  /-- [R135] T_n, 0.0625 °C, and whether a valid one has been had since start -/
  temp : Rat := 400
  tempKnown : Bool := false
  /-- [R135] the temperature is held or substituted -/
  tempHeld : Bool := true
  /-- [R253] counter value from which it is held -/
  heldFrom : Nat := 0
  /-- [R253] TEMP_STALE stands -/
  tempStale : Bool := false
  /-- [R137] z, 10^-12 of full capacity -/
  z : Int := 0
  /-- [R157] z_d -/
  zd : Int := 0
  /-- [R137] s, 1/65,536 -/
  s : Nat := 32768
  /-- [R168] the status word that stands from the next seal -/
  stat : Int := 32768
  /-- [R139] P_zz -/
  p : Rat := 0
  /-- [R138, R139] the covariances of z with va and vb, and those of va and vb, 10^-24 -/
  zva : Int := 0
  zvb : Int := 0
  vaa : Int := 0
  vab : Int := 0
  vbb : Int := 0
  /-- [R139] D -/
  d : Rat := 0
  /-- [R136] va and vb, 10^-12 V -/
  va : Int := 0
  vb : Int := 0
  /-- [R138] predicted terminal voltages, 10^-12 V, newest first, with their frame numbers -/
  pred : List (Nat × Int) := []
  /-- [R150] a first estimate has been made -/
  est : Bool := false
  /-- [R148] a first estimate is due: 1 start, 2 insertion, 3 table -/
  first : Nat := 1
  /-- [R150] the authentication of its CM18 decides its first estimate -/
  awaits : Bool := false
  /-- [R155] an anchor or an authentication has verified z since UNVERIFIED was set -/
  verified : Bool := false
  /-- [R164] the cell was LATE, MISSING or ESTIMATED in the frame before -/
  prevBad : Bool := false
  /-- [R165] the values of the fit of its RC pairs in course, newest first: ns since the step, and v − E(z) − Rs·i in 10^-12 V -/
  fit : Option (List (Int × Int)) := none
  /-- [R162] z at the closing anchor of the capacity learned last, 10^-12 -/
  capZ : Int := 0
  /-- [R149] credited rest time, s -/
  credit : Nat := 0
  /-- [R141] t_r in ns, none while the cell does not rest -/
  restNs : Option Int := none
  /-- [R142] the rest points of the extrapolation, s and 0.125 µV -/
  points : List (Nat × Nat) := []
  /-- [R142] this rest has qualified -/
  qualified : Bool := false
  /-- [R143] ns since the last qualified rest -/
  sinceNs : Int := 0
  /-- [R159] the walk -/
  walk : Option Walk := none
  /-- [R161] operating seconds of the last learning -/
  learnedAt : Nat := 0
  /-- [R165] the eight bands, none where never fitted -/
  bands : List (Option Band) := List.replicate 8 none
  /-- [R166] the tone bins, by tone -/
  bins : List (Nat × Bin) := []
  /-- [R166] the last valid bins, by tone: Z in µΩ -/
  spec : List (Nat × Int × Int) := []
  /-- [R166] frame number of the spectrum -/
  specFrame : Nat := 0
  /-- [R182] IMBALANCE_HIGH stands -/
  imbalance : Bool := false
  /-- [R182] bleed-to-go below 1 mA·s, in mA·ns -/
  togoRest : Int := 0
  /-- [R186] bleed current of the frame, µA -/
  ib : Int := 0
  /-- [R174] the lifetime record -/
  rec_ : CellRec := {}
  /-- [R173] its remainders -/
  rest : RecRest := {}
  /-- [R176, R180] the record as it stood at the last output seal -/
  sealed : CellRec := {}
  deriving DecidableEq, Repr

/-- A slice copy in MRAM (R175): slice, copy 0 or 1, sequence number and bytes. -/
structure SliceCopy where
  slice : Nat
  copy : Nat
  seq : Nat
  bytes : List Byte
  deriving DecidableEq, Repr

/-- A two-slot capacity record in MRAM (R162): position, slot, sequence number and 32 bytes. -/
structure CapSlot where
  pos : Nat
  slot : Nat
  seq : Nat
  bytes : List Byte
  deriving DecidableEq, Repr

/-- A state block in MRAM (R151). -/
structure StateBlock where
  seq : Nat
  origin : Nat
  bytes : List Byte
  deriving DecidableEq, Repr

/-- What a frame gives the estimator and the record of a cell (R135, R169). -/
structure CellIn where
  /-- cell position -/
  pos : Nat
  /-- bleed current, µA, and whether the cell is in the bleed mask in force -/
  ib : Int
  masked : Bool
  /-- frame channel and filtered channel, 0.125 µV, and the filtered uncertainty, µV -/
  v : Nat
  vf : Nat
  uf : Nat
  /-- the position holds a sample, and its status word (R110) -/
  held : Bool
  bits : Int
  /-- T_n, 0.0625 °C, and whether it is held or substituted -/
  temp : Rat
  tempHeld : Bool
  deriving DecidableEq, Repr

/-- What a frame gives the estimator, as an engine that has fallen behind keeps it (R140). -/
structure Behind where
  /-- frame number -/
  frame : Nat
  /-- operating seconds -/
  op : Nat
  /-- current of the source, A, its uncertainty, the source, and whether it is VALID -/
  i : Rat
  u : Rat
  src : Nat
  valid : Bool
  /-- an active frame of Park -/
  park : Bool
  /-- frame duration, ns -/
  ns : Int
  /-- the cells of the engine -/
  cells : List CellIn
  deriving DecidableEq, Repr

/-- The cells, the front end and the estimator. -/
structure Cells where
  /-- [R102] the four channels -/
  chans : List (Nat × Chan) := []
  /-- [R119] the checks in course, by number -/
  checks : List (Nat × Check) := []
  /-- [R120] a baseline has been requested -/
  baseReq : List Nat := []
  /-- [R117] the divider calibrations running, by channel -/
  cals : List (Nat × DivCal) := []
  /-- [R118] trims to take at the next boundary, by channel -/
  accept : List Nat := []
  /-- [R105] frame number of the front-end values last formed -/
  feFrame : Nat := 0
  /-- [R103, R164] instant values of I_S and I_H in the last two frames, newest first, with frame numbers -/
  inst : List (Nat × Rat × Rat) := []
  /-- [R338] frame number of the image assembled last -/
  imageFrame : Nat := 0
  /-- [R89] cells read in the sweep being assembled -/
  cells : List (Nat × Cell) := []
  /-- [R128] the CM18 slots that are not at rest, by slot -/
  wires : List (Nat × WireSt) := []
  /-- [R128] counter value of the last scheduled open-wire cycle -/
  owtC : Nat := 0
  /-- [R128] slots whose result of the cycle in course has not been taken -/
  owtOpen : List Nat := []
  /-- [R130] a scheduled cycle waits for the results of on-demand tests -/
  owtLater : Bool := false
  /-- [R138] frame number whose current and rest the estimator has taken last -/
  estFrame : Option Nat := none
  /-- [R140] the engines that have done that frame's work, bit r for EE r -/
  estDone : Nat := 0
  /-- [R140] the frames each engine is behind, oldest first -/
  behind : List (Nat × List Behind) := []
  /-- [R140] frame number of the last frame whose results were sealed -/
  sealFrame : Option Nat := none
  /-- [R146] positions that are rest-starved were counted last -/
  starved : Nat := 0
  /-- [R135] current source: 0 I_S, 1 I_H -/
  source : Nat := 0
  /-- [R141] the string rests -/
  stringRest : Bool := false
  /-- [R143] cells anchored by time and by extrapolation in this string rest -/
  anchored : Nat × Nat := (0, 0)
  /-- [R147] the rest window: 0 none, 1 requested, 2 scheduled, 3 declined -/
  window : Nat := 0
  /-- [R147] positions starved when the window was scheduled that have not qualified in it -/
  windowLeft : List Nat := []
  /-- [R161] outcome of the last walk: 6 done, 7 failed, 0 none yet -/
  walkEnd : Nat := 0
  /-- [R161] the host has scheduled a walk that has not opened -/
  walkSched : Bool := false
  /-- [R147] frame number at which the current crossed the threshold in the window -/
  windowCross : Option Nat := none
  /-- [R145] tables accepted that take effect at the next boundary -/
  tablesDue : List (Nat × List Byte) := []
  /-- [R148] first estimates since the last event, by source: SAVED, OCV, UNRESTED, AUTH, VOLTAGE -/
  firsts : List Nat := []
  /-- [R158] z_d = z at the next boundary -/
  align : Bool := false
  /-- [R164] counter value of the last load step, its new current and change, A -/
  step : Option (Nat × Rat × Rat) := none
  /-- [R140] ESTIMATOR_BACKLOG stands -/
  backlogFlag : Bool := false
  /-- [R166] DFT of the instant I_S, by tone -/
  ibins : List (Nat × Bin) := []
  /-- [R120] DFT of I_H, I_C and V_S, by 32 times 1, 2 or 3 plus the tone -/
  gbins : List (Nat × Bin) := []
  /-- [R166] counter value at which the tones began -/
  toneFrom : Option Nat := none
  /-- [R151] the state blocks in MRAM -/
  blocks : List StateBlock := []
  /-- [R162] the capacity slots in MRAM -/
  caps : List CapSlot := []
  /-- [R175] the slice copies in MRAM -/
  slices : List SliceCopy := []
  /-- [R176] the slice that falls due next -/
  nextSlice : Nat := 0
  /-- [R179] records to empty at the next seal, in the order written: a position, or 65,535 for all -/
  resetDue : List Nat := []
  /-- [R170] counter value of the last active frame or of the entry to Park -/
  parkC : Nat := 0
  deriving DecidableEq, Repr

end Sys2Proof.Machine
end

