-- ==== Sys2Proof/Machine/StateControl.lean ====
section
/-!
DEFINITION. State of Avenue, Sliproad and the thermal functions (chapters 07 to 09).
-/
namespace Sys2Proof.Machine

/-- The detector of a loop beside its objects (R210 to R213). -/
structure Det where
  /-- [R210] last sign beyond the threshold, 0 none -/
  last : Int := 0
  /-- [R210, R211] frame number, sign changes, sum of squares and samples of each frame of the window, newest first -/
  win : List (Nat × Nat × Rat × Nat) := []
  /-- [R213] the action that holds, 0 none -/
  hold : Nat := 0
  /-- [R212] an action fired that the loop's next sample takes, 0 none -/
  next : Nat := 0
  /-- [R211] active words 0 to 4 of the band-pass section -/
  words : List Nat := []
  /-- [R211] its states -/
  s1 : Int := 0
  s2 : Int := 0
  /-- [R218] its last output, loop fraction -/
  bp : Int := 0
  deriving DecidableEq, Repr

/-- A loop beside its objects (R190 to R206). -/
structure Loop where
  /-- [R190] last output, loop fraction -/
  y : Int := 0
  /-- [R190] last set-point, feedback and error, loop fractions -/
  r : Int := 0
  f : Int := 0
  x : Int := 0
  /-- [R206] the previous sample clamped: 0 no, 1 upper, 2 lower -/
  clamp : Nat := 0
  /-- [R193] rate of the bank in force, 0 none, and its bank word -/
  rate : Nat := 0
  bank : Nat := 0
  /-- [R194] the next sample applies output tracking -/
  track : Bool := false
  /-- [R199] a commit the next sample applies: 1 keep, 2 track, 0 none -/
  commit : Nat := 0
  /-- [R213] a commit deferred by a detector hold -/
  held : Nat := 0
  /-- [R213] the first deferral of the hold has been recorded -/
  conflict : Bool := false
  /-- [R203] consecutive samples without a valid set-point and a valid feedback -/
  bad : Nat × Nat := (0, 0)
  /-- [R203] the fallback set-point and the safe output are in force -/
  fall : Bool × Bool := (false, false)
  /-- [R202] host set-point in force, F32 word, and the one sealed for the next release -/
  host : Nat := 0
  hostNext : Nat := 0
  /-- [R200] value of the source object at the last output release, none where it has no value -/
  src : Option Rat := none
  /-- [R212] injection was added to this sample -/
  injected : Bool := false
  /-- [R190] detector -/
  det : Det := {}
  deriving DecidableEq, Repr

/-- The injection beside its objects (R214 to R217). -/
structure Inject where
  /-- [R214] module time of the start, ns, none before the first sample -/
  startNs : Option Int := none
  /-- [R217] a scheduled start is ahead, and its module time, ns -/
  sched : Bool := false
  dueNs : Int := 0
  /-- [R217] the injection in course was begun by a write -/
  byWrite : Bool := false
  /-- [R214] loop samples since the start -/
  n : Nat := 0
  /-- [R214] PRBS register -/
  lfsr : Nat := 0
  /-- [R216] an injection sample has been clipped since the start -/
  clipped : Bool := false
  /-- [R217] it was started, or refused, by the Survey profile -/
  survey : Bool := false
  /-- [R214] value of the sample in course, loop unit -/
  value : Rat := 0
  deriving DecidableEq, Repr

/-- A capture in course (R218, R219). -/
structure Capture where
  /-- rows of sample words, newest first -/
  rows : List (List Int) := []
  /-- the last sample of an armed capture, which the level trigger compares with -/
  prev : Option (List Int) := none
  /-- samples taken after the trigger, none before it -/
  after : Option Nat := none
  /-- module time of the trigger, ns -/
  at_ : Int := 0
  /-- cause of a snapshot -/
  cause : Nat := 0
  deriving DecidableEq, Repr

/-- The converter link (R220 to R225). -/
structure Conv where
  /-- [R192] set-point of the last command, mA -/
  last : Int := 0
  /-- [R192] set-point of the owning loop for the next command, mA -/
  next : Int := 0
  /-- [R221] no loop sample at this slot -/
  late : Bool := false
  /-- [R225] consecutive missing and consecutive good responses -/
  missing : Nat := 0
  good : Nat := 0
  /-- [R225] frame number at which the link went down -/
  downFrom : Nat := 0
  /-- [R222] measured currents answered to slots 0 to 7 and not yet in a frame mean: frame number [15:0] and mA -/
  resp : List (Nat × Int) := []
  /-- [R222] latest measured current as a fraction of 0x5600:15, and the counter value of the response -/
  frac : Option Int := none
  respC : Nat := 0
  /-- [R222] commands sent and not yet answered: frame number and slot, oldest first -/
  sent : List (Nat × Nat) := []
  /-- [R338] responses to slot 0 of the last two frames that had one, newest first: frame number modulo 65,536 and bytes -/
  slot0 : List (Nat × List Byte) := []
  /-- [R225] converter fault bit -/
  fault : Bool := false
  /-- [R225] the epoch in force has been seen above the card's own -/
  superseded : Bool := false
  /-- [R223] an epoch increment is due before the next command -/
  epochDue : Bool := true
  /-- [R257] converter temperature, °C -/
  temp : Option Int := none
  /-- [R262] an orderly shutdown has cleared enable -/
  off : Bool := false
  deriving DecidableEq, Repr

/-- A set-point input (R207, R208). -/
structure Input where
  /-- [R208] counter values of rising edges, newest first -/
  rises : List Nat := []
  /-- [R208] counter value of the last falling edge -/
  fell : Option Nat := none
  /-- [R208] last complete period: its length and high time, in 4 ns -/
  period : Option (Nat × Nat) := none
  /-- [R207] the pulse timeout has passed -/
  timedOut : Bool := false
  /-- [R209] a fault has been recorded -/
  faulted : Bool := false
  /-- [R338] elements of slot 0 of the last two frames, newest first: frame number, value as an F32 word, status -/
  slot0 : List (Nat × Nat × Nat) := []
  deriving DecidableEq, Repr

/-- Avenue. -/
structure Avenue where
  /-- [R190] the loops that are not at rest -/
  loops : List (Nat × Loop) := []
  /-- [R217] injection -/
  inj : Inject := {}
  /-- [R218] tuning capture -/
  cap : Capture := {}
  /-- [R219] pre-trigger record of the fault snapshot, newest first, and the snapshot in course -/
  pre : List (List Int) := []
  snap : Option Capture := none
  /-- [R220] converter link -/
  conv : Conv := {}
  /-- [R207] the set-point inputs -/
  inputs : List (Nat × Input) := []
  /-- [R205] limits imposed: code, charge, discharge in A; a side not imposed is none -/
  imposed : List (Nat × Option Rat × Option Rat) := []
  /-- [R205] configured converter limits as they apply, F32 words; held while an imposed limit is tighter -/
  cfg : Nat × Nat := (0, 0)
  /-- [R205] upper and lower limit of the owning loop as they apply, F32 words -/
  own : Nat × Nat := (0, 0)
  /-- [R191] full scales of the lane-13 channels and of the converter current at the last configuration commit;
  none before the first, when the objects as they stand give them -/
  fs : List Rat := []
  /-- [R198] onsets the next seal writes as events: code and data -/
  onsets : List (Nat × List (List Byte)) := []
  /-- [R235] profile at the last slot -/
  prof : Int := 0
  /-- [R193, R201] frame number in which the banks were last chosen, and the profile they were chosen for -/
  bankFrame : Option Nat := none
  bankProf : Int := 0
  /-- [R192] slot evaluated last: frame number and slot -/
  slot : Nat × Nat := (0, 8)
  /-- [R192] lane-13 fractions of the slot: channel values and valid bits -/
  lane13 : List Int × Nat := ([], 0)
  /-- [R200] set-point inputs at the slot: value, F32 word, and valid -/
  ins : List (Nat × Bool) := []
  /-- [R243] levels of the digital inputs as their last samples stood, bit i input i -/
  levels : Nat := 0
  deriving DecidableEq, Repr

/-- A segment of constant acceleration (R228). -/
structure Seg where
  /-- 1 start side, 2 cruise, 3 stop side, 4 reversing -/
  kind : Nat
  /-- start, s from the plan's origin, and duration -/
  t0 : Rat
  dur : Rat
  p0 : Rat
  v0 : Rat
  a : Rat
  deriving DecidableEq, Repr

/-- Gearing of a P channel (R237 to R240). -/
structure Gear where
  /-- [R239] geared speed w -/
  w : Rat
  /-- [R239] position q -/
  q : Rat := 0
  /-- [R238] master count at the last slot -/
  last : Nat := 0
  /-- [R238] the count at which the second ratio began -/
  change : Option Nat := none
  /-- [R239] |lag| above its limit -/
  lagHigh : Bool := false
  /-- [R240] the master is invalid -/
  lost : Bool := false
  deriving DecidableEq, Repr

/-- A Sliproad channel (R227 to R240). -/
structure Slip where
  /-- [R228] the plan, its origin, module time in ns, and the position it ends at -/
  segs : List Seg := []
  origin : Int := 0
  fin : Rat := 0
  /-- [R227] position and speed at the last slot -/
  pos : Rat := 0
  vel : Rat := 0
  /-- [R233] target in force -/
  target : Rat := 0
  /-- [R229] the target last taken, where the position limits clamped it -/
  clamped : Option Rat := none
  /-- [R229] target written, and the one sealed for the next release -/
  wrote : Option Rat := none
  next : Option Rat := none
  /-- [R236] target stored by a stop -/
  stored : Rat := 0
  /-- [R264] that target came in an orderly shutdown, ahead of its stop -/
  early : Bool := false
  /-- [R236] stop that holds: 0 none, 1 host, 2 orderly shutdown -/
  stop : Nat := 0
  /-- [R234] side of the limit that holds the position: 1 upper, −1 lower, 0 none -/
  limit : Int := 0
  /-- [R228] the channel was off at the last slot -/
  off : Bool := false
  /-- [R237] an engagement (1) or disengagement (2) due at the next slot -/
  engage : Nat := 0
  gear : Option Gear := none
  deriving DecidableEq, Repr

/-- A coolant valve (R241 to R246). -/
structure Valve where
  /-- [R243] counter value of the capture, and from which the switch stands asserted -/
  captured : Option Nat := none
  since : Option Nat := none
  /-- [R243] position at the capture -/
  edge : Rat := 0
  /-- [R245] coil at hold current -/
  holding : Bool := false
  /-- [R245] counter value of the last microstep -/
  stepC : Nat := 0
  /-- [R246] the channel is energised -/
  energised : Bool := true
  /-- [R241] position the driver stands at, microsteps -/
  count : Int := 0
  deriving DecidableEq, Repr

/-- The thermal functions (chapter 09). -/
structure Therm where
  /-- [R250] the series resistances measured over the last 256 frames on each input: frame number and Ω, newest first -/
  rs : List (Nat × List (Nat × Rat)) := []
  /-- [R252] frame number at which each input's fault began -/
  faultFrom : List (Nat × Nat) := []
  /-- [R254] counter values at which the charge and the discharge direction closed -/
  closed : Nat × Nat := (0, 0)
  /-- [R257] counter value since which every cause has stayed below its limit less the hysteresis -/
  clearFrom : Option Nat := none
  /-- [R259] counter value at which grace began, and the request met; whole seconds of grace left when it was met -/
  grace : Option Nat := none
  met : Bool := false
  graceLeft : Nat := 0
  /-- [R259] counter value since which |I_S| has stayed above I_thr after the request was met -/
  above : Option Nat := none
  /-- [R260] the value the enforced clamp began at, A, and its counter value -/
  clamp : Option Rat := none
  clampC : Nat := 0
  /-- [R260] enforcement begins at the next boundary -/
  enforce : Bool := false
  /-- [R261] counter values of enforcement and of clearing; an acknowledgement releases at the next boundary -/
  enforcedC : Nat := 0
  clearedC : Nat := 0
  ack : Bool := false
  /-- [R258] a throttle message is due at the next release; message counter; counter value of the last -/
  message : Bool := false
  msgCount : Nat := 0
  msgC : Nat := 0
  /-- [R262] frame number of the release of step 1, none where none is due; counter values of the start and of the step
  in force -/
  shutDue : Option Nat := none
  shutC : Nat := 0
  stepC : Nat := 0
  /-- [R262] shutdown causes that stood at the last seal: bit 0 T_max, bit k input k -/
  shutOn : Nat := 0
  /-- [R263] the step at which a trip or a deadline cut the run short, 0 none -/
  reached : Nat := 0
  /-- [R262] consecutive frames with current below the rest threshold -/
  zero : Nat := 0
  /-- [R262] the dispatch loop takes P0 as its source until the shutdown ends -/
  takeP0 : Bool := false
  /-- [R256] positions whose capacity commits wait for the die temperature, rising -/
  waiting : List Nat := []
  deriving DecidableEq, Repr

end Sys2Proof.Machine
end

