-- ==== Sys2Proof/Machine/StateSafety.lean ====
section
/-!
DEFINITION. State of the guard core, Bollard and the contactors (chapter 10).
-/
namespace Sys2Proof.Machine

/-- A pulse of SAFE_RST (R286). -/
structure SafeRst where
  high : Bool := false
  /-- [R286] counter values of the last rise and the last fall; the input has been low from reset -/
  riseC : Nat := 0
  fallC : Nat := 0
  /-- [R286] it was low for 1 s before the rise -/
  ready : Bool := false
  /-- [R286] stuck, and the counter value at which it became so -/
  stuck : Option Nat := none
  /-- [R287] causes latched when the pulse rose -/
  causes : Int := 0
  deriving DecidableEq, Repr

/-- Bollard (R268 to R271, R280, R281, R286, R287). -/
structure Bollard where
  /-- [R268] the converter hold line is held -/
  hold : Bool := false
  /-- [R296] counter value at which it last changed -/
  holdC : Nat := 0
  /-- [R268] the high-side switches are on -/
  high : Bool := false
  /-- [R268] the partner trip line is driven -/
  partnerOut : Bool := false
  /-- [R270] the partner trip line is seen asserted -/
  partnerIn : Bool := false
  /-- [R269] the permit arrives, and the counter value since which it does -/
  permit : Bool := false
  permitC : Nat := 0
  /-- [R269] the guard core has produced a permit since start -/
  permitSeen : Bool := false
  /-- [R269] the guard trip signal is active -/
  trip : Bool := false
  /-- [R287] counter value since which the string supply stands above its limit -/
  supplyC : Nat := 0
  /-- [R280] comparators beyond their thresholds: bits 0 to 3 as causes -/
  beyond : Nat := 0
  /-- [R280] thresholds loaded: F32 words of 0x6840:1 to :4 -/
  thresholds : List Nat := [0, 0, 0, 0]
  /-- [R280] the thresholds before the last load, and its counter value: the stricter apply for 100 µs -/
  before : List Nat := [0, 0, 0, 0]
  loadC : Nat := 0
  /-- [R280, R281] diagnostics that stand failed: bit 0 register CRC, 1 readback, 2 comparator test, 3 oscillator -/
  diag : Nat := 0
  /-- [R97] counter value of the last FAULT, none where none has stood -/
  faultC : Option Nat := none
  /-- [R286] SAFE_RST -/
  rst : SafeRst := {}
  /-- [R287] a release edge waits for the partner trip line: its counter value, its source (1 release edge, 2 remote) and the
  causes cleared so far -/
  edge : Option (Nat × Nat × Int) := none
  /-- [R287] the test before a reset runs: its source and the causes cleared -/
  test : Option (Nat × Int) := none
  /-- [R288] the start test has passed -/
  tested : Bool := false
  deriving DecidableEq, Repr

/-- The guard core (R272 to R279, R287). -/
structure Guard where
  /-- [R273] consecutive frames without a valid current channel -/
  noCurrent : Nat := 0
  /-- [R273] counter value since which the discrepancy lasts, and since which it has stayed below with a vote of 0 -/
  discFrom : Option Nat := none
  calmFrom : Option Nat := none
  /-- [R273] counter value since which SLC is degraded -/
  degraded : Option Nat := none
  /-- [R273] the degraded state has lasted 0x6810:7 -/
  tooLong : Bool := false
  /-- [R274] counter value plus 1 of the last good value of each mapped channel, or from which it is watched, by position -/
  lastCell : List (Nat × Nat) := []
  /-- [R275] the same of the last valid temperature of each slot -/
  lastTemp : List (Nat × Nat) := []
  /-- [R274, R275, R279] counter value from which the missing holds run -/
  holdFrom : Nat := 0
  /-- [R276] consecutive frames in a forbidden direction -/
  wrong : Nat := 0
  /-- [R287] consecutive frames within the limit, at most 16, by class B cause -/
  okRun : List (Nat × Nat) := []
  /-- [R285] driver faults latched, as 0x6880:5, of the frame judged last -/
  driverBad : Bool := false
  /-- [R290] DI3 reads the door open -/
  door : Bool := false
  /-- [R276] source of the change of SDC that is due: 1 a commit, 2 a host write -/
  sdcSource : Nat := 1
  /-- [R270] class C causes to latch at the next boundary -/
  ssi : Nat := 0
  /-- [R313] input image deviations of the last 16 frames, newest first -/
  deviates : List Bool := []
  deriving DecidableEq, Repr

/-- The contactors (R284, R285). Drivers: 1 K1 main positive, 2 K2 main negative, 3 K3 precharge,
4 K4 auxiliary. -/
structure Contact where
  /-- [R284] low-side switches on, bit k − 1 -/
  low : Nat := 0
  /-- [R284] counter values at which each closed -/
  closedC : List (Nat × Nat) := []
  /-- [R284] drivers at hold current, bit k − 1 -/
  held : Nat := 0
  /-- [R284] an opening is due at the next release, and a closing after it -/
  opening : Bool := false
  closing : Bool := false
  /-- [R284] no trip has opened the contactors since 0 was last written with no cause latched -/
  rearm : Bool := true
  /-- [R285] the weld check counts, with the frames counted -/
  weld : Option Nat := none
  /-- [R285] frames with coil current and both switches off, by driver -/
  stuck : List (Nat × Nat) := []
  /-- [R284] the converter is asked for standby while the contactors open -/
  standby : Bool := false
  /-- [R27] the opening waits for zero current -/
  atZero : Bool := false
  deriving DecidableEq, Repr

/-- Safety. -/
structure Safety where
  bol : Bollard := {}
  guard : Guard := {}
  con : Contact := {}
  deriving DecidableEq, Repr

end Sys2Proof.Machine
end

