-- ==== Sys2Proof/Machine/StateDuplex.lean ====
section
/-!
DEFINITION. State of the duplex pair and Footbridge (chapter 11).
-/
namespace Sys2Proof.Machine

/-- A heartbeat as it was counted last (R303). -/
structure Beat where
  role : Nat := 0
  slot : Nat := 0
  yield : Bool := false
  pulled : Bool := false
  faults : Nat := 0
  epoch : Nat := 0
  inForce : Nat := 0
  /-- [R303] missing units by ring, 4 bits each -/
  missing : Nat := 0
  /-- [R303] consecutive disagreement frames -/
  disagree : Nat := 0
  deriving DecidableEq, Repr

/-- What a card holds of its control state after slot j_s (R310): the frame, the section states s1 and s2 in turn, the loop
outputs, position and speed of each Sliproad channel, and the converter fields (R307). -/
structure SlotSnap where
  frame : Nat
  secs : List Int
  outs : List Int
  slips : List (Rat × Rat)
  conv : List Int
  deriving DecidableEq, Repr

/-- A split part received (R308): kind, index, the frame number in which it arrived, the frame number its mirror names,
and its content. -/
structure MirPart where
  kind : Nat
  index : Nat
  frame : Nat
  named : Nat
  body : List Byte
  deriving DecidableEq, Repr

/-- The pair. -/
structure Duplex where
  /-- [R303] frame number of the heartbeat counted last, and what it carried -/
  beatFrame : Option Nat := none
  beat : Beat := {}
  /-- [R303] consecutive misaligned heartbeats -/
  misaligned : Nat := 0
  /-- [R316] consecutive missing heartbeats -/
  missing : Nat := 0
  /-- [R304] consecutive heartbeats without a difference, while OFFLINE for one -/
  matched : Nat := 0
  /-- [R304] OFFLINE for a difference -/
  mismatch : Bool := false
  /-- [R322] the card listens, with the frames still to listen -/
  listen : Option Nat := none
  /-- [R322] a compatible partner listens too and goes first -/
  waitActive : Bool := false
  /-- [R305] sequence numbers of the mirror and of the host batch -/
  mirrorSeq : Nat := 0
  batchSeq : Nat := 0
  /-- [R309] a mirror has been received since the role was taken -/
  mirrorSeen : Bool := false
  /-- [R303] partner frame number of the misaligned heartbeat counted last -/
  misSeen : Option Nat := none
  /-- [R322] a partner that listens too has been heard during the listen -/
  partnerListens : Bool := false
  /-- [R309] frame number named by the mirror received last -/
  mirrorFrame : Option Nat := none
  /-- [R375] configuration CRC carried by the mirror received last -/
  mirrorCrc : Option Nat := none
  /-- [R310] the card's own values after slot j_s -/
  snap : Option SlotSnap := none
  /-- [R310] the card's own estimator parts at its last seals, newest first: frame number and the content of kind 4 -/
  sealed : List (Nat × List Byte) := []
  /-- [R310] split parts whose correction is still to be applied -/
  parts : List MirPart := []
  /-- [R373, R375] values taken into the pending set that the next mirrors carry -/
  stagedOut : List WriteReq := []
  /-- [R303] sequence of the mirror received last -/
  mirrorIn : Nat := 0
  /-- [R321] consecutive heartbeats in which the partner, STANDBY or in its shadow run, has reported no disagreement -/
  agreeRun : Nat := 0
  /-- [R314] the self-fault map its own heartbeat has carried, and the frame number of that heartbeat -/
  sentMap : Nat × Nat := (0, 0)
  /-- [R305] values of the pending set the mirror of this frame has carried -/
  carriedStaged : List WriteReq := []
  /-- [R305] serialised writes the mirror of this frame has carried -/
  carried : List WriteReq := []
  /-- [R314] frame number in which arbitration started -/
  arbitrate : Option Nat := none
  /-- [R314] the ACTIVE card has answered the disagreement it has been told of -/
  arbDone : Bool := false
  /-- [R316] this card yields, with the frame number at which it began -/
  yield : Option Nat := none
  /-- [R316, R319] driving has stopped, the role follows at the next boundary -/
  halted : Bool := false
  /-- [R316] frame number at which the card that yielded became STANDBY -/
  yielded : Option Nat := none
  /-- [R315] frame number at which the card became SUSPECT -/
  suspectFrom : Nat := 0
  /-- [R320] handover frame of a planned switchover, and its cause: 1 host, 2 auto-return -/
  handover : Option (Nat × Nat) := none
  /-- [R318] frame number from which the exclusive outputs may be driven -/
  exclusive : Option Nat := none
  /-- [R323] the bulk state being served: its seal frame, all of it, and the number of the next block -/
  serve : Option (Nat × List Byte × Nat) := none
  /-- [R323] blocks sent in a frame: frame number and count -/
  served : Nat × Nat := (0, 0)
  /-- [R323] seal frame and length of the pull in course, and its blocks by number -/
  pullHead : Option (Nat × Nat) := none
  pull : List (Nat × List Byte) := []
  /-- [R323] counter value at which the pull began -/
  pullC : Nat := 0
  /-- [R324] what each frame sealed since the pull began contributes to the cell records, newest first -/
  kept : List (Nat × List (Nat × CellRec × RecRest)) := []
  /-- [R323] broken pulls -/
  broken : Nat := 0
  /-- [R325] restarts of the shadow run -/
  restarts : Nat := 0
  /-- [R313] counter values of corrected SECDED errors within the last second, newest first -/
  ecc : List Nat := []
  /-- [R313] an uncorrectable error has been detected -/
  eccHard : Bool := false
  /-- [R313] consecutive frames with units missing here only, by ring -/
  ringBad : List Nat := []
  /-- [R303] AC3 has armed the heartbeat in the previous frame, and in the frame in course -/
  armed : Bool := false
  arming : Bool := false
  deriving DecidableEq, Repr

end Sys2Proof.Machine
end

