-- ==== Sys2Proof/Machine/Store.lean ====
section
/-!
DEFINITION. A sparse table by key in one canonical form: keys strictly rising and no entry equal to what
an unlisted key reads as. The object dictionary, the lanes and the per-cell tables are held in it.
Marks (notes/assumptions): DESIGN CHOICE 110.
-/
namespace Sys2Proof.Machine

/-- Reads key `k`; an unlisted key reads `d k`. -/
def storeGet {α : Type} (d : Nat → α) : List (Nat × α) → Nat → α
  | [], k => d k
  | (j, v) :: r, k => if j = k then v else storeGet d r k

/-- Drops every entry of key `k`. -/
def storeDrop {α : Type} : List (Nat × α) → Nat → List (Nat × α)
  | [], _ => []
  | (j, v) :: r, k => if j = k then storeDrop r k else (j, v) :: storeDrop r k

/-- Puts an entry before the first larger key. -/
def storeInsert {α : Type} : List (Nat × α) → Nat → α → List (Nat × α)
  | [], k, v => [(k, v)]
  | (j, w) :: r, k, v => if k < j then (k, v) :: (j, w) :: r else (j, w) :: storeInsert r k v

/-- Writes key `k`: the entry is removed where the value is what an unlisted key reads as. -/
def storePut {α : Type} [DecidableEq α] (d : Nat → α) (l : List (Nat × α)) (k : Nat) (v : α) : List (Nat × α) :=
  if v = d k then storeDrop l k else storeInsert (storeDrop l k) k v

/-- Every key of the list is above `b`. -/
def storeAbove {α : Type} (b : Nat) : List (Nat × α) → Prop
  | [] => True
  | (j, _) :: r => b < j ∧ storeAbove b r

/-- The canonical form. -/
def storeWf {α : Type} (d : Nat → α) : List (Nat × α) → Prop
  | [] => True
  | (j, v) :: r => v ≠ d j ∧ storeAbove j r ∧ storeWf d r

end Sys2Proof.Machine
end

