-- ==== Sys2Proof/Machine/State.lean ====
section
/-!
DEFINITION. The state of the module: the object dictionary (every object of the spec's object maps, held as the
values that differ from their defaults), the state the spec gives each unit beside its objects, what the module has
sent on its links, and the queue of commands that wait.
Marks (notes/assumptions): DESIGN CHOICE 2, 7, 11, 17, 21, 109, 110, 144.
-/
namespace Sys2Proof.Machine

/-- Why the block stops with a fault. No command of this part raises one: the spec gives every step of the
table an effect, and a step that finds nothing to act on leaves the state as it is. -/
inductive Fault where
  /-- Raised by nobody; kept so that the three outcomes of a step are all named. Safe. -/
  | none
  deriving DecidableEq, Repr

/-- Why the model refuses a command. -/
inductive Refusal where
  /-- Raised by an arm of `exec` whose command has no meaning in the model yet. Safe: nothing is claimed of it. -/
  | notModelled (mnemonic : String)
  deriving DecidableEq, Repr

/-- What the module sent on a link (L0 to L27 by number), as bytes of the link's own frame. -/
structure Sent where
  link : Nat
  bytes : List Byte
  deriving DecidableEq, Repr

/-- The module. -/
structure State where
  /-- [R10] the objects whose value is not their default, by key index × 65,536 + sub-index -/
  objs : List (Nat × Int) := []
  /-- [R8] the DOMAIN and STR objects that are not empty, by key -/
  doms : List (Nat × List Byte) := []
  /-- Clocktower -/
  clk : Clk := {}
  /-- frame and profile -/
  frame : Frame := {}
  /-- [R65] the lanes that are not at rest, by number -/
  lanes : List (Nat × Lane) := []
  /-- Roundabout -/
  rings : Rings := {}
  /-- the front end, the cells, the estimator and balancing -/
  cells : Cells := {}
  /-- Avenue -/
  av : Avenue := {}
  /-- [R227] the Sliproad channels that are not at rest -/
  slips : List (Nat × Slip) := []
  /-- [R241] the valves that are not at rest -/
  valves : List (Nat × Valve) := []
  /-- the thermal functions -/
  therm : Therm := {}
  /-- the guard core, Bollard and the contactors -/
  safe : Safety := {}
  /-- the duplex pair -/
  duplex : Duplex := {}
  /-- the event recorder -/
  evt : Evt := {}
  /-- the object server, sessions and networks -/
  host : HostSt := {}
  /-- the safety password and the change log -/
  log : SafeLog := {}
  /-- the cyclic program -/
  prog : Prog := {}
  /-- [R387] the CAN controllers that are not at rest, by number -/
  cans : List (Nat × CanSt) := []
  /-- the management target -/
  alley : AlleySt := {}
  /-- supplies, resets, banks, vault and life-cycle -/
  pwr : Pwr := {}
  /-- [R298] the duplex mode in force, taken from 0x7000:1 at reset -/
  pairOn : Bool := false
  /-- [R425] the host domain runs -/
  hostUp : Bool := true
  /-- [R428] the string domain runs -/
  stringUp : Bool := true
  /-- what the module has sent on its links, oldest first -/
  sent : List Sent := []
  /-- the model's own counter of values the spec leaves open -/
  free : Nat := 0
  /-- the commands that wait, first in first out -/
  pending : List Instr := []
  deriving DecidableEq, Repr

/-- The module right after reset, with the host domain running: every object at its default, every field at the
value its structure names. -/
def State.reset : State := {}

end Sys2Proof.Machine
end

