-- ==== Sys2Proof/Machine/Ops.lean ====
section
/-!
DEFINITION. The named operations every family uses: objects of the dictionary, lanes (R63), event requests (R410,
R411, R416, R473) and the answer to a host write (R368, R370).
Marks (notes/assumptions): DEDUCED 23, 24, 32, 49, 158, 170; DESIGN CHOICE 10, 11, 18, 19, 52, 132.
-/
namespace Sys2Proof.Machine

/-- What the outcome of every command of this part is: a next state. -/
abbrev Out := Host.Outcome State Fault Refusal

/-- A command of the host domain: with the domain down nothing takes it. -/
def onHost (s : State) (f : State → State) : Out := if s.hostUp then .next (f s) else .next s

/-- A command of the string domain: with the domain down nothing takes it. -/
def onString (s : State) (f : State → State) : Out := if s.stringUp then .next (f s) else .next s

/-- `f` where a condition holds, the state itself where it does not. -/
def whenS (c : Bool) (s : State) (f : State → State) : State := if c then f s else s

/-- An object's value as it stands in the store. -/
def State.obj (s : State) (i sub : Nat) : Int := storeGet objDefault s.objs (objKey i sub)

/-- The same as an unsigned number. -/
def State.objN (s : State) (i sub : Nat) : Nat := (s.obj i sub).toNat

/-- A BOOL object, or any other not zero. -/
def State.objB (s : State) (i sub : Nat) : Bool := decide (s.obj i sub ≠ 0)

/-- The value of an F32 object. -/
def State.objF (s : State) (i sub : Nat) : Rat := f32Value (s.objN i sub)

/-- Stores an object's value. -/
def State.setObj (s : State) (i sub : Nat) (v : Int) : State :=
  { s with objs := storePut objDefault s.objs (objKey i sub) v }

/-- Stores a rational in an F32 object, rounded to nearest, ties to even. -/
def State.setF (s : State) (i sub : Nat) (q : Rat) : State := s.setObj i sub (f32Word q)

/-- Stores a BOOL object. -/
def State.setB (s : State) (i sub : Nat) (b : Bool) : State := s.setObj i sub (if b then 1 else 0)

/-- Stores several objects of one index. -/
def State.setObjs (s : State) (i : Nat) : List (Nat × Int) → State
  | [] => s
  | (sub, v) :: r => (s.setObj i sub v).setObjs i r

/-- A DOMAIN or STR object's bytes. -/
def State.dom (s : State) (i sub : Nat) : List Byte := storeGet (fun _ => []) s.doms (objKey i sub)

/-- Stores a DOMAIN or STR object's bytes. -/
def State.setDom (s : State) (i sub : Nat) (b : List Byte) : State :=
  { s with doms := storePut (fun _ => []) s.doms (objKey i sub) b }

/-- One more in a counter of `w` bits; beyond its largest number the spec states no value. -/
def countUp (w : Nat) (v : Int) : Int :=
  if v + 1 < ((2 ^ w : Nat) : Int) then v + 1 else (Config.countBeyond v.toNat : Nat)

/-- Counts one in a U32 object. -/
def State.bump (s : State) (i sub : Nat) : State := s.setObj i sub (countUp 32 (s.obj i sub))

/-- Counts one in an object that saturates at `top`. -/
def State.bumpSat (s : State) (i sub : Nat) (top : Int) : State :=
  s.setObj i sub (if s.obj i sub < top then s.obj i sub + 1 else top)

/-- Sets or clears one bit of an object. -/
def State.setObjBit (s : State) (i sub b : Nat) (on : Bool) : State := s.setObj i sub (setBit (s.obj i sub) b on)

/-- Takes a value the spec leaves open: the state's counter of such values moves on. -/
def State.draw (s : State) : Nat × State := (s.free, { s with free := s.free + 1 })

/-- A frame sent on a link. -/
def State.send (s : State) (link : Nat) (b : List Byte) : State := { s with sent := s.sent ++ [⟨link, b⟩] }

/-! ### Time -/

/-- Module time, in 2^-16 ns, at the counter value `c` and the phase `p` (R41, R43). -/
def timeAt (k : Clk) (c p : Nat) : Int :=
  let q : Int := ((16 * c + p : Nat) : Int)
  k.o + q * 16384 + q * k.rho / 67108864

/-- Module time now. -/
def State.now (s : State) : Int := timeAt s.clk s.clk.c 0

/-- A time in 2^-16 ns as a TIME80 value: seconds × 2^32 + nanoseconds, the fraction of a nanosecond discarded
(R43); seconds take 48 bits. -/
def time80 (t : Int) : Int :=
  let ns := t / 65536
  toU 48 (ns / 1000000000) * 4294967296 + ns % 1000000000

/-- The nanoseconds a TIME80 value names. -/
def time80Ns (v : Int) : Int := v / 4294967296 * 1000000000 + v % 4294967296

/-- Nanoseconds of module duration between two counter values: counter differences scaled by 1 + ρ (R44). -/
def elapsedNs (k : Clk) (c0 c1 : Nat) : Int :=
  let d : Int := 4 * ((c1 : Int) - (c0 : Int))
  d + d * k.rho / 1099511627776

/-- The frame number of the frame in course (R32). -/
def State.frameNo (s : State) : Nat := s.objN 0x2013 0

/-- T_F in force, in ns. -/
def State.tf (s : State) : Int := s.obj 0x2011 0 * 1000

/-! ### Event codes -/

/-- Severity 4 (R416). -/
def sevFour (code : Nat) : Bool := code / 256 == 0x0A || [0x0112, 0x0114, 0x030E, 0x0B04].contains code

/-- The fault codes of R473. -/
def faultCodes : List Nat := [0x0104, 0x0105, 0x0120, 0x0122, 0x0304, 0x0307, 0x0312, 0x0314, 0x0402, 0x0405, 0x0409,
  0x050C, 0x050D, 0x0602, 0x0604, 0x0703, 0x0710, 0x0714, 0x0809, 0x080B, 0x0901, 0x0909, 0x090C, 0x090E, 0x0B03] ++
  [0x0B05, 0x0B06, 0x0B0B, 0x0B0E, 0x0C04, 0x0C0A, 0x0C0B, 0x0C0F, 0x0F04, 0x0F05, 0x0F09, 0x0F0B, 0x0F0C, 0x0F0D,
  0x0F0E]

/-- The notice codes of R473. -/
def noticeCodes : List Nat := [0x0101, 0x0107, 0x0110, 0x0113, 0x0130, 0x0131, 0x0201, 0x0204, 0x0206, 0x0208, 0x0209,
  0x0301, 0x0303, 0x030B, 0x0313, 0x0403, 0x040C, 0x040E, 0x040F, 0x0502, 0x0504, 0x0506, 0x0507, 0x0509, 0x050B] ++
  [0x050F, 0x0601, 0x0603, 0x0610, 0x0705, 0x0706, 0x0707, 0x070B, 0x070D, 0x0711, 0x0712, 0x0803, 0x0804, 0x0807,
  0x0902, 0x0904, 0x0907, 0x090A, 0x090B, 0x090D, 0x0B01, 0x0B02, 0x0B07, 0x0B09, 0x0B0A, 0x0B0C, 0x0B10, 0x0B11] ++
  [0x0C01, 0x0C03, 0x0C05, 0x0C06, 0x0C07, 0x0C0C, 0x0C0D, 0x0D01, 0x0D02, 0x0D05, 0x0D06, 0x0D0C, 0x0D0F, 0x0D10,
  0x0D11, 0x0E02, 0x0E06, 0x0F01, 0x0F03, 0x0F07, 0x0F08, 0x0F0A]

/-- A user event code. -/
def userCode (code : Nat) : Bool := decide (0x0C80 ≤ code) && decide (code ≤ 0x0CFF)

/-- The severity of a code (R416, R473); a user event's is the program's. -/
def severity (code userSev : Nat) : Nat :=
  if sevFour code then 4
  else if userCode code then userSev
  else if faultCodes.contains code then 3
  else if noticeCodes.contains code then 1
  else if code = 0x0106 then 0
  else 2

/-- The rate class of a code (R416, R473). -/
def rateClass (code : Nat) : Nat :=
  if sevFour code || [0x0130, 0x0131, 0x0132, 0x0133].contains code then 0
  else if userCode code then 4
  else match severity code 0 with
    | 3 => 1
    | 2 => 2
    | _ => 3

/-! ### Event data -/

/-- A data field: its bytes as they stand in the record (R410). -/
abbrev Fld := List Byte

/-- A one-byte object field. -/
def d8 (v : Int) : Fld := leBytes 1 v
/-- A two-byte object field. -/
def d16 (v : Int) : Fld := leBytes 2 v
/-- A four-byte field. -/
def d32 (v : Int) : Fld := leBytes 4 v
/-- An eight-byte object field. -/
def d64 (v : Int) : Fld := leBytes 8 v
/-- An F32 field. -/
def dF (q : Rat) : Fld := d32 (f32Word q)
/-- A TIME80 field: 48-bit seconds, then 32-bit nanoseconds. -/
def d80 (v : Int) : Fld := leBytes 6 (v / 4294967296) ++ leBytes 4 (v % 4294967296)

/-- The fields packed from byte 32 of the record: one that would reach past byte 47 is omitted with every field
after it (R410). -/
def packFlds : List Byte → List Fld → List Byte × Bool
  | acc, [] => (padTo 16 acc, false)
  | acc, f :: r => if acc.length + f.length ≤ 16 then packFlds (acc ++ f) r else (padTo 16 acc, true)

/-! ### Lanes -/

/-- What a producer does that finds the lane full (R63). -/
inductive Behaviour where
  | wait
  | overwrite
  | dropOld
  | dropNew
  | reserved
  deriving DecidableEq, Repr

/-- A row of the lane table (R65): rank, depth, bytes of an element, the slots reserved for the class of producer the row names,
and what a producer does that finds the lane full. -/
structure LaneRow where
  rank : Nat
  depth : Nat
  size : Nat
  reserve : Nat
  full : Behaviour
  deriving DecidableEq, Repr

/-- The lanes by number (R65). Lane 0 is shared out whole, 16 slots to a class; lane 37 keeps its reserve in its own pushes. -/
def laneTable : List LaneRow :=
  [
   ⟨0, 32, 1536, 0, .reserved⟩, ⟨0, 64, 1536, 0, .dropOld⟩, ⟨0, 8, 128, 0, .reserved⟩, ⟨0, 64, 64, 0, .reserved⟩,
   ⟨0, 2, 16384, 0, .reserved⟩, ⟨0, 2, 64, 0, .overwrite⟩, ⟨0, 2, 16, 0, .overwrite⟩, ⟨0, 2, 16, 0, .overwrite⟩,
   ⟨2, 2, 512, 0, .overwrite⟩, ⟨0, 32, 72, 0, .dropOld⟩, ⟨0, 32, 72, 0, .dropOld⟩, ⟨0, 32, 72, 0, .dropOld⟩,
   ⟨0, 4, 32, 0, .overwrite⟩, ⟨1, 16, 16, 0, .overwrite⟩, ⟨4, 4, 64, 0, .dropOld⟩, ⟨3, 2, 32, 0, .overwrite⟩] ++ [
   ⟨1, 16, 16, 0, .overwrite⟩, ⟨2, 16, 32, 0, .dropOld⟩, ⟨1, 16, 8, 0, .overwrite⟩, ⟨1, 16, 8, 0, .overwrite⟩,
   ⟨4, 48, 96, 0, .dropOld⟩, ⟨4, 48, 96, 0, .dropOld⟩, ⟨4, 48, 96, 0, .dropOld⟩, ⟨4, 48, 96, 0, .dropOld⟩,
   ⟨3, 96, 96, 0, .dropOld⟩, ⟨2, 32, 64, 0, .dropOld⟩, ⟨0, 4, 16, 0, .overwrite⟩, ⟨2, 64, 72, 0, .dropNew⟩,
   ⟨2, 64, 72, 0, .dropNew⟩, ⟨2, 64, 72, 0, .dropNew⟩, ⟨6, 64, 1536, 4, .dropNew⟩, ⟨2, 16, 128, 0, .dropNew⟩] ++ [
   ⟨2, 2, 16384, 0, .dropNew⟩, ⟨2, 4, 32, 0, .dropNew⟩, ⟨6, 8, 64, 0, .dropNew⟩, ⟨3, 128, 64, 0, .wait⟩,
   ⟨4, 32, 128, 0, .wait⟩, ⟨1, 256, 32, 32, .reserved⟩, ⟨2, 2, 128, 0, .overwrite⟩, ⟨3, 2, 4096, 0, .overwrite⟩,
   ⟨3, 2, 4096, 0, .overwrite⟩, ⟨5, 64, 64, 0, .wait⟩, ⟨1, 32, 32, 2, .wait⟩, ⟨2, 16, 64, 0, .wait⟩,
   ⟨1, 8, 32, 2, .wait⟩, ⟨2, 8, 256, 0, .wait⟩, ⟨2, 8, 256, 0, .wait⟩, ⟨0, 8, 4096, 0, .wait⟩]

/-- The row of lane `n`. -/
def laneInfo (n : Nat) : LaneRow := laneTable.getD n ⟨0, 0, 0, 0, .dropNew⟩

/-- A lane as it stands. -/
def State.lane (s : State) (n : Nat) : Lane := storeGet (fun _ => {}) s.lanes n

/-- Stores a lane. -/
def State.setLane (s : State) (n : Nat) (l : Lane) : State := { s with lanes := storePut (fun _ => {}) s.lanes n l }

/-- The high-water mark takes the number of elements held. -/
def State.markLane (s : State) (n : Nat) : State :=
  let k : Int := (s.lane n).elems.length
  if s.obj 0x2100 (n + 1) < k then s.setObj 0x2100 (n + 1) k else s

/-- Appends an element. -/
def State.appendLane (s : State) (n : Nat) (e : Elem) : State :=
  (s.setLane n { s.lane n with elems := (s.lane n).elems ++ [e] }).markLane n

/-- Whether the last discard on a lane lies a second of counter time back, or none has been. -/
def dropIsFirst (s : State) (n : Nat) : Bool :=
  match (s.lane n).lastDrop with
  | none => true
  | some c => decide (1000000000 ≤ elapsedNs s.clk c s.clk.c)

/-- Counts a discard (R63). -/
def State.noteDrop (s : State) (n : Nat) : State :=
  (s.setLane n { s.lane n with lastDrop := some s.clk.c }).bump 0x2102 (n + 1)

/-- Elements of lane 37 that its class-0 slots hold. -/
def isClass0 : Elem → Bool
  | .event e => rateClass e.code == 0
  | _ => false

/-- An event request as an engine places it (R411). -/
def mkEvent (s : State) (code src userSev : Nat) (flds : List Fld) : EventReq :=
  let p := packFlds [] flds
  ⟨code, src, s.clk.c, s.frameNo, p.1, p.2, userSev, !s.hostUp⟩

/-- The slots of lane 37 for the class of a request are full: 32 for the class-0 codes, 224 for the rest (R65). -/
def eventsFull (s : State) (e : EventReq) : Bool :=
  let l := (s.lane 37).elems
  let c0 := (l.filter isClass0).length
  if rateClass e.code = 0 then decide (32 ≤ c0) else decide (224 ≤ l.length - c0)

/-- A request into lane 37 without the events a full lane gives rise to. -/
def pushEvent0 (s : State) (e : EventReq) : State :=
  if eventsFull s e then (s.bump 0x2101 38).noteDrop 37 else s.appendLane 37 (.event e)

/-- A request into lane 37: the first discard after 1 s without one has its event, and a full reservation of the class-0 codes is a
breach (R63, R65). -/
def pushEvent (s : State) (e : EventReq) : State :=
  let s' := pushEvent0 s e
  if eventsFull s e then
    let c : Bool := rateClass e.code == 0
    let s' := if dropIsFirst s 37 then
        pushEvent0 s' (mkEvent s' 0x0121 3 0 [d32 37, d32 (if c then 4 else 3), d32 (s'.obj 0x2102 38)])
      else s'
    if c then pushEvent0 s' (mkEvent s' 0x0122 3 0 [d32 37, d32 0]) else s'
  else s'

/-- Raises an event: a request in lane 37, or, with the host domain down, one the string domain holds for the next
start (R474). -/
def raise (s : State) (code src : Nat) (flds : List Fld) : State :=
  let e := mkEvent s code src 0 flds
  if s.hostUp then pushEvent s e else { s with evt := { s.evt with deferred := s.evt.deferred ++ [e] } }

/-- The number the LANE_DROP event gives a behaviour: the order of R63's table. -/
def behaviourCode : Behaviour → Int
  | .wait => 0
  | .overwrite => 1
  | .dropOld => 2
  | .dropNew => 3
  | .reserved => 4

/-- A discard, with its event where it is the first on the lane after 1 s without one (R63). -/
def dropOn (s : State) (n : Nat) : State :=
  let s' := s.noteDrop n
  if dropIsFirst s n then raise s' 0x0121 3 [d32 n, d32 (behaviourCode (laneInfo n).full), d32 (s'.obj 0x2102 (n + 1))]
  else s'

/-- A producer pushes an element into a lane of which it may fill `room` slots (R63). The producer class 0x0122 names is 0 on every
lane, since each has one class only. -/
def lanePushIn (s : State) (n room : Nat) (e : Elem) : State :=
  let l := s.lane n
  if l.elems.length < room then s.appendLane n e
  else
    let s := s.bump 0x2101 (n + 1)
    match (laneInfo n).full with
    | .wait => s.setLane n { l with waiting := l.waiting ++ [e] }
    | .overwrite => s.setLane n { l with elems := l.elems.drop 1 ++ [e] }
    | .dropOld => dropOn (s.setLane n { l with elems := l.elems.drop 1 ++ [e] }) n
    | .dropNew => dropOn s n
    | .reserved => raise (dropOn s n) 0x0122 3 [d32 n, d32 0]

/-- A producer without a reserve of its own pushes an element (R63, R65). -/
def lanePush (s : State) (n : Nat) (e : Elem) : State := lanePushIn s n ((laneInfo n).depth - (laneInfo n).reserve) e

/-- The output release unit pushes an element: the slots of lanes 42 and 44 reserved for it are its own (R65). -/
def releasePush (s : State) (n : Nat) (e : Elem) : State := lanePushIn s n (laneInfo n).depth e

/-- The consumer takes the oldest element. -/
def laneTake (s : State) (n : Nat) : Option Elem × State :=
  match (s.lane n).elems with
  | [] => (none, s)
  | e :: r => (some e, s.setLane n { s.lane n with elems := r })

/-- The consumer takes every element. -/
def laneDrain (s : State) (n : Nat) : List Elem × State := ((s.lane n).elems, s.setLane n { s.lane n with elems := [] })

/-- An element passes through lane `n`: its consumer takes it as it comes, and the high-water mark shows it. -/
def passLane (s : State) (n : Nat) : State := if s.obj 0x2100 (n + 1) < 1 then s.setObj 0x2100 (n + 1) 1 else s

/-- An element handed through a rank-0 lane to its sink, which never blocks (R64): it leaves on the link. -/
def laneSend (s : State) (n link : Nat) (b : List Byte) : State := (passLane s n).send link b

/-- Changes the thermal functions. -/
def State.mapTherm (s : State) (f : Therm → Therm) : State := { s with therm := f s.therm }

/-- Capacity commits wait in the queue of one entry per position. -/
def waitCommits (s : State) (l : List Nat) : State :=
  let s := s.mapTherm fun t => { t with waiting := ((List.range 577).filter (fun n => t.waiting.contains n || l.contains n)) }
  s.setObj 0x6040 3 s.therm.waiting.length

/-- A capacity commit goes to lane 43, or waits while the die temperature inhibits it (R163, R256). -/
def pushCommit (s : State) (n : Nat) : State :=
  if s.objB 0x6040 2 then waitCommits s [n] else lanePush s 43 (.nums [6, (n : Int)])

/-! ### Roles and counts -/

/-- The role of the card (R299): a single module is ACTIVE, 3. -/
def State.role (s : State) : Int := if s.pairOn then s.obj 0x7001 0 else 3

/-- The card is ACTIVE or a single module. -/
def State.isActive (s : State) : Bool := decide (s.role = 3)

/-- The card runs the front end, the estimator, Avenue, Sliproad and the user tasks: every role but OFFLINE does (R299). -/
def State.runs (s : State) : Bool := !(s.pairOn && decide (s.obj 0x7001 0 = 0))

/-- Frame number `a` is `b` or later (frame numbers wrap, R32). -/
def frameReached (a b : Nat) : Bool := decide (((a : Int) - (b : Int)) % 4294967296 < 2147483648)

/-- The card drives what only the ACTIVE card drives, its string domain not released and driving not stopped (R299, R18,
R316, R454). -/
def State.drives (s : State) : Bool := s.isActive && decide (s.frame.released = 0) && !s.duplex.halted

/-- It drives the exclusive outputs too: rings, steppers, CAN and timed pulses (R318). -/
def State.drivesAll (s : State) : Bool := s.drives && s.duplex.exclusive.isNone

/-- It sends the SYNC of the next boundary (R318, R320). -/
def State.drivesSync (s : State) : Bool :=
  let n := (s.frameNo + 1) % 4294967296
  let from_ := match s.duplex.exclusive with
    | some m => frameReached n m
    | none => true
  match s.duplex.handover with
  | some (h, _) =>
    if s.pairOn ∧ frameReached n h then decide (s.role = 2) && decide (s.frame.released = 0) else s.drives && from_
  | none => s.drives && from_

/-- The number of configured cell positions N (R6): the channels of the committed CM18 table. -/
def State.cellCount (s : State) : Nat :=
  ((List.range 40).map (fun k =>
    if s.obj (0x3100 + k) 1 = 255 then 0 else popCount 18 (s.objN (0x3100 + k) 5))).sum

/-- Window `w` has overrun in the frame in course, or a packet that carried its data was discarded (R17, R38). -/
def windowLate (s : State) (w : Nat) : Bool := s.frame.late.contains w || s.frame.lost.contains w

/-- The active profile (R21). -/
def State.profile (s : State) : Int := s.obj 0x2002 0

/-! ### Capture and fault snapshot (R218, R219) -/

/-- An onset Avenue records; AC3 writes the event at the next output seal (R198). -/
def onset (s : State) (code : Nat) (flds : List Fld) : State :=
  { s with av := { s.av with onsets := s.av.onsets ++ [(code, flds)] } }

/-- A trigger of the tuning capture from source `src` (R218): 0 host, 1 level, 2 comparator, 3 detector, 4 injection. -/
def triggerCapture (s : State) (src : Int) : State :=
  if s.obj 0x5440 8 = 1 ∧ s.obj 0x5440 4 = src then
    let s := s.setObj 0x5440 8 2
    { s with av := { s.av with cap := { s.av.cap with after := some 0, at_ := s.now / 65536 } } }
  else s

/-- A fault snapshot begins (R219): cause 1 Guarded entry, 2 guard-core trip, 3 Bollard trip. It pre-empts a tuning
capture; while one is held or in course a further fault is counted. -/
def faultSnapshot (s : State) (cause : Nat) : State :=
  if s.av.snap.isSome ∨ s.obj 0x5440 8 = 5 then s.setObj 0x5440 9 (countUp 16 (s.obj 0x5440 9)) else
  let st := s.obj 0x5440 8
  let s := if 1 ≤ st ∧ st ≤ 3 then onset ((s.setObj 0x5440 8 4).setDom 0x5442 0 []) 0x070E [d8 st] else s
  { s with av := { s.av with
    cap := {}
    snap := some { rows := s.av.pre, after := some 0, at_ := s.now / 65536, cause := cause } } }

/-! ### The limits imposed on the converter (R205) -/

/-- Index of the objects of loop L. -/
def loopIx (l : Nat) : Nat := 0x5100 + l

/-- Loop L is enabled. -/
def loopOn (s : State) (l : Nat) : Bool := s.objB (loopIx l) 1

/-- The loop that owns the converter set-point. -/
def ownerLoop (s : State) : Option Nat :=
  (List.range 16).find? (fun l => loopOn s l && decide (s.obj (loopIx l) 9 = 0x0100))

/-- The tightest limit imposed on a side, charge or discharge. -/
def imposedOn (s : State) (charge : Bool) : Option Rat :=
  (s.av.imposed.filterMap (fun p => if charge then p.2.1 else p.2.2)).foldl
    (fun m v => match m with | none => some v | some u => some (minR u v)) none

/-- The configured limits as they apply in this frame: a side on which an imposed limit is tighter keeps the configured
value it had. -/
def refreshConfigured (s : State) : State :=
  let ch := imposedOn s true
  let di := imposedOn s false
  let keep (lim : Option Rat) (held now : Nat) (v : Rat) : Nat :=
    match lim with
    | some x => if x < v then held else now
    | none => now
  let (c, d) := s.av.cfg
  let (u, w) := s.av.own
  let (nu, nw) := match ownerLoop s with
    | some l => (s.objN (loopIx l) 12, s.objN (loopIx l) 13)
    | none => (0, 0)
  { s with av := { s.av with
    cfg := (keep ch c (s.objN 0x5600 1) (f32Value c), keep di d (s.objN 0x5600 2) (f32Value d))
    own := (keep ch u nu (f32Value u), keep di w nw (-(f32Value w))) } }

/-- Whether a source imposes a value on a side that is tighter than the configured converter limit of the side. -/
def tightOn (s : State) (code : Nat) (charge : Bool) : Bool :=
  match s.av.imposed.find? (fun p => p.1 == code) with
  | some p =>
    match (if charge then p.2.1 else p.2.2) with
    | some x => decide (x < f32Value (if charge then s.av.cfg.1 else s.av.cfg.2))
    | none => false
  | none => false

/-- The event of a limit's onset on a side: source, imposed value, configured value. -/
def noteImposed (old s : State) (p : Nat × Option Rat × Option Rat) (charge : Bool) : State :=
  if tightOn s p.1 charge && !tightOn old p.1 charge then
    let owner : Int := match ownerLoop s with
      | some l => l
      | none => 255
    onset s 0x070A [d32 owner, d32 p.1, dF ((if charge then p.2.1 else p.2.2).getD 0), d32 (if charge then s.av.cfg.1 else s.av.cfg.2)]
  else s

/-- The limits imposed from now on, with the configured ones as they then apply. A limit begins, on its side, where it becomes tighter
than the configured one, be it imposed now or left behind by a configured one that rises; each beginning is recorded. -/
def imposeLimits (s : State) (new : List (Nat × Option Rat × Option Rat)) : State :=
  let t := refreshConfigured { s with av := { s.av with imposed := new } }
  new.foldl (fun x p => noteImposed s (noteImposed s x p true) p false) t

/-! ### Guarded and the profile -/

/-- The active profile changes (R22, R30). -/
def changeProfile (s : State) (new reason : Int) : State :=
  let old := s.profile
  if old = new then s else
  let s := (s.setObj 0x2002 0 new).setObj 0x2002 1 reason
  let fill : Nat := if (old = 1 ∨ old = 3) ∧ new ≠ 1 ∧ new ≠ 3 then 16 else s.frame.settling
  let s := { s with frame := { s.frame with settling := fill, parkPhase := 0, parkNew := decide (new = 3) } }
  raise s 0x0110 3 [d8 old, d8 new, d8 reason]

/-- The safe envelope as an imposed limit, in force in Guarded (R205, R278). -/
def envelope (s : State) : Nat × Option Rat × Option Rat :=
  if s.profile = 4 then (5, some (s.objF 0x6811 1), some (s.objF 0x6811 2)) else (5, none, none)

/-- A running program is held at once (R336): runs in progress are abandoned, and the outputs are to take their safe values. -/
def holdProgram (s : State) : State :=
  if s.obj 0xA000 2 ≠ 2 then s else
  raise ({ s with prog := { s.prog with tasks := [], safeDue := true } }.setObj 0xA000 2 3) 0x0C01 3 [d8 2, d8 3, d32 2]

/-- The module enters Guarded unless it is there, with a fault snapshot of cause `snap` (R25, R219); `host` says that the
host asked for it. The safe envelope and the hold of the program are in force from that instant, also within a frame (DEDUCED 170). -/
def enterGuarded (s : State) (snap : Nat) (host : Bool) : State :=
  if s.profile = 4 then s else
  let s := { s with frame := { s.frame with guardedC := s.clk.c, change := none } }
  let s := raise s 0x0112 3 [d32 (s.obj 0x2004 0)]
  let s := faultSnapshot s snap
  let s := changeProfile s 4 (if host then 0 else 1)
  holdProgram (imposeLimits s (s.av.imposed.filter (fun p => p.1 != 5) ++ [envelope s]))

/-- A cause of Guarded begins: the bit is set, and the module enters Guarded (R25). -/
def setCause (s : State) (bit : Nat) : State :=
  enterGuarded (s.setObjBit 0x2004 0 bit true) 1 (decide (bit = 6))

/-- A cause of Guarded ends (R26). -/
def clearCause (s : State) (bit : Nat) : State := s.setObjBit 0x2004 0 bit false

/-- A profile is refused (R23): 1 not SERVICE, 2 not at rest, 3 no rated current, 4 card not ACTIVE, 5 at the Guarded release,
6 out of range. -/
def refuseProfile (s : State) (x : Int) (reason : Nat) : State := raise s 0x0111 3 [d8 x, d32 reason]

/-- The guard core or a safety function writes an object the host can write too: of the writes of the frame it has the highest rank
(R369). -/
def guardWrite (s : State) (i sub : Nat) (v : Int) : State :=
  let s := s.setObj i sub v
  let l := s.host.rankOne.filter (fun p => p.1 == s.frameNo)
  { s with host := { s.host with rankOne := l ++ [(s.frameNo, i, sub)] } }

/-! ### The frame windows -/

/-- The use of a window, in 0.1 % of it: the high-water mark takes it (0x2112). -/
def noteUse (s : State) (w : Nat) (use : Int) : State := if s.obj 0x2112 w < use then s.setObj 0x2112 w use else s

/-- Window `w` overruns on engine `engine` (R38, R39): the first in a frame makes it an overrun frame, and the third overrun frame
in a row sets bit 0 of 0x2004:0. -/
def overrun (s : State) (w engine : Nat) : State :=
  let first := s.frame.late.isEmpty
  let s := raise (s.bump 0x2110 w) 0x0120 3 [d32 w, d32 engine, d32 s.frameNo]
  let s := { s with frame := { s.frame with late := s.frame.late ++ [w], clean := 0 } }
  if first then
    let s := s.bumpSat 0x2111 0 255
    if s.obj 0x2111 0 = 3 then setCause s 0 else s
  else s

/-! ### Answers to host writes -/

/-- OK. -/
def errOk : Nat := 0
/-- NO_OBJECT. -/
def errNoObject : Nat := 1
/-- ACCESS. -/
def errAccess : Nat := 2
/-- TYPE. -/
def errType : Nat := 3
/-- RANGE. -/
def errRange : Nat := 4
/-- STATE. -/
def errState : Nat := 5
/-- SUPERSEDED. -/
def errSuperseded : Nat := 6
/-- SAFETY_SESSION. -/
def errSafety : Nat := 7
/-- LOCKED. -/
def errLocked : Nat := 8
/-- BUSY. -/
def errBusy : Nat := 9
/-- SEGMENTED. -/
def errSegmented : Nat := 10
/-- TRANSFER. -/
def errTransfer : Nat := 11
/-- CONFIG_REFUSED. -/
def errConfig : Nat := 12
/-- TOO_LONG. -/
def errTooLong : Nat := 13

end Sys2Proof.Machine
end

