-- ==== Sys2Proof/Machine/CanQueue.lean ====
section
/-!
DEFINITION. The state of a CAN controller (R398, R406) and its receive queues (R404, R405).
Marks (notes/assumptions): DEDUCED 81, 83.
-/
namespace Sys2Proof.Machine

/-- A controller as it stands: 0 CAN T, 1 CAN C, 2 CAN X. -/
def State.can (s : State) (b : Nat) : CanSt := storeGet (fun _ => {}) s.cans b

/-- Stores a controller. -/
def State.setCan (s : State) (b : Nat) (x : CanSt) : State := { s with cans := storePut (fun _ => {}) s.cans b x }

/-- The base index B of a controller (R12). -/
def canIx (b : Nat) : Nat := 0x7800 + 64 * b

/-- Restricted operation: the card of a pair does not drive the exclusive outputs as the ACTIVE one. -/
def canRestricted (s : State) : Bool := s.pairOn && !(s.isActive && s.duplex.exclusive.isNone)

/-- The state of a controller: 0 error active, 1 error passive, 2 bus-off, 3 restricted, 4 disabled, 5 recovering. -/
def canState (s : State) (b : Nat) : Int :=
  if s.objB (canIx b) 1 = false then 4
  else if canRestricted s then 3
  else if (s.can b).recovering then 5
  else if (s.can b).off.isSome then 2
  else if 128 ≤ s.obj (canIx b + 2) 2 ∨ 128 ≤ s.obj (canIx b + 2) 3 then 1 else 0

/-- The elements of the filter lists in force show in B+0x08:2 (R402). -/
def showFilters (s : State) : State :=
  [0, 1, 2].foldl (fun s b => s.setObj (canIx b + 8) 2 (((s.dom (canIx b + 8) 1).length / 8 : Nat) : Int)) s

/-- The controller and the queue (false A, true B) whose entries a DOMAIN object returns. -/
def canQueueOf (i sub : Nat) : Option (Nat × Bool) :=
  if sub ≠ 1 then none
  else if [0x7810, 0x7850, 0x7890].contains i then some ((i - 0x7810) / 64, false)
  else if [0x7811, 0x7851, 0x7891].contains i then some ((i - 0x7811) / 64, true)
  else none

/-- The entries of a queue, oldest first. -/
def canQueue (s : State) (b : Nat) (q : Bool) : List (List Byte) := if q then (s.can b).queueB else (s.can b).queueA

/-- How many entries a queue holds at most. -/
def canDepth (q : Bool) : Nat := if q then 16 else 64

/-- A queue takes its entries, and its count shows them. -/
def setCanQueue (s : State) (b : Nat) (q : Bool) (l : List (List Byte)) : State :=
  let x := s.can b
  let s := s.setCan b (if q then { x with queueB := l } else { x with queueA := l })
  s.setObj (canIx b + (if q then 0x11 else 0x10)) 2 l.length

/-- What a read of a queue returns. -/
def canQueueBytes (s : State) (i sub : Nat) : List Byte :=
  match canQueueOf i sub with
  | some (b, q) => (canQueue s b q).flatten
  | none => []

/-- A discard: counted, remembered for the next entry, with its event where it is the first after 1 s without one. -/
def canDiscard (s : State) (b : Nat) (q : Bool) : State :=
  let x := s.can b
  let last := if q then x.dropB else x.dropA
  let i := canIx b + (if q then 0x11 else 0x10)
  let s := s.bump i 3
  let s := s.setCan b (if q then { x with overB := true, dropB := some s.clk.c } else { x with overA := true, dropA := some s.clk.c })
  let first : Bool := match last with
    | some c => decide (1000000000 ≤ elapsedNs s.clk c s.clk.c)
    | none => true
  if first then raise s 0x0E07 14 [d32 b, d32 (if q then 1 else 0), d32 (s.obj i 3)] else s

/-- An entry is stored, with its overflow bit where entries were discarded before it, or discarded where the queue is full. -/
def canStore (s : State) (b : Nat) (q : Bool) (e : List Byte) : State :=
  let l := canQueue s b q
  if canDepth q ≤ l.length then canDiscard s b q else
  let x := s.can b
  let above := if q then x.overB else x.overA
  let e := if above then e.set 4 ((e.getD 4 0#8) ||| 0x80#8) else e
  let s := s.setCan b (if q then { x with overB := false } else { x with overA := false })
  setCanQueue s b q (l ++ [e])

/-- The entries of a read that was aborted return to the head of the queue in their order; those that no longer fit are
discards. -/
def canGiveBack (s : State) (b : Nat) (q : Bool) (back : List (List Byte)) : State :=
  let l := canQueue s b q
  let room := canDepth q - l.length
  let s := setCanQueue s b q (back.take room ++ l)
  (back.drop room).foldl (fun s _ => canDiscard s b q) s

end Sys2Proof.Machine
end

