-- ==== Sys2Proof/Machine/Events.lean ====
section
/-!
DEFINITION. The event recorder (chapter 15): the event front with its token buckets, the writer and the suppression
summaries.
Marks (notes/assumptions): DEDUCED 22; DESIGN CHOICE 18, 19.
-/
namespace Sys2Proof.Machine

/-! ### Token buckets (R417, R419) -/

/-- Tokens in 2^-16 after the refill since `b.at_`, never above the size. -/
def refilled (s : State) (b : Bucket) (size refill : Int) : Int :=
  let t := b.tokens + refill * elapsedNs s.clk b.at_ s.clk.c * 65536 / 1000000000000
  if size * 65536 < t then size * 65536 else t

/-- Size of the bucket of a code's class. -/
def codeSize (s : State) (code : Nat) : Int := s.obj (0x8010 + rateClass code) 1

/-- The tokens a code's bucket holds now; a bucket nothing has been taken from is full. -/
def codeTokens (s : State) (code : Nat) : Int :=
  match s.evt.buckets.find? (fun p => p.1 == code) with
  | some (_, b) => refilled s b (codeSize s code) (s.obj (0x8010 + rateClass code) 2)
  | none => codeSize s code * 65536

/-- The tokens the global bucket holds now. -/
def globalTokens (s : State) : Int :=
  match s.evt.global with
  | some b => refilled s b (s.obj 0x8015 1) (s.obj 0x8015 2)
  | none => s.obj 0x8015 1 * 65536

/-- The bucket of a code takes a new level. -/
def setCodeTokens (s : State) (code : Nat) (t : Int) : State :=
  { s with evt := { s.evt with buckets := s.evt.buckets.filter (fun p => p.1 != code) ++ [(code, ⟨t, s.clk.c⟩)] } }

/-- The global bucket takes a new level. -/
def setGlobalTokens (s : State) (t : Int) : State := { s with evt := { s.evt with global := some ⟨t, s.clk.c⟩ } }

/-- The pending suppressed count of a code. -/
def pendingOf (s : State) (code : Nat) : Nat := storeGet (fun _ => 0) s.evt.pendingCnt code

/-- Stores the pending suppressed count of a code. -/
def setPending (s : State) (code n : Nat) : State :=
  { s with evt := { s.evt with pendingCnt := storePut (fun _ => 0) s.evt.pendingCnt code n,
                               supsat := if n = 0 then s.evt.supsat.filter (· != code) else s.evt.supsat } }

/-! ### Records (R408, R409) -/

/-- The flags byte. -/
def recFlags (trunc standby supsat founding coherent tvalid : Bool) : Nat :=
  (if trunc then 32 else 0) + (if standby then 16 else 0) + (if supsat then 8 else 0) + (if founding then 4 else 0)
    + (if coherent then 2 else 0) + (if tvalid then 1 else 0)

/-- The 60 bytes before the CRC. -/
def recBody (num code sev flags opSec cycles src : Nat) (time : Int) (frame supp : Nat) (data : List Byte)
    (role profile life : Nat) : List Byte :=
  leBytes 4 num ++ leBytes 2 code ++ [BitVec.ofNat 8 (sev * 16 + code / 256 % 16), BitVec.ofNat 8 flags]
    ++ leBytes 4 opSec ++ leBytes 3 cycles ++ [BitVec.ofNat 8 src] ++ d80 time ++ leBytes 4 frame
    ++ leBytes 2 supp ++ padTo 16 data ++ [BitVec.ofNat 8 role, BitVec.ofNat 8 profile, BitVec.ofNat 8 life]
    ++ List.replicate 9 0#8

/-- A whole record: the body and its CRC-32C. -/
def recWhole (body : List Byte) : List Byte := body ++ leBytes 4 (crc32c body)

/-- The record the event front makes of a request it accepts; the counter value becomes module time with the offset and
rate in force (R411). An occurrence that fell while the host domain was down carries the time it is written at, and neither
frame nor role, profile and life-cycle state (R474). -/
def recOf (s : State) (e : EventReq) (supp : Nat) (sat : Bool) : List Byte :=
  if e.down then
    recBody s.evt.next e.code (severity e.code e.userSev) (recFlags e.trunc false sat false false false)
      (s.objN 0x2060 4) (s.objN 0x2060 3) e.src (time80 s.now) 0xFFFFFFFF supp e.data 0xFF 0xFF 0xFF
  else recBody s.evt.next e.code (severity e.code e.userSev)
    (recFlags e.trunc false sat false (bitOf (s.obj 0x2805 0) 0) s.clk.everLocked)
    (s.objN 0x2060 4) (s.objN 0x2060 3) e.src (time80 (timeAt s.clk e.c 0)) e.frame supp e.data
    s.role.toNat s.profile.toNat (s.objN 0x2040 1)

/-- A request is accepted: it takes the next record number and goes to lane 3 (R411, R418). -/
def acceptEvent (s : State) (e : EventReq) : State :=
  let r := recOf s e (pendingOf s e.code) (s.evt.supsat.contains e.code)
  let s := setPending s e.code 0
  let s := { s with evt := { s.evt with
    next := s.evt.next + 1, lastRec := storePut (fun _ => 0) s.evt.lastRec e.code s.clk.c } }
  lanePush s 3 (.bytes (recWhole r))

/-- An occurrence is suppressed and counted; the first the global bucket turns away raises the global limit (R417). -/
def suppressEvent (s : State) (e : EventReq) : State :=
  let n := pendingOf s e.code
  let s := if n < 65535 then setPending s e.code (n + 1)
    else { s with evt := { s.evt with supsat := if s.evt.supsat.contains e.code then s.evt.supsat else s.evt.supsat ++ [e.code] } }
  let s := s.bump 0x8016 1
  if globalTokens s < 65536 ∧ s.evt.globalFlag = false then
    let s := { s with evt := { s.evt with globalFlag := true } }
    acceptEvent (s.bump 0x8016 2) (mkEvent s 0x0133 3 0 [d32 e.code, d32 (s.obj 0x8015 2)])
  else s

/-- The event front judges a request (R417). -/
def judgeEvent (s : State) (e : EventReq) : State :=
  let s := if userCode e.code then
      { s with evt := { s.evt with userSev := storePut (fun _ => 0) s.evt.userSev e.code e.userSev } } else s
  let s := if 65536 ≤ globalTokens s then { s with evt := { s.evt with globalFlag := false } } else s
  if rateClass e.code = 0 then acceptEvent s e
  else if 65536 ≤ codeTokens s e.code ∧ 65536 ≤ globalTokens s then
    let s := setCodeTokens s e.code (codeTokens s e.code - 65536)
    let s := setGlobalTokens s (globalTokens s - 65536)
    acceptEvent s e
  else suppressEvent s e

/-- The event front takes the oldest request of lane 37 (R411, R417). -/
def execEventFrontRequest (s : State) : Out :=
  onHost s fun s =>
    match laneTake s 37 with
    | (some (.event e), s) => judgeEvent s e
    | (_, s) => s

/-! ### The writer (R412, R413) -/

/-- The record number a stored record holds. -/
def recNumber (r : List Byte) : Nat := getLe r 0 4

/-- A stored record passes its CRC. -/
def recValid (r : List Byte) : Bool := crc32c (r.take 60) == getLe r 60 4

/-- The lowest record number in the circulating area, 0 where it is empty. -/
def oldestCirc (l : List (Nat × List Byte)) : Nat :=
  match l.map (fun p => recNumber p.2) with
  | [] => 0
  | a :: r => r.foldl (fun x y => if y < x then y else x) a

/-- A record is stored: in the founding area while that is not full and the card has left BLANK, else in the circulating
area, in slot number mod 32,768 (R412). The CRC is written last, over the flags as stored. -/
def storeRecord (s : State) (r : List Byte) : State :=
  let num := recNumber r
  let k := s.evt.founding.length
  let s := (s.setObj 0x8000 1 num)
  if s.evt.leftBlank ∧ k < 4096 then
    let flags := r.getD 7 0#8 ||| 4#8
    let body := r.take 7 ++ [flags] ++ (r.drop 8).take 52
    let s := { s with evt := { s.evt with founding := s.evt.founding ++ [(k, recWhole body)] } }
    let s := s.setObj 0x8000 3 (k + 1)
    let s := if k = 0 then s.setObj 0x8000 4 num else s
    if k + 1 = 4096 then raise s 0x0131 3 [d32 num] else s
  else
    let s := { s with evt := { s.evt with circ := storePut (fun _ => []) s.evt.circ (num % 32768) r } }
    s.setObj 0x8000 2 (oldestCirc s.evt.circ)

/-- The event writer takes the oldest record of lane 3 and stores it (R413). -/
def execEventWrite (s : State) : Out :=
  onHost s fun s =>
    match laneTake s 3 with
    | (some (.bytes r), s) => storeRecord s r
    | (_, s) => s

/-- A record HK writes itself while the host domain is down (R415). -/
def hkRecord (s : State) (code : Nat) (flds : List Fld) : State :=
  let p := packFlds [] flds
  let r := recBody s.evt.next code (severity code 0) (recFlags p.2 true false false false false)
    (s.objN 0x2060 4) (s.objN 0x2060 3) 11 0 0xFFFFFFFF 0 p.1 0xFF 0xFF 0xFF
  storeRecord { s with evt := { s.evt with next := s.evt.next + 1 } } (recWhole r)

/-- An event of HK: through lane 37 while the host domain runs, written directly while it is down. -/
def raiseHk (s : State) (code : Nat) (flds : List Fld) : State :=
  if s.hostUp then raise s code 11 flds else hkRecord s code flds

/-! ### Suppression summaries (R418) -/

/-- The summary of a code: its count, and the seconds since its last record. -/
def summarise (s : State) (code : Nat) : State :=
  let n := pendingOf s code
  let last := storeGet (fun _ => 0) s.evt.lastRec code
  let secs := elapsedNs s.clk last s.clk.c / 1000000000
  let s := setPending s code 0
  let s := { s with evt := { s.evt with lastRec := storePut (fun _ => 0) s.evt.lastRec code s.clk.c } }
  acceptEvent s (mkEvent s 0x0130 3 0 [d32 code, d32 n, d32 secs])

/-- Whether a code's pending count is summarised at an examination: its bucket has a size and is full, or 60 s have
passed; the global bucket must hold a token in either case. -/
def summaryDue (s : State) (code : Nat) : Bool :=
  let last := storeGet (fun _ => 0) s.evt.lastRec code
  decide (65536 ≤ globalTokens s) &&
    ((decide (codeSize s code ≠ 0) && decide (codeTokens s code = codeSize s code * 65536))
      || decide (60000000000 ≤ elapsedNs s.clk last s.clk.c))

/-- The once-per-second examination: each summary takes one global token and none of the code's bucket. -/
def execSuppressionExamination (s : State) : Out :=
  onHost s fun s =>
    (s.evt.pendingCnt.map (·.1)).foldl (fun s code =>
      if summaryDue s code then summarise (setGlobalTokens s (globalTokens s - 65536)) code else s) s

/-- Every pending count is summarised at once: step 4 of an orderly shutdown and before an accepted reset request. -/
def summariseAll (s : State) : State := (s.evt.pendingCnt.map (·.1)).foldl summarise s

end Sys2Proof.Machine
end

