-- ==== Sys2Proof/Machine/Role.lean ====
section
/-!
DEFINITION. Roles of a pair and the command epoch (R299, R315, R317, R319, R223).
Marks (notes/assumptions): DEDUCED 54, 73; DESIGN CHOICE 20, 69.
-/
namespace Sys2Proof.Machine

/-- An event of the pair. -/
def raiseDup (s : State) (code : Nat) (flds : List Fld) : State := raise s code 4 flds

/-- The pending set is discarded. Causes: 1 owner ended, 2 host, 3 reset, 4 role (R373). On the ACTIVE card of a pair the
partner hears of it by the mirror (R375). -/
def discardPending (s : State) (cause : Int) : State :=
  let n : Int := s.host.pendSet.length
  if n = 0 then s else
  let s := { s with host := { s.host with pendSet := [] } }
  let s := ((s.setObj 0x2020 2 0).setObj 0x2020 3 0).setObj 0x2020 4 0
  let w : WriteReq := ⟨0x2020, 1, 2, [], .module, false, 0, 255, 0⟩
  let s := if s.pairOn ∧ s.isActive ∧ cause = 1 then
      { s with duplex := { s.duplex with stagedOut := s.duplex.stagedOut ++ [w] } }
    else s
  raise s 0x0D09 3 [d32 n, d32 cause]

/-- The role changes (R299, R315): SUSPECT runs in Guarded with its cause, and clears it on leaving; a card that leaves ACTIVE
discards its pending set (R373). Causes: 1 start, 2 adoption, 3 takeover, 4 arbitration, 5 planned switchover, 6 stop of
driving, 7 write of 0x7005:0, 8 mirror gap, 9 configuration mismatch, 10 broken adoption, 11 yield, 12 configuration CRC. -/
def setRole (s : State) (new cause : Int) : State :=
  let old := s.obj 0x7001 0
  if old = new then s else
  let s := if old = 3 then discardPending s 4 else s
  let s := (s.setObj 0x7001 0 new).setB 0x7006 4 false
  let s := raiseDup s 0x0B01 [d8 old, d8 new, d32 cause]
  let s := if old = 4 then
      clearCause (raiseDup s 0x0B11 [d32 (((s.frameNo : Int) - s.duplex.suspectFrom) % 4294967296)]) 5
    else s
  if new = 4 then setCause { s with duplex := { s.duplex with suspectFrom := s.frameNo } } 5 else s

/-- The largest epoch the card may send (R223). -/
def epochTop (s : State) : Nat := if s.pairOn ∧ s.obj 0x7001 1 = 0 then 0xFFFFFFFE else 0xFFFFFFFF

/-- An epoch above `floor`: even on slot A, odd on slot B of a pair; held at the largest (R223, R317). -/
def epochAbove (s : State) (floor : Nat) : Nat :=
  let e := floor + 1
  let e := if s.pairOn ∧ ((e % 2 = 1 ∧ s.obj 0x7001 1 = 0) ∨ (e % 2 = 0 ∧ s.obj 0x7001 1 = 1)) then e + 1 else e
  if epochTop s < e then epochTop s else e

/-- The card takes its epoch (R223, R317): above its own, the partner's and the one in force at the converter. -/
def takeEpoch (s : State) : State :=
  let own := s.objN 0x5620 1
  let floor := if s.pairOn then max own (max s.duplex.beat.epoch (s.objN 0x5620 2)) else own
  let e := epochAbove s floor
  let s := { s.setObj 0x5620 1 e with av := { s.av with conv := { s.av.conv with epochDue := false, superseded := false } } }
  onset s 0x0712 [d32 own, d32 e]

/-- The partner's heartbeat is still counted. -/
def partnerHeard (s : State) : Bool := s.duplex.beatFrame.isSome && decide (s.duplex.missing < 2)

/-- An ACTIVE card of a pair stops driving (R319); one that yields keeps its role to the next boundary (R316). -/
def stopDriving (s : State) : State :=
  if s.pairOn ∧ s.obj 0x7001 0 = 3 then
    if s.duplex.yield.isSome then { s with duplex := { s.duplex with halted := true } }
    else setRole s (if partnerHeard s then 2 else 0) 6
  else s

/-! ### The self-fault map (R313) -/

/-- Whether an ECC storm stands: 16 corrected errors within 1 s, or any uncorrectable one. -/
def eccStorm (s : State) : Bool :=
  s.duplex.eccHard || decide (16 ≤ (s.duplex.ecc.filter (fun c => decide (elapsedNs s.clk c s.clk.c ≤ 1000000000))).length)

/-- The self-fault map. Bit 1: one ring has reported units missing here only for K frames. Bit 3: the link is down here while the
partner's heartbeat received in the same frame, or the last where this frame's has not come yet, shows an epoch in force (DEDUCED 73:
bytes 12 to 15 carry it as last received, so "received in the same frame" is read of the heartbeat). -/
def selfFaults (s : State) : Nat :=
  let b (k : Nat) (c : Bool) : Nat := if c then 2 ^ k else 0
  b 0 (decide (2 ≤ (s.safe.guard.deviates.filter (· == true)).length))
    + b 1 ((decide (4 ≤ s.duplex.misaligned) && !s.isActive) || s.duplex.ringBad.any (fun k => decide (s.obj 0x7000 4 ≤ (k : Int))))
    + b 2 (eccStorm s)
    + b 3 (s.pairOn && decide (s.obj 0x5600 7 ≠ 1) && partnerHeard s && decide (s.duplex.missing = 0)
        && decide (s.duplex.beat.inForce ≠ 0))
    + b 4 (decide (s.frame.released ≠ 0)) + b 5 (bitOf (s.obj 0x2004 0) 0)

/-- Frames since the last heartbeat counted, saturating at 255 (R303). -/
def beatAge (s : State) : Int :=
  match s.duplex.beatFrame with
  | some n =>
    let d := ((s.frameNo : Int) - n) % 4294967296
    if d < 255 then d else 255
  | none => 255

end Sys2Proof.Machine
end

