-- ==== Sys2Proof/Machine/Crypto.lean ====
section
/-!
DEFINITION. HMAC-SHA-256 and PBKDF2, which the spec names for sessions, locks, the change log and the passwords
(R292, R361, R365, R385). SHA-256 is the standard's own function (PRESUMED: the spec names it and does not
restate it).
Marks (notes/assumptions): PRESUMED 14.
-/
namespace Sys2Proof.Machine

/-- The first 64 primes: below 312 a number is prime where no smaller number from 2 to 17 divides it. -/
def shaPrimes : List Nat :=
  (List.range 312).filter (fun n => decide (2 ≤ n) && (List.range 16).all (fun d => decide (n ≤ d + 2) || n % (d + 2) != 0))

/-- The integer part of the `e`-th root of `x`, found from bit `n` − 1 down; `r` holds the bits found. -/
def rootFrom (e x : Nat) : Nat → Nat → Nat
  | 0, r => r
  | n + 1, r => rootFrom e x n (if (r + 2 ^ n) ^ e ≤ x then r + 2 ^ n else r)

/-- The first 32 bits of the fraction of the `e`-th root of `p`. -/
def rootBits (e p : Nat) : Nat := rootFrom e (p * 2 ^ (32 * e)) 37 0 % 4294967296

/-- The round constants: the cube roots of the first 64 primes. -/
def shaK : List Nat := shaPrimes.map (rootBits 3)

/-- The initial hash value: the square roots of the first 8 primes. -/
def shaStart : List Nat := (shaPrimes.take 8).map (rootBits 2)

/-- Rotate a 32-bit word right. -/
def rotr (n x : Nat) : Nat := (x / 2 ^ n ||| x * 2 ^ (32 - n)) % 4294967296

/-- The message schedule, newest word first. -/
def shaSchedule : Nat → List Nat → List Nat
  | 0, w => w
  | n + 1, w =>
    let x := w.getD 14 0
    let y := w.getD 1 0
    let s0 := rotr 7 x ^^^ rotr 18 x ^^^ (x / 8)
    let s1 := rotr 17 y ^^^ rotr 19 y ^^^ (y / 1024)
    shaSchedule n (((w.getD 15 0 + s0 + w.getD 6 0 + s1) % 4294967296) :: w)

/-- The compression rounds over pairs of constant and schedule word. -/
def shaRounds : List (Nat × Nat) → List Nat → List Nat
  | [], v => v
  | (k, w) :: r, v =>
    let a := v.getD 0 0; let b := v.getD 1 0; let c := v.getD 2 0; let d := v.getD 3 0
    let e := v.getD 4 0; let f := v.getD 5 0; let g := v.getD 6 0; let h := v.getD 7 0
    let s1 := rotr 6 e ^^^ rotr 11 e ^^^ rotr 25 e
    let ch := (e &&& f) ^^^ ((4294967295 - e) &&& g)
    let t1 := h + s1 + ch + k + w
    let s0 := rotr 2 a ^^^ rotr 13 a ^^^ rotr 22 a
    let mj := (a &&& b) ^^^ (a &&& c) ^^^ (b &&& c)
    shaRounds r [(t1 + s0 + mj) % 4294967296, a, b, c, (d + t1) % 4294967296, e, f, g]

/-- The 16 words of a block, newest first. -/
def shaWords : Nat → List Byte → List Nat → List Nat
  | 0, _, acc => acc
  | n + 1, l, acc => shaWords n (l.drop 4) (beNat (l.take 4) :: acc)

/-- One block. -/
def shaBlock (h : List Nat) (b : List Byte) : List Nat :=
  let w := (shaSchedule 48 (shaWords 16 b [])).reverse
  (List.zip h (shaRounds (List.zip shaK w) h)).map (fun p => (p.1 + p.2) % 4294967296)

/-- Every block; `n` bounds their number. -/
def shaBlocks : Nat → List Nat → List Byte → List Nat
  | 0, h, _ => h
  | n + 1, h, l => shaBlocks n (shaBlock h (l.take 64)) (l.drop 64)

/-- SHA-256. -/
def sha256 (m : List Byte) : List Byte :=
  let z := (119 - m.length % 64) % 64
  let p := m ++ (0x80#8 :: List.replicate z 0#8) ++ beBytes 8 (m.length * 8)
  let h := shaBlocks (p.length / 64) shaStart p
  h.flatMap (fun (x : Nat) => beBytes 4 x)

/-- HMAC-SHA-256. -/
def hmacSha256 (key msg : List Byte) : List Byte :=
  let k := padTo 64 (if key.length > 64 then sha256 key else key)
  sha256 (k.map (· ^^^ 0x5c#8) ++ sha256 (k.map (· ^^^ 0x36#8) ++ msg))

/-- The iterations of PBKDF2's one block. -/
def pbkdfLoop (pw : List Byte) : Nat → List Byte → List Byte → List Byte
  | 0, _, acc => acc
  | n + 1, u, acc =>
    let u' := hmacSha256 pw u
    pbkdfLoop pw n u' (List.zipWith (· ^^^ ·) acc u')

/-- PBKDF2-HMAC-SHA-256 with a 32-byte result. -/
def pbkdf2 (pw salt : List Byte) (iters : Nat) : List Byte :=
  let u := hmacSha256 pw (salt ++ beBytes 4 1)
  pbkdfLoop pw (iters - 1) u u

/-- The bytes of an ASCII string. -/
def asciiBytes (t : String) : List Byte := t.toList.map (fun c => BitVec.ofNat 8 c.toNat)

/-- `n` bytes the module draws afresh; `tag` tells draws apart. -/
def freeBytes (n tag : Nat) : List Byte := leBytes n (Config.freeBits tag)

end Sys2Proof.Machine
end

