-- ==== Sys2Proof/Machine/Wire.lean ====
section
/-!
DEFINITION. The wire form of the object protocol (R357, R358, R379) and the answers to host writes (R368, R370, R372).
Marks (notes/assumptions): DESIGN CHOICE 17.
-/
namespace Sys2Proof.Machine

/-- The PRP redundancy control trailer (R379): sequence number, LAN identifier, LSDU size, suffix. -/
def prpTrailer (seq lan size : Nat) : List Byte :=
  beBytes 2 (seq : Int) ++ beBytes 2 ((lan * 4096 + size % 4096 : Nat) : Int) ++ [0x88#8, 0xFB#8]

/-- A frame leaves on both LANs with the trailer, identifier 0xA on L0 and 0xB on L1 (R379). -/
def prpSend (s : State) (body : List Byte) : State :=
  let q := s.host.prpSeq
  let n := body.length + 6
  let s := s.send 0 (body ++ prpTrailer q 0xA n)
  let s := s.send 1 (body ++ prpTrailer q 0xB n)
  { s with host := { s.host with prpSeq := (q + 1) % 65536 } }

/-- The session of a channel. -/
def State.session (s : State) (c : Channel) : Session :=
  match c with
  | .eop => s.host.eop
  | .service => s.host.service

/-- Stores the session of a channel. -/
def State.setSession (s : State) (c : Channel) (x : Session) : State :=
  match c with
  | .eop => { s with host := { s.host with eop := x } }
  | .service => { s with host := { s.host with service := x } }

/-- The 16-byte header of a message (R357). -/
def msgHeader (typ flags sid seq len : Nat) : List Byte :=
  leBytes 2 (0xEA01 : Nat) ++ [BitVec.ofNat 8 typ, BitVec.ofNat 8 flags] ++ leBytes 4 (sid : Int) ++ leBytes 4 (seq : Int)
    ++ leBytes 2 (len : Int) ++ leBytes 2 0

/-- Header and payload as the tag covers them (R357). -/
def msgBody (typ flags sid seq : Nat) (payload : List Byte) : List Byte :=
  msgHeader typ flags sid seq payload.length ++ payload

/-- The tag of a message: the first 16 bytes of HMAC-SHA-256 under the session key (R357). -/
def msgTag (key body : List Byte) : List Byte := (hmacSha256 key body).take 16

/-- A client's message comes in: lane 30 from Ethernet, lane 34 from the service port (R65). -/
def comesIn (s : State) (c : Channel) : State :=
  match c with
  | .eop => passLane s 30
  | .service => passLane s 34

/-- A message on its way: over Ethernet through lane 0 and PRP, over the service port preceded by its length (R366). -/
def sendOn (s : State) (c : Channel) (m : List Byte) : State :=
  let s := passLane s 0
  match c with
  | .eop => prpSend s m
  | .service => s.send 27 (leBytes 2 (m.length : Int) ++ m)

/-- A message without a tag: HELLO's answers (R357). -/
def sendPlain (s : State) (c : Channel) (typ sid seq : Nat) (payload : List Byte) : State :=
  sendOn s c (msgBody typ 1 sid seq payload ++ List.replicate 16 0#8)

/-- A tagged message of the open session. -/
def sealMsg (s : State) (c : Channel) (typ flags seq : Nat) (payload : List Byte) : List Byte :=
  let x := s.session c
  let b := msgBody typ flags x.sid seq payload
  b ++ msgTag x.key b

/-- A response: it is stored with the number of its request, one of the last 16 (R359), and sent. -/
def respond (s : State) (c : Channel) (typ seq : Nat) (payload : List Byte) : State :=
  let m := sealMsg s c typ 1 seq payload
  let x := s.session c
  sendOn (s.setSession c { x with answered := ((seq, m) :: x.answered).take 16 }) c m

/-- A message the module sends of its own, with its own number. -/
def originate (s : State) (c : Channel) (typ : Nat) (payload : List Byte) : State :=
  let x := s.session c
  let n := (x.out + 1) % 4294967296
  let s := s.setSession c { x with out := n }
  sendOn s c (sealMsg s c typ 0 n payload)

/-- The payload of a WRITE response (R367). -/
def writeRespBytes (l : List RespItem) : List Byte :=
  BitVec.ofNat 8 l.length :: [0#8, 0#8, 0#8] ++ l.flatMap (fun r =>
    leBytes 2 (r.index : Int) ++ leBytes 2 (r.sub : Int)
      ++ [BitVec.ofNat 8 (r.err.getD 0), BitVec.ofNat 8 r.status, 0#8, 0#8])

/-- Every item of a response is known. -/
def respReady (p : PendingResp) : Bool := p.items.all (fun r => r.err.isSome)

/-- The payload of a SEG_ACK (R371). -/
def segAckBytes (tid status window err got : Nat) : List Byte :=
  [BitVec.ofNat 8 tid, BitVec.ofNat 8 status, BitVec.ofNat 8 window, BitVec.ofNat 8 err] ++ leBytes 4 (got : Int)

/-- The end of a write transfer: the final acknowledgement carries the owner's result (R372). -/
def ackDone (s : State) (d : Channel × Nat × Nat) : State :=
  let (c, tid, err) := d
  let len := match s.host.transfers.find? (fun t => t.chan == c && t.tid == tid) with
    | some t => t.acked
    | none => 0
  let s := { s with host := { s.host with transfers := s.host.transfers.filter (fun t => !(t.chan == c && t.tid == tid)) } }
  if (s.session c).isOpen then
    originate s c 0x22 (segAckBytes tid (if err = 0 then 1 else 2) 0 err len)
  else s

/-- The responses whose items are all known leave, if their session still stands (R363, R370). -/
def flushAnswers (s : State) : State :=
  let ready := s.host.resps.filter respReady
  let s := { s with host := { s.host with resps := s.host.resps.filter (fun p => !respReady p) } }
  let s := ready.foldl (fun s p =>
    if (s.session p.chan).isOpen then respond s p.chan 0x11 p.seq (writeRespBytes p.items) else s) s
  let done := s.host.tidDone
  done.foldl ackDone { s with host := { s.host with tidDone := [] } }

/-- The error of one item of a response becomes known. -/
def fillItem (w : WriteReq) (err : Nat) : Nat → List RespItem → List RespItem
  | _, [] => []
  | k, r :: l => if k = w.item then { r with err := some err } :: l else r :: fillItem w err (k + 1) l

/-- The channel a write came on. -/
def originChan : Origin → Option Channel
  | .eop => some .eop
  | .service => some .service
  | _ => none

/-- The write's answer reaches the response or the mailbox it belongs to. -/
def answerWrite (s : State) (w : WriteReq) (err : Nat) : State :=
  let h := s.host
  let resps := h.resps.map (fun p =>
    if originChan w.origin = some p.chan ∧ p.seq = w.seq then { p with items := fillItem w err 0 p.items } else p)
  let m := match s.alley.mailbox with
    | some m => if w.origin = .alley ∧ m.req.index = w.index ∧ m.req.sub = w.sub then some { m with result := some err } else some m
    | none => none
  let done := match originChan w.origin with
    | some c => if w.tid = 0 then h.tidDone else h.tidDone ++ [(c, w.tid, err)]
    | none => h.tidDone
  { s with host := { h with resps := resps, lastErr := err, tidDone := done }, alley := { s.alley with mailbox := m } }

/-- The first write of a list to `i:sub`, and the list without it. -/
def takeWrite (i sub : Nat) : List WriteReq → Option WriteReq × List WriteReq
  | [] => (none, [])
  | w :: r => if w.index = i ∧ w.sub = sub then (some w, r) else ((takeWrite i sub r).1, w :: (takeWrite i sub r).2)

/-- The write of an object that is due or serialised. -/
def writeOf (s : State) (i sub : Nat) : Option WriteReq :=
  match (takeWrite i sub s.host.due).1 with
  | some w => some w
  | none => (takeWrite i sub s.host.batch).1

/-- The writer of a host write that a command of its own carries out. -/
def writerOf (s : State) (i sub : Nat) : Origin := match writeOf s i sub with | some w => w.origin | none => .module

/-- The value of a serialised write of `i:sub`; 0 where none waits. -/
def writtenVal (s : State) (i sub : Nat) : Int :=
  match writeOf s i sub with
  | some w => w.val
  | none => 0

/-- A write that a command of its own carries out is answered with `err`: it is taken from the writes due, or from
those serialised in this frame (R354, R370). -/
def settle (s : State) (i sub err : Nat) : State :=
  match takeWrite i sub s.host.due with
  | (some w, r) => flushAnswers (answerWrite { s with host := { s.host with due := r } } w err)
  | (none, _) =>
    match takeWrite i sub s.host.batch with
    | (some w, r) => answerWrite { s with host := { s.host with batch := r } } w err
    | (none, _) => { s with host := { s.host with lastErr := err } }

/-- A host write carried out by a command of its own: `f` where the owner accepts it, the error where not. -/
def hostWrite (s : State) (i sub err : Nat) (f : State → State) : State :=
  settle (if err = 0 then f s else s) i sub err

end Sys2Proof.Machine
end

