-- ==== Sys2Proof/Machine/Dictionary.lean ====
section
/-!
DEFINITION. The object dictionary as its readers and writers meet it (R8, R10, R12, R353 to R355, R368, R472), the
safety change log (R293 to R295) and the password (R291, R292).
Marks (notes/assumptions): DEDUCED 16, 48, 68, 90, 167; DESIGN CHOICE 9, 111, 149, 166.
-/
namespace Sys2Proof.Machine

/-- Bytes of a type; 0 for STR and DOMAIN. -/
def typeSize : ObjType → Nat
  | .bool => 1 | .u8 => 1 | .i8 => 1 | .u16 => 2 | .i16 => 2 | .u32 => 4 | .i32 => 4 | .f32 => 4 | .bfp => 4
  | .u64 => 8 | .i64 => 8 | .time80 => 10 | .str => 0 | .domain => 0

/-- The type codes of R328 and R355. -/
def typeCode : ObjType → Nat
  | .bool => 1 | .u8 => 2 | .u16 => 3 | .u32 => 4 | .u64 => 5 | .i8 => 6 | .i16 => 7 | .i32 => 8 | .i64 => 9
  | .f32 => 10 | .time80 => 11 | .str => 12 | .bfp => 13 | .domain => 14

/-- The type a code names. -/
def typeOfCode (n : Nat) : ObjType :=
  ([.bool, .bool, .u8, .u16, .u32, .u64, .i8, .i16, .i32, .i64, .f32, .time80, .str, .bfp] : List ObjType).getD n .domain

/-- A type whose values are signed. -/
def signedType : ObjType → Bool
  | .i8 | .i16 | .i32 | .i64 => true
  | _ => false

/-- The value bytes carry. -/
def decodeVal (t : ObjType) (b : List Byte) : Int :=
  match t with
  | .time80 => (getLe b 0 6 : Nat) * 4294967296 + (getLe b 6 4 : Nat)
  | .bfp => (bfpStored (leNat b) : Nat)
  | t => if signedType t then toS (8 * b.length) (leNat b) else leNat b

/-- The bytes of a value. -/
def encodeVal (t : ObjType) (v : Int) : List Byte :=
  match t with
  | .time80 => d80 v
  | t => leBytes (typeSize t) v

/-- A value lies within the column "Range" of its row, and is a value of its type (R8, R9). -/
def rangeOk (t : ObjType) (r : Range) (v : Int) : Bool :=
  let base := match t with
    | .bool => decide (v = 0) || decide (v = 1)
    | .time80 => decide (v % 4294967296 < 1000000000)
    | .f32 => !f32IsNaN v.toNat
    | _ => true
  base && (match r with
    | .any => true
    | .ints l => l.any (fun p => decide (p.1 ≤ v) && decide (v ≤ p.2))
    | .tenths lo hi => decide ((lo : Rat) / 10 ≤ f32Value v.toNat) && decide (f32Value v.toNat ≤ (hi : Rat) / 10)
    | .positive => decide (0 < f32Value v.toNat)
    | .nonNegative => decide (0 ≤ f32Value v.toNat))

/-! ### Arrays and symbols -/

/-- A number lies in a closed interval. -/
def within (lo hi n : Nat) : Bool := decide (lo ≤ n) && decide (n ≤ hi)

/-- Index of a per-cell array (R472) that an object map names; the other indices of R472's ranges are unused ones, which do
not exist (R12). -/
def perCell (i : Nat) : Bool :=
  within 0x3800 0x3806 i || within 0x4101 0x410D i || within 0x4110 0x4116 i || i == 0x4120 || within 0x4400 0x4408 i
    || within 0x4610 0x4613 i

/-- The count of an array object, or none where the index is no array (R472). -/
def arrayCount (s : State) (i : Nat) : Option Nat :=
  if perCell i then some s.cellCount
  else if i = 0x2061 then some 7
  else if i = 0x2100 then some 48
  else if i = 0x3810 ∨ i = 0x3811 then some 160
  else if (0x3820 ≤ i ∧ i ≤ 0x3823) ∨ i = 0x4620 ∨ i = 0x4621 then some 40
  else if i = 0xA021 ∨ i = 0xA022 then some 6
  else if i = 0xA050 ∨ i = 0xA051 then some 64
  else if [0x7809, 0x780A, 0x7849, 0x784A, 0x7889, 0x788A].contains i then some 8
  else none

/-- The symbol of the active program that holds `i:sub` (R328). -/
def symbolAt (s : State) (i sub : Nat) : Option Symbol :=
  match s.prog.image with
  | none => none
  | some im => im.symbols.find? (fun y => y.index == i && decide (y.sub ≤ sub) && decide (sub < y.sub + y.count))

/-- The region a symbol lies in, as it stands. -/
def regionBytes (s : State) (r : Nat) : List Byte :=
  match r with
  | 0 => s.prog.consts
  | 1 => s.prog.data
  | 2 => s.prog.retained
  | 3 => s.prog.input
  | _ => s.prog.outVec

/-- The bytes of one element of a symbol. -/
def symbolBytes (s : State) (y : Symbol) (sub : Nat) : List Byte :=
  sliceAt (regionBytes s y.region) (y.off + (sub - y.sub) * y.size) y.size

/-- Bytes written over a region at an offset. -/
def overlay (l : List Byte) (o : Nat) (b : List Byte) : List Byte := l.take o ++ b ++ l.drop (o + b.length)

/-- Sub-index 0 of an array object: the row of its map where the map gives one (0x2100:0, U8); else a read-only U16. The type
U16 is the model's choice: R472 gives none (DESIGN CHOICE 111). -/
def arrayHead (i : Nat) : ObjRow := (objRow i 0).getD ⟨i, 1, 1, 0, 0, .u16, .ro, 0, .any, .vol⟩

/-- The row of an object, a symbol's row made from its entry; none where the object does not exist (R12, R368, R472). -/
def objInfo (s : State) (i sub : Nat) : Option ObjRow :=
  if 0x9000 ≤ i ∧ i ≤ 0x9FFF then
    (symbolAt s i sub).map (fun y =>
      ⟨i, 1, 1, sub, sub, typeOfCode y.ty, if y.flags.testBit 4 then .rw else .ro, 0, .any,
        if y.flags.testBit 0 then .nv else .vol⟩)
  else if 0xF000 ≤ i then none
  else match arrayCount s i with
    | some n =>
      if sub = 0 then some (arrayHead i)
      else if sub ≤ n then objRow i sub else none
    | none => objRow i sub

/-! ### Reading -/

/-- Seconds of lockout that remain. -/
def lockoutLeft (s : State) : Nat :=
  match s.log.lockEnd with
  | some c => if s.clk.c < c then (c - s.clk.c + 249999999) / 250000000 else 0
  | none => 0


/-- The numeric value of an object as a reader gets it (R10, R41, R43, R416, R472). -/
def readObj (s : State) (i sub : Nat) : Int :=
  if i = 0x2800 ∧ sub = 0 then time80 s.now
  else if i = 0x2801 ∧ sub = 0 then s.clk.c
  else if i = 0x2802 ∧ sub = 0 then s.clk.rho
  else if i = 0x2803 ∧ sub = 1 then toS 64 (s.clk.o / 65536)
  else if i = 0x2803 ∧ sub = 2 then s.clk.o % 65536
  else if i = 0x6890 ∧ sub = 3 then (lockoutLeft s : Nat)
  else if i = 0x7001 ∧ sub = 0 then s.role
  else if i = 0x7002 ∧ sub = 3 then beatAge s
  else if i = 0x7007 ∧ sub = 1 then (selfFaults s : Nat)
  else if i = 0x8003 ∧ sub = 2 then
    severity (s.objN 0x8003 1) (storeGet (fun _ => 0) s.evt.userSev (s.objN 0x8003 1))
  else if i = 0x8003 ∧ sub = 3 then rateClass (s.objN 0x8003 1)
  else if i = 0x8003 ∧ sub = 4 then (pendingOf s (s.objN 0x8003 1) : Nat)
  else if 0x3010 ≤ i ∧ i ≤ 0x3013 ∧ sub = 7 ∧ s.profile = 3 ∧ 2 ≤ s.obj i 7 ∧ s.rings.active ≠ some s.frameNo then 5
  else if sub = 0 ∧ (arrayCount s i).isSome then ((arrayCount s i).getD 0 : Nat)
  else s.obj i sub

/-- The card's serial number, 12 bytes, as it was made. -/
def serialBytes : List Byte := leBytes 12 (Config.perCard (objKey 0x1000 3))

/-- The value of a STR object, in its fixed length: vendor name, ordering code and serial number are the card's own. -/
def strBytes (s : State) (i sub : Nat) : List Byte :=
  if i = 0x1000 then
    (if sub = 1 then padTo 16 (asciiBytes "Troarum") else if sub = 2 then asciiBytes "SC576-01" else serialBytes)
  else padTo 16 (s.dom i sub)

/-- The bytes of an object's value as READ, a publish set and Alley carry them (R367): a WO object reads the zero value
of its type (R10). -/
def readBytes (s : State) (r : ObjRow) (i sub : Nat) : List Byte :=
  if r.access = .wo then List.replicate (if r.ty = .str then 16 else typeSize r.ty) 0#8
  else if 0x9000 ≤ i ∧ i ≤ 0x9FFF then
    match symbolAt s i sub with
    | some y => symbolBytes s y sub
    | none => []
  else match r.ty with
    | .str => strBytes s i sub
    | .domain => s.dom i sub
    | t => encodeVal t (readObj s i sub)

/-! ### Staged objects and owners (R353, R354) -/

/-- The staged objects of R354. -/
def staged (i sub : Nat) : Bool :=
  (i == 0x3000 && sub == 1) || (within 0x3100 0x3127 i && within 1 5 sub)
    || (i == 0x5000 && (sub == 2 || sub == 3))
    || (within 0x5100 0x510F i && (within 1 11 sub || within 14 17 sub || sub == 29 || sub == 30))
    || (within 0x5480 0x548F i && (sub == 1 || sub == 6))
    || (within 0x5810 0x5813 i && (sub == 1 || sub == 2 || within 4 13 sub || sub == 15))
    || (within 0x5840 0x5841 i && (sub == 4 || sub == 7 || sub == 8))
    || (i == 0x3410 && sub == 13) || (within 0x6010 0x601F i && (sub == 1 || sub == 12 || sub == 13))
    || (i == 0x6030 && within 1 4 sub) || (i == 0x6050 && sub == 1) || (i == 0x6060 && sub == 1)
    || (i == 0x6810 && within 1 3 sub) || (i == 0x6811 && within 1 2 sub) || (i == 0x6820 && within 1 2 sub)
    || (i == 0x6821 && within 1 3 sub) || (i == 0x6830 && within 1 2 sub) || (i == 0x6840 && within 1 4 sub)
    || (i == 0x2030 && within 1 8 sub) || (within 0x2854 0x2857 i && sub == 9)

/-- The owner of an index (R353). -/
def ownerOf (i : Nat) : Nat :=
  if i < 0x2000 then 0x0D
  else if i < 0x2200 ∨ 0xF000 ≤ i then 0x01
  else if 0x9000 ≤ i ∧ i < 0xA100 then 0x0C
  else if i < 0x2900 then 0x02
  else if i < 0x3200 then 0x03
  else if i < 0x3900 then 0x04
  else if i < 0x4200 then 0x05
  else if i < 0x4700 then 0x06
  else if i < 0x5700 then 0x07
  else if i < 0x5900 then 0x08
  else if i < 0x6100 then 0x09
  else if i < 0x6900 then 0x0A
  else if i < 0x7100 then 0x0B
  else if i < 0x7900 then 0x0E
  else 0x01

/-! ### Checks of a write (R368) -/

/-- Bounds that depend on another object: the output offset (R35), a comparator's width (R60), a publish phase (R377), the
record reset (R179), the bank selection (R436), the identifier format of a CAN pair (R403) and the loop limits' order. -/
def extraOk (s : State) (i sub : Nat) (v : Int) : Bool :=
  if i = 0x2012 ∧ sub = 0 then decide (2 * v ≤ s.obj 0x2011 0)
  else if within 0x2850 0x2857 i ∧ sub = 4 then decide (v ≤ s.obj i 3 - 20)
  else if within 0x1300 0x1307 i ∧ sub = 3 then decide (v < s.obj i 2)
  else if i = 0x4410 ∧ sub = 0 then decide (v = 65535) || decide (v ≤ (s.cellCount : Int))
  else if i = 0x2050 ∧ sub = 4 then bitOf (s.obj 0x2050 5) v.toNat
  else if [0x7809, 0x7849, 0x7889].contains i then bitOf (s.obj (i + 1) sub) 29 || decide (v < 2048)
  else if [0x780A, 0x784A, 0x788A].contains i then bitOf v 29 || decide (v % 536870912 < 2048)
  else if within 0x5812 0x5813 i ∧ sub = 7 then decide (f32Value v.toNat ≤ 50000)
  else if within 0x5100 0x510F i ∧ sub = 12 then decide (s.objF i 13 ≤ f32Value v.toNat)
  else if within 0x5100 0x510F i ∧ sub = 13 then decide (f32Value v.toNat ≤ s.objF i 12)
  else true

/-- The event of an item refused as it comes: a mask or match word of a CAN controller (R402, R403: reason 3, bits beyond the
format), and a profile out of range or on a card that is not ACTIVE (R23, R300). -/
def itemRefused (s : State) (i sub err : Nat) (b : List Byte) : State :=
  if err = errRange ∧ [0x7809, 0x780A, 0x7849, 0x784A, 0x7889, 0x788A].contains i then
    raise s 0x0E08 14 [d32 ((i - 0x7800) / 64 : Nat), d32 (objKey i sub : Nat), d32 sub, d32 3]
  else if i = 0x2001 ∧ sub = 0 ∧ err = errRange then refuseProfile s (leNat b) 6
  else if i = 0x2001 ∧ sub = 0 ∧ err = errState ∧ s.isActive = false then refuseProfile s (leNat b) 4
  else s

/-- A target of the running program's object outputs (R342). -/
def programTarget (s : State) (i sub : Nat) : Bool :=
  decide (s.obj 0xA000 2 = 2) && (match s.prog.image with
    | some im => im.outputs.any (fun o => o.index == i && o.sub == sub)
    | none => false)

/-- The greatest length of the DOMAIN and STR objects whose chapters bound it. -/
def maxLength (i sub : Nat) (r : ObjRow) : Nat :=
  if r.ty ≠ .str ∧ r.ty ≠ .domain then typeSize r.ty
  else if i = 0x1000 then (if sub = 1 then 16 else if sub = 2 then 8 else 12)
  else if i = 0x1200 then 16
  else if i = 0x6890 then 16
  else if i = 0x1210 then 32
  else if within 0x1300 0x1307 i then 256
  else if within 0x4020 0x4023 i then 7308
  else if i = 0x4030 ∨ i = 0xA012 then 64
  else if i = 0xA010 then 2362368
  else if i = 0xA041 then 16
  else if i = 0x2050 then 16777408
  else if i = 0x8002 then 262160
  else if i = 0x4115 then 160
  else if i = 0x4400 then 800
  else if i = 0x5442 then 2097200
  else if i = 0x4120 then 134
  else if i = 0x6891 then (if sub = 2 then 32 else 32768)
  else if [0x7808, 0x7848, 0x7888].contains i then 1024
  else if [0x7818, 0x7858, 0x7898].contains i then 72
  else if [0x7810, 0x7850, 0x7890].contains i then 5632
  else if [0x7811, 0x7851, 0x7891].contains i then 1408
  else if i = 0xA040 then 12288
  else if i = 0xA001 then 196608
  else 4294967295

/-- The greatest length of an object: a symbol's is its element size (R328). -/
def maxLen (s : State) (i sub : Nat) (r : ObjRow) : Nat :=
  match symbolAt s i sub with
  | some y => y.size
  | none => maxLength i sub r

/-- A safety lockout runs (R292). -/
def lockedOut (s : State) : Bool :=
  match s.log.lockEnd with
  | some c => decide (s.clk.c < c)
  | none => false

/-- The checks of an item before it goes to lane 41 or to the pending set, in the order of the codes; `safety` says that
the writer holds a safety session (R10, R291, R300, R342, R348, R355, R368). -/
def checkItem (s : State) (fromAlley safety : Bool) (i sub ty : Nat) (b : List Byte) : Nat :=
  match objInfo s i sub with
  | none => errNoObject
  | some r =>
    if r.access = .ro ∨ r.access = .const then errAccess
    else if r.ty = .domain then errSegmented
    else if ty ≠ typeCode r.ty then errType
    else if r.ty ≠ .str ∧ b.length ≠ typeSize r.ty then errType
    else if r.ty = .str ∧ (b = [] ∨ maxLen s i sub r < b.length) then errType
    else if r.ty ≠ .str ∧ !(rangeOk r.ty r.range (decodeVal r.ty b) && extraOk s i sub (decodeVal r.ty b)) then errRange
    else if s.isActive = false ∧ !(i == 0x7005 && sub == 0) then errState
    else if programTarget s i sub then errState
    else if r.access = .rws ∧ safety = false then (if lockedOut s ∧ fromAlley = false then errLocked else errSafety)
    else errOk

/-- A record's read-back has failed twice (R442). -/
def commitFailed (s : State) (kind addr : Int) : State := raise (s.bump 0x2080 4) 0x0F0E 11 [d32 kind, d32 addr]

/-! ### The change log (R293 to R295) -/

/-- A value as a change-log entry records it: 16 bytes, a longer one as the first 16 bytes of its SHA-256. -/
def logValue (b : List Byte) : List Byte := if b.length ≤ 16 then padTo 16 b else (sha256 b).take 16

/-- The source number of a writer. -/
def logSource : Origin → Nat
  | .eop => 1
  | .alley => 2
  | .service => 3
  | _ => 4

/-- The client identity of a writer's session. -/
def logClient (s : State) : Origin → List Byte
  | .eop => padTo 16 s.host.eop.client
  | .service => padTo 16 s.host.service.client
  | _ => List.replicate 16 0#8

/-- Commits one change-log entry (R293, R294, R295). -/
def logChange (s : State) (i sub : Nat) (o : Origin) (len : Nat) (old new : List Byte) : State :=
  let seq := s.objN 0x6891 1
  let place := seq % 256
  let s := match s.log.entries.find? (fun p => p.1 == place) with
    | some (_, e) =>
      raise (s.setDom 0x6891 2 (sliceAt e 80 32)) 0x0A0D 11 [d32 (getLe e 4 4 : Nat)]
    | none => s
  let head := leBytes 2 0x5A01 ++ leBytes 2 0 ++ leBytes 4 seq ++ leBytes 2 i ++ leBytes 2 sub
    ++ [BitVec.ofNat 8 (logSource o), BitVec.ofNat 8 (if len < 16 then len else 16), 0#8, 0#8] ++ logClient s o
    ++ d80 (time80 s.now) ++ leBytes 4 (s.objN 0x2060 4) ++ leBytes 2 0 ++ padTo 16 old ++ padTo 16 new
  let chain := sha256 (s.log.chain ++ head)
  let e := recWhole (head ++ chain ++ List.replicate 12 0#8)
  let s := { s with log := { s.log with
    entries := storePut (fun _ => []) s.log.entries place e, chain := chain } }
  raise (s.bump 0x6891 1) 0x0A0C 11 [d32 seq, d32 i, d32 sub]

/-- An RWS value of a plain object is logged with its old and its new value. -/
def logObj (s : State) (r : ObjRow) (i sub : Nat) (o : Origin) (v : Int) : State :=
  logChange s i sub o (typeSize r.ty) (encodeVal r.ty (s.obj i sub)) (encodeVal r.ty v)

/-- Whether both read-backs of the next change-log entry of an RWS write fail, so that it cannot be committed (R293, R442). -/
def entryFails (s : State) : Bool := s.log.fails.headD false

/-- The next change-log entry of an RWS write has been tried. -/
def entryTried (s : State) : State := { s with log := { s.log with fails := s.log.fails.tail } }

/-- An RWS write that its owner answers with `err`: where it is accepted its change-log entry, made by `log`, is committed before it
takes effect; one whose entry cannot be committed is refused for storage, and the old value stays in force (R293, R442). No entry is
begun while a power-fail warning stands, and the write waits (R426). The spec names no error code for the refusal; it is answered with
STATE (DESIGN CHOICE 166). -/
def rwsWrite (s : State) (i sub err : Nat) (log f : State → State) : State :=
  if err ≠ errOk then hostWrite s i sub err f
  else if s.pwr.warning then s
  else if entryFails s then settle (commitFailed (entryTried s) 9 (s.objN 0x6891 1 % 256 : Nat)) i sub errState
  else hostWrite (entryTried s) i sub errOk (fun s => f (log s))

/-- The bytes 0x6891:0 returns: every entry in sequence order. -/
def logBytes (s : State) : List Byte :=
  let n := s.objN 0x6891 1
  ((List.range 256).filterMap (fun k =>
    if n < 256 ∨ k < 256 then
      (s.log.entries.find? (fun p => p.1 == (if n ≤ 256 then k else (n + k) % 256))).map (·.2)
    else none)).flatten

/-! ### The password (R291, R292) -/

/-- One more failed attempt: from the third in a row a lockout of 60 s, doubled by each further failure up to 86,400 s. -/
def passwordFailed (s : State) (channel : Nat) : State :=
  let s := s.setObj 0x6890 2 (if s.obj 0x6890 2 < 65535 then s.obj 0x6890 2 + 1 else 65535)
  let n := s.objN 0x6890 2
  let s := raise s 0x0A0A 11 [d32 channel, d16 n]
  if n < 3 then s else
    let secs := if n = 3 then 60 else if 86400 < s.log.lockSecs * 2 then 86400 else s.log.lockSecs * 2
    let s := { s with log := { s.log with lockSecs := secs, lockEnd := some (s.clk.c + secs * 250000000) } }
    raise (s.setObj 0x6890 3 secs) 0x0A0B 11 [d32 secs]

/-- A successful attempt clears the counter. -/
def passwordPassed (s : State) : State :=
  { (s.setObj 0x6890 2 0).setObj 0x6890 3 0 with log := { s.log with lockEnd := none, lockSecs := 0 } }

end Sys2Proof.Machine
end

