-- ==== Sys2Proof/Machine/Real.lean ====
section
/-!
DEFINITION. The functions of a real number that the spec's formulas use: the square root, exp, ln and the sine. Each is worked out to
thirty decimals and given in units of 10^-12; which of the two neighbours an inexact value is rounded to, the spec does not say.
Marks (notes/assumptions): DEDUCED 55; DESIGN CHOICE 12.
-/
namespace Sys2Proof.Machine

/-- The decimals a function is worked out to, as a denominator. -/
def realOne : Nat := 10 ^ 30

/-- 2π in units of 10^-30. -/
def twoPi : Nat := 6283185307179586476925286766559

/-- ln 2 in units of 10^-30. -/
def lnTwo : Nat := 693147180559945309417232121458

/-- A value in units of 10^-12 from one in units of 10^-30: exact, or one of its two neighbours. The tag names the function. -/
def toPlaces (tag : Nat) (v : Int) : Rat :=
  let unit : Int := 10 ^ 18
  let q := v / unit
  let q := if v % unit = 0 then q else if Config.lastPlace tag v then q + 1 else q
  (q : Rat) / 1000000000000

/-- The largest number whose square is not above n, bit by bit from the top. -/
def isqrt (n : Nat) : Nat :=
  (List.range (n.log2 / 2 + 1)).reverse.foldl (fun r k => if (r + 2 ^ k) * (r + 2 ^ k) ≤ n then r + 2 ^ k else r) 0

/-- The square root of a non-negative number. -/
def sqrtR (q : Rat) : Rat :=
  let n := (q.num.toNat * realOne * realOne) / q.den
  let r := isqrt n
  if r * r * q.den = q.num.toNat * realOne * realOne then (r : Rat) / (realOne : Rat) else toPlaces 1 (r : Int)

/-- Σ r^i / i! for r from 0 to ln 2, in units of 10^-30. -/
def expSeries (r : Nat) : Nat :=
  ((List.range 32).foldl (fun (p : Nat × Nat) i => (p.1 + p.2, p.2 * r / (realOne * (i + 1)))) (0, realOne)).1

/-- exp of a number. Its exponent is held to a power of two from -200 to 1,024. -/
def expR (q : Rat) : Rat :=
  if q = 0 then 1 else
  let x := floorR (q * (realOne : Rat))
  let k := clampI (-200) 1024 (x / (lnTwo : Int))
  let r := (clampI 0 (lnTwo : Int) (x - k * (lnTwo : Int))).toNat
  let e := expSeries r
  toPlaces 2 (if 0 ≤ k then e * 2 ^ k.toNat else e / 2 ^ (-k).toNat : Nat)

/-- 2·artanh z = 2·Σ z^(2i+1) / (2i + 1) for |z| ≤ 1/3, in units of 10^-30. -/
def artanhSeries (z : Int) : Int :=
  let one : Int := realOne
  let z2 := z * z / one
  2 * ((List.range 34).foldl (fun (p : Int × Int) (i : Nat) => (p.1 + p.2 / (2 * (i : Int) + 1), p.2 * z2 / one)) (0, z)).1

/-- The natural logarithm of a positive number; 0 of any other, which no formula takes. -/
def lnR (q : Rat) : Rat :=
  if q ≤ 0 ∨ q = 1 then 0 else
  let k := log2R q
  let m := q / pow2R k
  toPlaces 3 (artanhSeries (floorR ((m - 1) / (m + 1) * (realOne : Rat))) + k * (lnTwo : Int))

/-- The sine of an angle from 0 to a quarter turn, in units of 10^-30. -/
def sinSeries (x : Int) : Int :=
  let one : Int := realOne
  let x2 := x * x / one
  ((List.range 16).foldl (fun (p : Int × Int) (i : Nat) =>
    (p.1 + p.2, -(p.2 * x2 / (one * ((2 * (i : Int) + 2) * (2 * (i : Int) + 3)))))) (0, x)).1

/-- The sine of a fraction of a turn. -/
def sinTurn (q : Rat) : Rat :=
  let f := q - (floorR q : Rat)
  let g := if f < 1 / 2 then f else f - 1 / 2
  let h := if g ≤ 1 / 4 then g else 1 / 2 - g
  let v := if h = 0 then 0 else if h = 1 / 4 then (realOne : Int) else sinSeries (floorR (h * (twoPi : Rat)))
  let w := toPlaces 4 v
  if f < 1 / 2 then w else -w

end Sys2Proof.Machine
end

