-- ==== Sys2Proof/Machine/FrontEnd.lean ====
section
/-!
DEFINITION. The precision channels, their twin converters, the cross-checks and the divider calibration (R102 to R127).
Marks (notes/assumptions): DEDUCED 37, 122, 158; DESIGN CHOICE 20, 39, 119, 120, 159.
-/
namespace Sys2Proof.Machine

/-- An event of the front end. -/
def raiseFe (s : State) (code : Nat) (flds : List Fld) : State := raise s code 12 flds

/-- Channel c: 0 I_S, 1 I_H, 2 V_S, 3 V_L. -/
def State.chan (s : State) (c : Nat) : Chan := storeGet (fun _ => {}) s.cells.chans c

/-- Stores channel c. -/
def State.setChan (s : State) (c : Nat) (x : Chan) : State :=
  { s with cells := { s.cells with chans := storePut (fun _ => {}) s.cells.chans c x } }

/-- Index of the objects of channel c. -/
def chanIx (c : Nat) : Nat := 0x3410 + 0x10 * c

/-- Mean of a list. -/
def meanR (l : List Rat) : Rat := if l = [] then 0 else l.sum / (l.length : Rat)

/-- Counts of full scale. -/
def fsCounts : Rat := 8388608

/-! ### Scales (R116, R117) -/

/-- A local thermal input's temperature in °C, none where it is not valid (R252). -/
def inputTemp (s : State) (k : Nat) : Option Rat :=
  if k = 0 ∨ s.obj (0x6010 + (k - 1)) 15 ≠ 0 then none else some ((s.obj (0x6010 + (k - 1)) 14 : Rat) / 16)

/-- 1 + α × (T − 25 °C) of the shunt, 1 where α is not applied (R116). -/
def shuntFactor (s : State) : Rat :=
  match inputTemp s (s.objN 0x3410 13) with
  | some t => 1 + (s.obj 0x3410 12 : Rat) / 1000000 * (t - 25)
  | none => 1

/-- The full-scale quantity of a channel (R104). -/
def fullScale (s : State) (c : Nat) : Rat :=
  if c = 0 then 50000 / s.objF 0x3410 1
  else if c = 1 then 5 * s.objF 0x3420 1
  else 5 / 2 * s.objF (chanIx c) 1

/-- The channel's value, in fractions of its full-scale quantity, from the calibrated fraction of the input. -/
def scaled (s : State) (c : Nat) (f : Rat) : Rat :=
  if c = 0 then f / shuntFactor s
  else if c = 1 then f - s.objF 0x3420 12 / fullScale s 1
  else f * (1 + s.objF (chanIx c) 12 / 1000000)

/-- The value in A or V. -/
def engValue (s : State) (c : Nat) (f : Rat) : Rat := scaled s c f * fullScale s c

/-! ### Converters (R111, R112) -/

/-- A result of a converter, calibrated, as a fraction of the input's full scale: (r − z) / g. -/
def calibrated (k : Converter) (r : BitVec 32) : Rat := ((r.toInt : Rat) - k.z) / k.g / fsCounts

/-- The converter on the input, and the other. -/
def convs (x : Chan) : Converter × Converter := if x.on = 0 then (x.a, x.b) else (x.b, x.a)

/-- Stores the idle converter. -/
def setIdle (x : Chan) (k : Converter) : Chan := if x.on = 0 then { x with b := k } else { x with a := k }

/-- Cycle position of a channel in frame n (R111). -/
def cyclePos (c n : Nat) : Nat := if c = 1 ∨ c = 3 then (n + 8) % 32 else n % 32

/-- Neither converter meets its limits: the channel carries no value (R115). -/
def chanDead (x : Chan) : Bool := x.a.bad && x.b.bad

/-- The idle converter can be handed over to: an idle phase has calibrated it within its limits (R112, R115). -/
def idleReady (x : Chan) : Bool := (convs x).2.cal && !(convs x).2.bad

/-- The frame is a crossfade frame of the channel. -/
def crossing (x : Chan) (c n : Nat) : Bool := decide (cyclePos c n % 16 = 15) && idleReady x

/-- A window of frame n follows a crossfade whose frame values have not been formed: whether the handover stands or is refused, which
the comparison over that frame's windows has decided (R114), shows only when those values come, so until then it is a free value
(DEDUCED 122). -/
def justCrossed (s : State) (x : Chan) (c n : Nat) : Bool :=
  decide (cyclePos c n % 16 = 0) && idleReady x && decide (s.cells.feFrame ≠ (n + 4294967295) % 4294967296)
    && decide (0 ≤ Config.freeReal 114 [(c : Int), (n : Int)])

/-- The converter on the input carries a usable value (R106, R115). -/
def chanLive (x : Chan) : Bool := (convs x).1.cal && !(chanDead x)

/-- A window beyond ±104 % takes its saturated value (R106). -/
def satWindow (f : Rat) : Rat := clampR (-26 / 25) (26 / 25) f

/-- Base accuracy of a channel at a reading (R102, R125). -/
def baseAccuracy (s : State) (c : Nat) (v : Rat) : Rat :=
  if c = 0 then absR v / 5000 + 1 / 500
  else if c = 1 then absR v / 2000 + s.objF 0x3420 1 / 2000
  else absR v / 10000

/-- The channels a check names (R119). -/
def checkNames (k : Nat) : List Nat := ([[], [2], [3], [0, 1], [0], [1], [0], [0], [2]] : List (List Nat)).getD k []

/-- The checks that name a channel. -/
def checksOf (c : Nat) : List Nat := [1, 2, 3, 4, 5, 6, 7, 8].filter (fun k => (checkNames k).contains c)

/-- Widening of a channel's uncertainty (R121, R123, R126). The residual of checks 6 to 8 is a ratio: it is added as the number it is, in
A or V (DESIGN CHOICE 120). -/
def widening (s : State) (c : Nat) (v : Rat) : Rat :=
  let res (k : Nat) : Rat := absR (s.objF (0x3460 + k) 1)
  let soft := ((checksOf c).map (fun k => if 2 ≤ s.obj (0x3460 + k) 3 then res k else 0)).sum
  let vote := if c ≠ 0 then 0 else if s.obj 0x3460 1 = 1 then res 4
    else if s.obj 0x3460 1 = 4 then maxR (res 3) (res 4) else 0
  let x := s.chan c
  soft + vote + (if x.single then absR x.lastDiff + absR v / 10000 else 0)

/-- Full scale at the input, in nV. -/
def inputNv (c : Nat) : Rat := if c = 0 then 50000000 else if c = 1 then 5000000000 else 2500000000

/-! ### Loop samples (R104) -/

/-- One channel's calibrated fraction at a window of weight `w` for the new converter, and whether it is valid. -/
def windowValue (s : State) (c n : Nat) (w : Rat) (p : ChanPair) : Rat × Bool :=
  let x := s.chan c
  let (old, new) := convs x
  let (ro, rn) := if x.on = 0 then (p.a, p.b) else (p.b, p.a)
  let f := calibrated old ro
  let f := if crossing x c n then (1 - w) * f + w * calibrated new rn
    else if justCrossed s x c n then calibrated new rn else f
  (satWindow f, (chanLive x || justCrossed s x c n) && decide (absR f ≤ 26 / 25))

/-- A fraction as m / 2^23, rounded and saturated to 24 bits. -/
def toFraction (f : Rat) : Int := clampI (-8388608) 8388607 (roundRne (f * 8388608))

/-- The front end pushes the loop sample of a slot into lane 13; a stretched frame has more than eight slots (R57). -/
def execLoopSamplePush (slot : Fin 16) (iS iH vS vL : ChanPair) (s : State) : Out :=
  onString s fun s =>
    if s.runs = false then s else
    let n := s.frameNo
    let w : Rat := minR 1 ((slot.val : Rat) / 8)
    let vs := [windowValue s 0 n w iS, windowValue s 1 n w iH, windowValue s 2 n w vS, windowValue s 3 n w vL]
    let fr := [0, 1, 2, 3].map (fun c => toFraction (scaled s c (vs.getD c (0, false)).1))
    let bits := [0, 1, 2, 3].foldl (fun m c =>
      m + (if crossing (s.chan c) c n then 2 ^ (4 + c) else 0) + (if (vs.getD c (0, false)).2 then 2 ^ c else 0)) 0
    lanePush s 13 (.bytes (fr.flatMap (leBytes 3) ++ [BitVec.ofNat 8 slot, BitVec.ofNat 8 bits] ++ leBytes 2 (n : Int)))

/-! ### Frame values (R103, R105, R113, R114) -/

/-- The windows of an idle phase are summed (R111, R112). -/
def addWindows (p : Int × Nat) (l : List (BitVec 32)) : Int × Nat := ((l.map (·.toInt)).foldl (· + ·) p.1, p.2 + l.length)

/-- Mean of a sum. -/
def meanOf (p : Int × Nat) : Rat := if p.2 = 0 then 0 else (p.1 : Rat) / (p.2 : Rat)

/-- Offset and gain of the idle converter at the end of its phase, with its objects and its limits (R112). -/
def calibrateIdle (s : State) (c : Nat) : State :=
  let x := s.chan c
  let k := (convs x).2
  if k.zero.2 = 0 ∨ k.pos.2 = 0 ∨ k.neg.2 = 0 then s else
  let z := meanOf k.zero
  let g := (meanOf k.pos - meanOf k.neg) / (2 * (4 / 5 * fsCounts))
  let bad := decide (fsCounts / 1000 < absR z) || decide (1 / 200 < absR (g - 1))
  let idle := 1 - x.on
  let nv := clampI (-2147483648) 2147483647 (roundRne (z / fsCounts * inputNv c))
  let ge := clampI (-2147483648) 2147483647 (roundRne ((g - 1) * 1000000000))
  let s := (s.setObj (chanIx c) (7 + idle) nv).setObj (chanIx c) (9 + idle) ge
  let first := bad && !x.single
  let x := setIdle x { z := if bad then k.z else z, g := if bad then k.g else g, bad := bad, cal := k.cal || !bad }
  let x := if first then { x with single := true, singleFrom := s.frameNo } else x
  let s := s.setChan c x
  if bad then raiseFe s 0x0402 [d32 c, d32 idle, d32 nv, d32 ge] else s

/-- The idle converter's windows of the frame at its cycle position. -/
def idlePhase (s : State) (c n : Nat) (idle : List (BitVec 32)) : State :=
  let q := cyclePos c n % 16
  let x := s.chan c
  let k := (convs x).2
  if q = 0 then s.setChan c (setIdle x { k with zero := (0, 0), pos := (0, 0), neg := (0, 0) })
  else if q ≤ 5 then s.setChan c (setIdle x { k with zero := addWindows k.zero idle })
  else if q ≤ 10 then s.setChan c (setIdle x { k with pos := addWindows k.pos idle })
  else if q ≤ 13 then
    let s := s.setChan c (setIdle x { k with neg := addWindows k.neg idle })
    if q = 13 then calibrateIdle s c else s
  else s

/-- The crossfade of R113: Σ ((N − j) × old + j × new) / N over N windows, divided by N. -/
def blendMean (old new : List Rat) : Rat :=
  let n : Rat := old.length
  if old = [] then 0 else
  ((old.zip new).zipIdx.map (fun p => ((n - (p.2 : Rat)) * p.1.1 + (p.2 : Rat) * p.1.2) / n)).sum / n

/-- The handover of a crossfade frame is judged (R114, R115): true where it is accepted. -/
def judgeHandover (s : State) (c n : Nat) (old new : List Rat) : Bool × State :=
  let x := s.chan c
  let reading := engValue s c (meanR old)
  let diff := engValue s c (meanR new) - reading
  if absR diff ≤ 2 * baseAccuracy s c reading then
    let frames : Int := ((n : Int) - (x.singleFrom : Int)) % 4294967296
    let s := s.setChan c { x with on := 1 - x.on, refused := 0, refFlag := false, single := false }
    (true, if x.single then raiseFe s 0x0403 [d32 c, d32 frames] else s)
  else
    let r := x.refused + 1
    let single := x.single || decide (3 ≤ r)
    let s := s.setChan c { x with refused := r, refFlag := true, lastDiff := diff, single := single,
                                  singleFrom := if single && !x.single then n else x.singleFrom }
    (false, raiseFe (s.bump (chanIx c) 11) 0x0401 [d32 c, dF diff, d32 r])

/-- Active converter object :6. -/
def activeCode (x : Chan) : Int := if chanDead x then 4 else x.on + (if x.single then 2 else 0)

/-- The time status as it stood at S of frame n (R106, R110): that of one of the last 16 frames, else the present one. -/
def statusAt (s : State) (n : Nat) : Int :=
  match s.frame.stats.find? (fun p => p.1 == n) with
  | some p => p.2
  | none => s.obj 0x2805 0

/-- The values of one channel for frame n: objects :2 to :6, overrange and handover; the status word of R106. -/
def channelFrame (s : State) (c n : Nat) (w : ChanWindows) : State :=
  let x := s.chan c
  let (ko, kn) := convs x
  let (lo, ln) := if x.on = 0 then (w.a, w.b) else (w.b, w.a)
  let cross := crossing x c n
  let old := lo.map (calibrated ko)
  let new := ln.map (calibrated kn)
  let (took, s) := if cross then judgeHandover s c n old new else (false, idlePhase s c n ln)
  let satO := old.map satWindow
  let mean := if took then blendMean satO (new.map satWindow) else meanR satO
  let inst := satO.headD 0
  let peak := (old ++ if cross then new else []).foldl (fun m f => maxR m (absR f)) 0
  let above := decide (26 / 25 < peak)
  let x := s.chan c
  let onset := above && !x.ovr
  let s := s.setChan c { x with ovr := above }
  let s := if onset then raiseFe s 0x040D [d32 c, dF peak] else s
  let dead := chanDead x
  let valid := chanLive x && decide (absR (old.headD 0) ≤ 26 / 25)
  let vi := if dead then 0 else engValue s c inst
  let vm := if dead then 0 else engValue s c mean
  let st (k : Nat) : Bool := decide (2 ≤ s.obj (0x3460 + k) 3)
  let hd (k : Nat) : Bool := decide (s.obj (0x3460 + k) 3 = 3)
  let bits : List Bool := [valid, false, false, false, false, false, false, false, !(bitOf (statusAt s n) 0), x.refFlag,
    cross, above, (decide (s.obj 0x3460 1 = 1) && decide (c = 0)) || (decide (s.obj 0x3460 1 = 2) && decide (c = 1)),
    (checksOf c).any st, (checksOf c).any hd, x.single]
  let word : Int := bits.zipIdx.foldl (fun (m : Int) p => if p.1 then m + ((2 ^ p.2 : Nat) : Int) else m) 0
  let i := chanIx c
  let s := (s.setF i 2 vi).setF i 3 vm
  let s := s.setF i 4 (baseAccuracy s c vm + widening s c vm)
  (s.setObj i 5 word).setObj i 6 (activeCode x)

/-- The channel carries VALID. -/
def chanValid (s : State) (c : Nat) : Bool := bitOf (s.obj (chanIx c) 5) 0

/-- An F32 object's four bytes. -/
def f32At (s : State) (i sub : Nat) : List Byte := leBytes 4 (s.obj i sub)

/-- The rest threshold of R141 in A. -/
def restAmps (s : State) : Rat := (s.obj 0x4010 1 : Rat) / 10000 * ((s.obj 0x4000 1 : Rat) / 1000)

/-- The front end forms frame n's values and pushes them into lanes 14 and 15 (R105). On an OFFLINE card only the guard core gets
its own, lane 15: it runs in every role, the front end's work for AC3 does not (R299; DEDUCED 158). The string stands at rest (R117)
by |I_S|, and while I_S lacks VALID by |I_H| (DESIGN CHOICE 159). -/
def execFrontEndFrameValues (iS iH vS vL : ChanWindows) (s : State) : Out :=
  onString s fun s =>
    let n := (s.frameNo + 4294967295) % 4294967296
    let s := channelFrame (channelFrame (channelFrame (channelFrame s 0 n iS) 1 n iH) 2 n vS) 3 n vL
    let ix := [0x3410, 0x3420, 0x3430, 0x3440]
    let e14 := leBytes 4 (n : Int) ++ ix.flatMap (fun i => f32At s i 2) ++ (ix.take 3).flatMap (fun i => f32At s i 3)
      ++ ix.flatMap (fun i => f32At s i 4) ++ ix.flatMap (fun i => leBytes 2 (s.obj i 5)) ++ List.replicate 4 0#8
    let e15 := leBytes 4 (n : Int) ++ f32At s 0x3410 2 ++ f32At s 0x3420 2 ++ f32At s 0x3410 3 ++ f32At s 0x3420 3
      ++ leBytes 2 (s.obj 0x3410 5) ++ leBytes 2 (s.obj 0x3420 5) ++ List.replicate 4 0#8
    let s := if s.runs then lanePush s 14 (.bytes (e14 ++ leBytes 4 (crc32c e14 : Nat))) else s
    let s := lanePush s 15 (.bytes (e15 ++ leBytes 4 (crc32c e15 : Nat)))
    let i := if chanValid s 0 then s.objF 0x3410 3 else s.objF 0x3420 3
    let rest := if absR i < restAmps s then (match s.frame.restFrom with | some c => some c | none => some s.clk.c) else none
    { s with
      frame := { s.frame with restFrom := rest }
      cells := { s.cells with feFrame := n, inst := ((n, s.objF 0x3410 2, s.objF 0x3420 2) :: s.cells.inst).take 2 } }

/-! ### Cross-checks (R119 to R124) -/

/-- Check k in course. -/
def State.check (s : State) (k : Nat) : Check := storeGet (fun _ => {}) s.cells.checks k

/-- Stores check k. -/
def State.setCheck (s : State) (k : Nat) (x : Check) : State :=
  { s with cells := { s.cells with checks := storePut (fun _ => {}) s.cells.checks k x } }

/-- Bit 3 of 0x2004:0 stands while a check is hard or a CM18 reference is beyond its hard limit (R123). -/
def hardCause (s : State) : State :=
  let bad := [1, 2, 3, 4, 5, 6, 7, 8].any (fun k => s.obj (0x3460 + k) 3 == 3) || s.cells.wires.any (fun p => p.2.refHard)
  if bad = bitOf (s.obj 0x2004 0) 3 then s else if bad then setCause s 3 else clearCause s 3

/-- A check returns to within its limits at once, its windows starting again; one that is disabled is idle (R123, R124). -/
def restartCheck (s : State) (k cause : Nat) : State :=
  let was := s.obj (0x3460 + k) 3
  let s := (s.setCheck k { since := some s.clk.c }).setObj (0x3460 + k) 3 (if cause = 6 then 0 else if 2 ≤ was then 1 else was)
  let s := if 2 ≤ was then raiseFe s 0x040E [d32 k, d32 cause] else s
  hardCause s

/-- The checks that name a channel restart. -/
def restartNaming (s : State) (c cause : Nat) : State := (checksOf c).foldl (fun s k => restartCheck s k cause) s

/-- A scale object was written (R116): the checks that name its channel restart and a fresh baseline is needed. -/
def scaleWritten (s : State) (c : Nat) : State :=
  let s := restartNaming s c 4
  { s with cells := { s.cells with baseReq := [6, 7, 8] } }

/-- A frame in which a check's precondition held adds its residual and its soft limit. -/
def addCheck (s : State) (k : Nat) (res soft ref raw : Rat) : State :=
  if s.objB (0x3460 + k) 6 = false then s else
  let x := s.check k
  s.setCheck k { x with sum := x.sum + res, soft := x.soft + soft, n := x.n + 1, ref := x.ref + ref, raw := x.raw + raw }

/-- Tolerances of the Hall channel and of the converter (R119). -/
def tolerance (gain offset : Int) (v : Rat) : Rat := (gain : Rat) / 10000 * absR v + (offset : Rat) / 1000

/-- Checks 2 to 5 of a frame; check 1 stands with the cells. A channel both of whose converters fail carries no value, so its frames
have no residual (R115). -/
def frameChecks (s : State) : State :=
  let iS := s.objF 0x3410 3
  let iH := s.objF 0x3420 3
  let iC := s.objF 0x5600 14
  let uS := s.objF 0x3410 4
  let uH := tolerance (s.obj 0x3420 13) (s.obj 0x3420 14) iH
  let uC := tolerance (s.obj 0x3450 2) (s.obj 0x3450 3) iC
  let okS := !(chanDead (s.chan 0))
  let okH := !(chanDead (s.chan 1))
  let up := s.objB 0x5600 7
  let s := if okS && okH then addCheck s 3 (iS - iH) (uS + uH) 0 0 else s
  let s := if okS && up then addCheck s 4 (iS - iC) (uS + uC) 0 0 else s
  let s := if okH && up then addCheck s 5 (iH - iC) (uH + uC) 0 0 else s
  if !(chanDead (s.chan 2)) && !(chanDead (s.chan 3)) && decide (s.obj 0x6880 4 = 5)
      && decide (absR iS ≤ (s.obj 0x4000 1 : Rat) / 20000) then
    let vS := s.objF 0x3430 3
    let vL := s.objF 0x3440 3
    addCheck s 2 (vL - vS) (3 / 2 * (s.objF 0x3430 4 + s.objF 0x3440 4)) vS (vL / (1 + s.objF 0x3440 12 / 1000000))
  else s

/-- The current vote of R121 over checks 3 to 5, each in the state it stands in (R123). -/
def voteNow (s : State) : Nat :=
  let up := s.objB 0x5600 7
  let b (k : Nat) : Bool := decide (2 ≤ s.obj (0x3460 + k) 3)
  match up, b 3, b 4, b 5 with
  | false, true, _, _ => 4
  | _, false, false, false => 0
  | _, true, true, false => 1
  | _, true, false, true => 2
  | _, false, true, true => 3
  | _, _, _, _ => 4

/-- The verdict follows a closed window. -/
def updateVote (s : State) : State :=
  let v := voteNow s
  let old := s.obj 0x3460 1
  if old = (v : Int) then s else
    raiseFe (s.setObj 0x3460 1 v) 0x0406 [d8 old, d8 v, d32 (s.obj 0x3463 1), d32 (s.obj 0x3464 1), d32 (s.obj 0x3465 1)]

/-- A closed window is judged (R123). -/
def judgeWindow (s : State) (k : Nat) (res soft hard : Rat) : State :=
  let i := 0x3460 + k
  let was := s.obj i 3
  let s := ((s.setF i 1 res).setF i 2 soft).bump i 4
  if soft < absR res then
    let level : Int := if hard < absR res then 3 else 2
    let now := if was < level then level else was
    let s := (s.setCheck k { since := (s.check k).since }).setObj i 3 now
    let s := if was < 2 then raiseFe s 0x0404 [d32 k, d32 (s.obj i 1), d32 (s.obj i 2)] else s
    let s := if was < 3 ∧ now = 3 then raiseFe s 0x0405 [d32 k, d32 (s.obj i 1), dF hard] else s
    updateVote (hardCause s)
  else
    let run := (s.check k).run + 1
    let back := decide (2 ≤ was) && decide (16 ≤ run)
    let s := (s.setCheck k { run := if back then 0 else run, since := (s.check k).since }).setObj i 3 (if was < 2 ∨ back then 1 else was)
    let s := if back then raiseFe s 0x040E [d32 k, d32 1] else s
    updateVote (hardCause s)

/-- The tones of the injection: number and frequency in mHz, those whose frequency is set. -/
def tonesOf (s : State) : List (Nat × Nat) :=
  ((List.range 16).map (fun k => (k + 1, s.objN 0x5410 (k + 1)))).filter (fun p => p.2 != 0)

/-- The signal-to-noise ratio in dB of a tone on a channel: 0 I_S, -1 I_H, -2 I_C, -3 V_S, else a cell position. The spec states no
computation of it. -/
def toneSnr (s : State) (ch : Int) (k : Nat) : Int := Config.freeReal 166 [ch, (k : Int), (s.cells.imageFrame : Int)]

/-- The signal-to-noise ratio R120 asks for. -/
def snrOk (s : State) (ch : Int) (k : Nat) : Bool := decide (40 ≤ toneSnr s ch k)

/-- The magnitude of a bin, V or A. -/
def binMag (b : Bin) : Rat := sqrtR ((b.re : Rat) * b.re + (b.im : Rat) * b.im) / 1000000000000

/-- The gain of channel 0 I_S, 1 I_H, 2 I_C, 3 V_S at tone k: the magnitude of its phasor over that of the commanded tone (R120). -/
def channelGain (s : State) (q k : Nat) : Rat :=
  binMag (if q = 0 then storeGet (fun _ => {}) s.cells.ibins k else storeGet (fun _ => {}) s.cells.gbins (32 * q + k)) / s.objF 0x5411 k

/-- Σ G_cell at tone k. -/
def cellGains (s : State) (k : Nat) : Rat :=
  ((List.range s.cellCount).map (fun n =>
    binMag (storeGet (fun _ => ({} : Bin)) (storeGet (fun _ => ({} : Cell)) s.cells.cells (n + 1)).bins k))).sum / s.objF 0x5411 k

/-- A tone's ratio for check k, none where it does not enter the run: a signal-to-noise ratio of 40 dB on every channel in the ratio
(R119, R120). -/
def toneRatio (s : State) (k t : Nat) : Option Rat :=
  let (q, chans) : Nat × List Int := if k = 6 then (1, [0, -1]) else if k = 7 then (2, [0, -2])
    else (3, -3 :: (List.range s.cellCount).map (fun (n : Nat) => (n : Int) + 1))
  let den := channelGain s q t
  if s.objF 0x5411 t = 0 ∨ den = 0 ∨ chans.all (fun ch => snrOk s ch t) = false then none
  else some ((if k = 8 then cellGains s t else channelGain s 0 t) / den)

/-- An injection run has lasted 64 periods of the lowest tone (R120). -/
def runLong (s : State) (k : Nat) : Bool :=
  match s.cells.toneFrom with
  | none => false
  | some c =>
    let low := (tonesOf s).foldl (fun m p => if m = 0 ∨ p.2 < m then p.2 else m) 0
    let ns : Int := elapsedNs s.clk c s.clk.c
    let ns : Int := match (s.check k).since with
      | some d => if elapsedNs s.clk d s.clk.c < ns then elapsedNs s.clk d s.clk.c else ns
      | none => ns
    decide (low ≠ 0) && decide (64000000000000 ≤ ns * (low : Int))

/-- The ratio of a run of check k, none where it does not qualify: the mean of those of the tones that enter it, which the spec does
not say how to join (DESIGN CHOICE 39). -/
def runRatio (s : State) (k : Nat) : Option Rat :=
  let l := (tonesOf s).filterMap (fun p => toneRatio s k p.1)
  if runLong s k = false ∨ l = [] then none else some (meanR l)

/-- Check k waits for a baseline: one has been asked for, or there is none (R120). -/
def wantsBase (s : State) (k : Nat) : Bool := s.cells.baseReq.contains k || decide (s.objF (0x3460 + k) 5 = 0)

/-- Baselines are taken from a run: those of checks 6 to 8 that wait for one and for which it qualifies (R120). -/
def takeBaseline (s : State) : State :=
  let l := [6, 7, 8].filterMap (fun k => if wantsBase s k then (runRatio s k).map (fun q => (k, q)) else none)
  let s := l.foldl (fun s p => restartCheck (s.setF (0x3460 + p.1) 5 p.2) p.1 5) s
  let s := { s with cells := { s.cells with baseReq := s.cells.baseReq.filter (fun k => !(l.any (fun p => p.1 == k))) } }
  raiseFe s 0x040F [d32 (s.obj 0x3466 5), d32 (s.obj 0x3467 5), d32 (s.obj 0x3468 5)]

/-- A window of check k + 1 closes: 4,096 qualifying frames of checks 1 to 5, or one injection run of checks 6 to 8. Where a limit
varies from frame to frame, the window's limit is the mean of theirs (DESIGN CHOICE 119). -/
def execXcheckWindowClose (k : Fin 8) (s : State) : Out :=
  onHost s fun s =>
    if s.runs = false then s else
    let k := k.val + 1
    let i := 0x3460 + k
    if s.objB i 6 = false then s
    else if 6 ≤ k then
      if s.obj 0x5400 17 ≠ 2 then s
      else match runRatio s k with
      | none => s
      | some q =>
        if wantsBase s k then takeBaseline s
        else
          let soft : Rat := if k = 8 then 1 / 5000 else 1 / 2000
          judgeWindow (s.setCheck k { s.check k with since := some s.clk.c }) k (q / s.objF i 5 - 1) soft (10 * soft)
    else
      let x := s.check k
      if x.n < 4096 then s else
      let soft := x.soft / (x.n : Rat)
      let hard := if k ≤ 2 then 5 * (soft * 2 / 3) else maxR (3 * soft) 5
      let s := if k ≤ 2 ∧ x.raw ≠ 0 then s.setF (chanIx (k + 1)) 16 ((x.ref / x.raw - 1) * 1000000) else s
      judgeWindow s k (x.sum / (x.n : Rat)) soft hard

/-- A write of an RWS object carried out by a command, answered with `err` and logged where it is accepted (R293). -/
def safetyWrite (s : State) (i sub err : Nat) (v : Int) (f : State → State) : State :=
  let o := writerOf s i sub
  rwsWrite s i sub err (fun s => match objRow i sub with
    | some r => logObj s r i sub o v
    | none => s) f

/-- A write of 1 to 0x3460:2 (R120). -/
def execTakeInjectionBaseline (s : State) : Out :=
  onHost s fun s => safetyWrite s 0x3460 2 errOk 1 fun s =>
    { s with cells := { s.cells with baseReq := [6, 7, 8] } }

/-- A write of false to a check's enable (R124). A serialised write of true sets it again (R10, RWS). -/
def execCheckEnableWrite (k : Fin 8) (s : State) : Out :=
  onHost s fun s =>
    let k := k.val + 1
    let i := 0x3460 + k
    let on := decide (writtenVal s i 6 = 1)
    safetyWrite s i 6 (if k = 1 ∨ k = 3 then errAccess else errOk) (if on then 1 else 0) fun s =>
      if on then s.setB i 6 true else restartCheck (s.setB i 6 false) k 6

/-! ### Divider calibration (R117, R118) -/

/-- The calibration of divider channel c (2 V_S, 3 V_L) is refused: reasons 1 positions, 2 current, 3 contactors,
4 channel without VALID. -/
def refuseCal (s : State) (c reason : Nat) : State :=
  let i := chanIx c
  let s := { s.setObj i 18 3 with cells := { s.cells with cals := s.cells.cals.filter (fun p => p.1 != c) } }
  raiseFe s 0x040C [d32 c, d8 (s.obj i 13), d32 (s.obj i 12), d32 reason]

/-- Every configured position is present and none is sense-suspect. -/
def cellsPresent (s : State) : Bool :=
  (List.range s.cellCount).all (fun k => !(bitOf (s.obj 0x3804 (k + 1)) 1) && !(bitOf (s.obj 0x3804 (k + 1)) 3))

/-- The first precondition of method 0 that fails, 0 where all hold. -/
def calReason (s : State) (c : Nat) : Nat :=
  let i := chanIx c
  if chanValid s c = false then 4
  else if s.obj i 13 ≠ 0 then 0
  else if c = 2 then
    if cellsPresent s = false then 1
    else if s.frame.restFrom.isNone then 2 else 0
  else if s.obj 0x6880 4 ≠ 5 then 3
  else if absR (s.objF 0x3410 3) ≤ (s.obj 0x4000 1 : Rat) / 20000 then 0 else 2

/-- The string has rested for 60 s, which the V_S run needs at its start. -/
def restedMinute (s : State) : Bool :=
  match s.frame.restFrom with
  | some c => decide (60000000000 ≤ elapsedNs s.clk c s.clk.c)
  | none => false

/-- A write of 1 to :15 of a divider. -/
def execDividerCalStart (chan : Fin 2) (s : State) : Out :=
  onHost s fun s =>
    let c := chan.val + 2
    let i := chanIx c
    safetyWrite s i 15 errOk 1 fun s =>
      let r := calReason s c
      let r := if r = 0 ∧ c = 2 ∧ s.obj i 13 = 0 ∧ restedMinute s = false then 2 else r
      if r ≠ 0 then refuseCal s c r
      else { s.setObj i 18 1 with cells := { s.cells with cals := storePut (fun _ => { fail := 255 }) s.cells.cals c {} } }

/-- A frame of a running calibration: preconditions, and the sums of the reference and of the untrimmed channel. -/
def calFrame (s : State) (c : Nat) (cellSum : Rat) : State :=
  match s.cells.cals.find? (fun p => p.1 == c) with
  | none => s
  | some (_, x) =>
    let i := chanIx c
    let r := calReason s c
    let ref := if s.obj i 13 ≠ 0 then s.objF i 14 else if c = 2 then cellSum else s.objF 0x3430 3
    let raw := s.objF i 3 / (1 + s.objF i 12 / 1000000)
    let x := { x with fail := if x.fail = 0 then r else x.fail, ref := x.ref + ref, raw := x.raw + raw, n := x.n + 1 }
    { s with cells := { s.cells with cals := storePut (fun _ => { fail := 255 }) s.cells.cals c x } }

/-- Frames of a run. -/
def calFrames (s : State) (c : Nat) : Nat := if s.obj (chanIx c) 13 = 0 ∧ c = 2 then 16384 else 4096

/-- A calibration run completes or is refused. -/
def execDividerCalComplete (chan : Fin 2) (s : State) : Out :=
  onHost s fun s =>
    let c := chan.val + 2
    let i := chanIx c
    match s.cells.cals.find? (fun p => p.1 == c) with
    | none => s
    | some (_, x) =>
      if x.fail ≠ 0 then refuseCal s c x.fail
      else if x.n < calFrames s c ∨ x.raw = 0 then s
      else
        let old := s.obj i 12
        let s := (s.setF i 12 ((x.ref / x.raw - 1) * 1000000)).setObj i 18 2
        let s := { s with cells := { s.cells with cals := s.cells.cals.filter (fun p => p.1 != c) } }
        restartNaming (raiseFe s 0x040C [d32 c, d8 (s.obj i 13), d32 old, d32 (s.obj i 12)]) c 2

/-- A write of 1 to :17: the proposed trim is taken at the next boundary. -/
def execAcceptProposedTrim (chan : Fin 2) (s : State) : Out :=
  onHost s fun s =>
    let c := chan.val + 2
    safetyWrite s (chanIx c) 17 errOk 1 fun s =>
      { s with cells := { s.cells with accept := if s.cells.accept.contains c then s.cells.accept else s.cells.accept ++ [c] } }

/-- The trims accepted are taken at the boundary (R118). -/
def trimBoundary (s : State) : State :=
  let l := s.cells.accept
  l.foldl (fun s c =>
    let i := chanIx c
    let old := s.obj i 12
    let s := s.setObj i 12 (s.obj i 16)
    restartNaming (raiseFe s 0x040C [d32 c, d8 (s.obj i 13), d32 old, d32 (s.obj i 12)]) c 3)
    { s with cells := { s.cells with accept := [] } }

end Sys2Proof.Machine
end

