-- ==== Sys2Proof/Machine/Rings.lean ====
section
/-!
DEFINITION. Roundabout (chapter 03): commands, SYNC, blocks, breaks, rates, late and missing units. RING_SWEEP and
RING_ENUMERATE stand with the authentication and the safety thresholds they also send.
Marks (notes/assumptions): DEDUCED 34, 164; DESIGN CHOICE 33, 35, 116, 135, 137.
-/
namespace Sys2Proof.Machine

/-! ### Configuration -/

/-- Ring r. -/
def State.ring (s : State) (r : Nat) : Ring := storeGet (fun _ => {}) s.rings.ring r

/-- Stores ring r. -/
def State.setRing (s : State) (r : Nat) (x : Ring) : State :=
  { s with rings := { s.rings with ring := storePut (fun _ => {}) s.rings.ring r x } }

/-- State of ring r (0x3010 + r:7): 0 disabled, 1 enumerating, 2 intact, 3 broken, 4 unreachable. -/
def ringSt (s : State) (r : Nat) : Int := s.obj (0x3010 + r) 7

/-- Stores the state of ring r. -/
def setRingSt (s : State) (r : Nat) (v : Int) : State := s.setObj (0x3010 + r) 7 v

/-- Ring r is enabled in 0x3000:1. -/
def ringOn (s : State) (r : Nat) : Bool := bitOf (s.obj 0x3000 1) r

/-- The slots the CM18 table names on ring r (R85). -/
def ringSlots (s : State) (r : Nat) : List Nat :=
  (List.range 40).filter (fun k => s.obj (0x3100 + k) 1 == r)

/-- The slot configured at a hop of ring r. -/
def slotAt (s : State) (r hop : Nat) : Option Nat :=
  (ringSlots s r).find? (fun k => s.objN (0x3100 + k) 2 == hop)

/-- The largest East hop configured on ring r, 0 where none is (R82). -/
def hopCfg (s : State) (r : Nat) : Nat :=
  (ringSlots s r).foldl (fun m k => if m < s.objN (0x3100 + k) 2 then s.objN (0x3100 + k) 2 else m) 0

/-- A unit of ring r. -/
def ringUnit (s : State) (r hop : Nat) : Option RingUnit := (s.ring r).units.find? (fun u => u.hop == hop)

/-! ### Times (R70, R71, R88, R89), in ns -/

/-- Byte time t_b. -/
def byteTime (s : State) (r : Nat) : Nat := if s.obj (0x3010 + r) 2 = 1 then 400 else 200

/-- T_REP + 20 ns. -/
def hopTime (s : State) (r : Nat) : Nat := if s.obj (0x3010 + r) 2 = 1 then 800 else 400

/-- The sweep close of R34 step 4, from S. -/
def closeTime (s : State) : Nat := if s.obj 0x2011 0 = 125 then 100000 else 200000

/-- The end of a READ of `blocks` blocks that starts at `start` and crosses `span` hops (R88). -/
def readEnd (s : State) (r start blocks span : Nat) : Nat :=
  start + 16 * byteTime s r + 72 * byteTime s r * blocks + span * hopTime s r

/-- n_max (R89). -/
def nMax (s : State) (r hmax : Nat) : Nat :=
  ((List.range 13).filter (fun b => decide (readEnd s r 2000 b hmax ≤ closeTime s))).foldl (fun m b => if m < b then b else m) 1

/-- k, the number of parts of a split sweep (R89). -/
def splitParts (s : State) (r hmax : Nat) : Nat := if hmax = 0 then 1 else (hmax + nMax s r hmax - 1) / nMax s r hmax

/-- The East hops of part j as a mask: ceil(Hmax / k) consecutive hops, the last part taking the rest (R89). -/
def partMask (hmax k j : Nat) : Nat :=
  let n := (hmax + k - 1) / k
  ((List.range hmax).filter (fun i => decide (j * n ≤ i) && (decide (i < (j + 1) * n)))).foldl (fun m i => m + 2 ^ i) 0

/-- The time within the frame, in ns from S. -/
def inFrame (s : State) : Nat := (s.now / 65536 - s.frame.sAt).toNat

/-- Rounding half away from zero of a quotient of non-negative numbers (R83). -/
def divHalfUp (n d : Nat) : Nat := if d = 0 then 0 else (2 * n + d) / (2 * d)

/-! ### Masks -/

/-- The hops of a mask, rising. -/
def hopsOf (m : Nat) : List Nat := (List.range 12).filterMap (fun i => if m.testBit i then some (i + 1) else none)

/-- The mask of hops. -/
def maskOf (l : List Nat) : Nat := l.foldl (fun m h => m ||| 2 ^ (h - 1)) 0

/-- `a` without the bits of `b`. -/
def maskDiff (a b : Nat) : Nat := a - (a &&& b)

/-- A mask by East hop as a frame from the West end carries it: bit i for the unit at West hop i + 1 (R76). -/
def fromWest (hmax m : Nat) : Nat :=
  (List.range hmax).foldl (fun a i => if m.testBit (hmax - 1 - i) then a + 2 ^ i else a) 0

/-- The units an end of a ring reaches: all of an intact ring, the end's half of a broken one. -/
def halfMask (x : Ring) (port : Nat) : Nat :=
  let all := maskOf (x.units.map (·.hop))
  if x.broken = false then all
  else if port = 0 then all &&& (2 ^ x.reachE - 1) else maskDiff all (2 ^ (x.hmax - x.reachW) - 1)

/-- The units a READ from an end names among those of `all`: its half, and in broken mode those neither end reaches, so that one
that comes back is seen (R93). -/
def askMask (x : Ring) (port all : Nat) : Nat :=
  if x.broken = false then all
  else if port = 0 then all &&& (2 ^ (x.hmax - x.reachW) - 1) else maskDiff all (2 ^ x.reachE - 1)

/-! ### Commands (R76 to R78) -/

/-- A command block: the CRC covers type to payload with bytes 1 and 2 taken as zero. -/
def cmdBlock (typ hop seq flags am pm : Nat) (payload : List Byte) : List Byte :=
  let b (n : Nat) : Byte := BitVec.ofNat 8 n
  let tail := [b seq, b flags, b payload.length] ++ leBytes 2 am ++ leBytes 2 pm ++ payload
  [b typ, b hop, 0#8] ++ tail ++ leBytes 4 (crc32c ([b typ, 0#8, 0#8] ++ tail))

/-- A frame leaves a ring port: only the ACTIVE card or a single module sends (R69). -/
def ringSend (s : State) (r port : Nat) (bytes : List Byte) : State :=
  if s.drivesAll then s.send (6 + 2 * r + port) bytes else s

/-- A command frame leaves a port: SOF, the block, EOF; it takes the ring's next sequence number. -/
def ringCommand (s : State) (r port typ hop flags am pm : Nat) (payload : List Byte) : State :=
  let q := ((s.ring r).seq + 1) % 256
  let s := s.setRing r { s.ring r with seq := q }
  ringSend s r port (0xFB#8 :: cmdBlock typ hop q flags am pm payload ++ [0xFD#8])

/-- The ends a broadcast leaves from: East on an intact ring, both in broken mode. -/
def castEnds (x : Ring) : List Nat := if x.broken then [0, 1] else [0]

/-- A broadcast to every unit of ring r. -/
def ringCast (s : State) (r typ : Nat) (payload : List Byte) : State :=
  (castEnds (s.ring r)).foldl (fun s p => ringCommand s r p typ 0xFF 0 0 0 payload) s

/-- A broadcast to every ring that runs. -/
def castAll (s : State) (typ : Nat) (payload : List Byte) : State :=
  (List.range 4).foldl (fun s r => if 2 ≤ ringSt s r then ringCast s r typ payload else s) s

/-- The end that reaches a unit, and its hop from that end. -/
def unitEnd (x : Ring) (hop : Nat) : Nat × Nat :=
  if x.broken = false ∨ hop ≤ x.reachE then (0, hop) else (1, x.hmax + 1 - hop)

/-- READ from an end for current and previous samples by East hop; it is then outstanding. -/
def sendRead (s : State) (r port cur prev : Nat) : State :=
  let x := s.ring r
  let f (m : Nat) : Nat := if port = 0 then m else fromWest x.hmax m
  let s := ringCommand s r port 0x01 0xFF 0 (f cur) (f prev) []
  let x := s.ring r
  s.setRing r { x with reads := x.reads ++ [⟨port, x.seq, popCount 12 cur + popCount 12 prev⟩] }

/-- The last t_end and its high-water, in 0.1 µs (R88). -/
def noteEnd (s : State) (r t : Nat) : State :=
  let v : Int := if t / 100 < 65536 then ((t / 100 : Nat) : Int) else 65535
  let s := s.setObj (0x3010 + r) 13 v
  if s.obj (0x3010 + r) 14 < v then s.setObj (0x3010 + r) 14 v else s

/-- A recovery READ of what an end can still give, if its predicted return meets the close (R94). -/
def recoverRead (s : State) (r port : Nat) : State :=
  let x := s.ring r
  let cur := askMask x port (maskDiff (maskDiff x.want x.got) x.nosync)
  let prev := askMask x port (maskDiff x.prevWant x.prevGot)
  let span := if x.broken then 2 * (if port = 0 then x.reachE else x.reachW) else x.hmax
  let t := readEnd s r (inFrame s) (popCount 12 cur + popCount 12 prev) span
  if cur + prev ≠ 0 ∧ t ≤ closeTime s then noteEnd (sendRead s r port cur prev) r t else s

/-! ### Ring states and bit 4 of 0x2004:0 -/

/-- Bit 4 stands while any ring is oversize or unreachable (R69, R93). -/
def ringCause (s : State) : State :=
  let bad := (List.range 4).any (fun r => (s.ring r).oversize || (s.ring r).unreach)
  if bad = bitOf (s.obj 0x2004 0) 4 then s else if bad then setCause s 4 else clearCause s 4

/-- An event of the sequencer. -/
def raiseRing (s : State) (code : Nat) (flds : List Fld) : State := raise s code 9 flds

/-- Re-enumeration of a ring begins: its cells keep their values with the missing mark (R87). A ring that is not enabled does not run
and holds no cause (R69). -/
def beginEnum (s : State) (r : Nat) : State :=
  if ringOn s r then
    setRingSt (s.setRing r { s.ring r with enumFrom := s.frameNo, reads := [], detect := 0 }) r 1
  else
    ringCause (setRingSt (s.setRing r { s.ring r with oversize := false, unreach := false, broken := false, reads := [] }) r 0)

/-- A committed 0x3000:1: a ring it disables stops, and one it enables is enumerated (R69, R82). -/
def ringsEnabled (s : State) : State :=
  (List.range 4).foldl (fun s r =>
    let runs := decide (ringSt s r ≠ 0) || (s.ring r).oversize
    if runs = ringOn s r then s else beginEnum s r) s

/-- The ring enters broken mode (R93). Detection: 1 wrap, 2 ABORT, 3 timeout. -/
def enterBroken (s : State) (r hopE det : Nat) : State :=
  let x := s.ring r
  let s := s.setRing r { x with broken := true, brokenFrom := s.frameNo, reachE := hopE,
                                reachW := x.hmax - hopE, detect := 0 }
  let s := (setRingSt s r 3).setObj (0x3010 + r) 9 hopE
  raiseRing s 0x0302 [d32 r, d32 hopE, d32 det]

/-- The ring leaves broken mode, and is enumerated again (R82, R87, R93). -/
def leaveBroken (s : State) (r : Nat) : State :=
  let x := s.ring r
  let n : Int := ((s.frameNo : Int) - (x.brokenFrom : Int)) % 4294967296
  let s := s.setRing r { x with broken := false, unreach := false, detect := 0, dead := 0 }
  let s := ringCause (setRingSt s r 2)
  beginEnum (raiseRing s 0x0303 [d32 r, d32 n]) r

/-- No unit is reachable from either end (R93); the event is written once while it stays so. -/
def ringUnreachable (s : State) (r : Nat) : State :=
  let x := s.ring r
  let s := s.setRing r { x with broken := true, brokenFrom := if x.broken then x.brokenFrom else s.frameNo,
                                unreach := true, reachE := 0, reachW := 0, detect := 0 }
  let s := (setRingSt s r 4).setObj (0x3010 + r) 9 0
  if x.unreach then s else ringCause (raiseRing s 0x0304 [d32 r])

/-! ### SYNC (R75, R84, R89) -/

/-- SYNC leaves a port: at a handover frame h the card that takes over sends the one for S(h), and a card that took over the
one for its first exclusive boundary (R318, R320). -/
def syncSend (s : State) (r port : Nat) (bytes : List Byte) : State :=
  if s.drivesSync then s.send (6 + 2 * r + port) bytes else s

/-- A SYNC frame: the symbol, the frame number, the flags and the CRC. -/
def syncFrame (n flags : Nat) : List Byte :=
  let b := leBytes 4 (n : Int) ++ [BitVec.ofNat 8 flags]
  0x3C#8 :: b ++ leBytes 2 (crc16 b : Nat)

/-- The ring is swept in the frame of number `n`: in Park only the active frame is (R27, R100). -/
def ringRuns (s : State) (r n : Nat) : Bool :=
  decide (2 ≤ ringSt s r) && (decide (s.profile ≠ 3) || s.rings.active == some n)

/-- SYNC leaves ahead of the next S, from East and in broken mode from West too; a split ring takes it only in frames
whose number is a multiple of k. -/
def execSyncLaunch (ring : Fin 4) (s : State) : Out :=
  onString s fun s =>
    let r := ring.val
    let n := (s.frameNo + 1) % 4294967296
    if ringRuns s r n = false ∨ (n : Int) % s.obj (0x3010 + r) 10 ≠ 0 then s else
    let x := s.ring r
    let s := s.setRing r { x with syncs := ((n, s.frame.nextAt) :: x.syncs).take 2 }
    let f := if x.broken then 2 else 0
    let s := syncSend s r 0 (syncFrame n f)
    if x.broken then syncSend s r 1 (syncFrame n (f + 1)) else s

/-! ### Blocks (R79, R81) -/

/-- The response blocks after a command block; a kind that is not recognised ends the decoding. -/
def splitBlocks : Nat → List Byte → List (List Byte)
  | 0, _ => []
  | n + 1, l =>
    let k := (l.headD 0#8).toNat / 16
    if 72 ≤ l.length ∧ (k = 8 ∨ k = 9) then l.take 72 :: splitBlocks n (l.drop 72) else []

/-- A block's CRC holds. -/
def blockCrc (b : List Byte) : Bool := crc32c (b.take 68) == getLe b 68 4

/-- The digest of an identity (R79). -/
def identDigest (ident : Nat) : Nat := crc16 (leBytes 8 ident)

/-- The element of lanes 20 to 24 (R81). -/
def blockElem (b : List Byte) (r hop : Nat) (late wrapped : Bool) (n : Nat) (at_ : Int) : Elem :=
  .bytes (b ++ [BitVec.ofNat 8 r, BitVec.ofNat 8 hop,
    BitVec.ofNat 8 ((if late then 1 else 0) + (if wrapped then 2 else 0)), 0#8] ++ leBytes 4 (n : Int)
    ++ d80 (time80 (at_ * 65536)) ++ List.replicate 6 0#8)

/-- Counts errors of ring r (R72). -/
def ringErrors (s : State) (r n : Nat) : State :=
  if n = 0 then s else
  let s := s.setRing r { s.ring r with frameErr := (s.ring r).frameErr + n }
  let t := s.obj (0x3010 + r) 6 + n
  s.setObj (0x3010 + r) 6 (if t < 4294967296 then t else (Config.countBeyond t.toNat : Nat))

/-- One response block is checked: CRC, identity digest, pos and frame number; a good one is pushed. The flag says that
the ring is to be enumerated again (R81, R87, R94). -/
def takeBlock (r : Nat) (sender : Nat) (wrapped : Bool) (acc : State × Bool) (b : List Byte) : State × Bool :=
  let (s, re) := acc
  let x := s.ring r
  let pos := (b.getD 1 0#8).toNat
  let hop := if sender = 0 then pos else x.hmax + 1 - pos
  let late := decide ((b.headD 0#8).toNat / 16 = 9)
  let bit := if hop = 0 then 0 else 2 ^ (hop - 1)
  let s := s.setRing r { x with gave := x.gave ||| bit }
  let x := s.ring r
  if blockCrc b = false then
    let s := ringErrors s r 1
    (match slotAt s r hop with | some k => s.bump (0x3100 + k) 16 | none => s, re)
  else match ringUnit s r hop with
  | none => (s, true)
  | some u =>
    if getLe b 2 2 ≠ identDigest u.ident then (s, true)
    else if late = false ∧ (b.getD 5 0#8).toNat.testBit 6 then (s.setRing r { x with nosync := x.nosync ||| bit }, re)
    else match (if late then x.syncs.drop 1 else x.syncs).head? with
    | none => (s, re)
    | some (n, at_) =>
      if (b.getD 4 0#8).toNat ≠ n % 256 then (s, re)
      else
        let e := blockElem b r hop late wrapped n at_
        let s := lanePush (lanePush s (20 + r) e) 24 e
        let x := s.ring r
        (s.setRing r (if late then { x with prevGot := x.prevGot ||| bit } else { x with got := x.got ||| bit }), re)

/-- READ_ONE to a unit from the end that reaches it, for its current sample or, with flag bit 0, its previous one, where the budget
remains: those sent before it from the same end since the frame came back hold the wire for a command and a block each (R94). -/
def askOne (prev : Bool) (r : Nat) (acc : State × Nat × Nat) (h : Nat) : State × Nat × Nat :=
  let (s, nE, nW) := acc
  let x := s.ring r
  let (p, k) := unitEnd x h
  let ahead := (if p = 0 then nE else nW) * 88 * byteTime s r
  let t := readEnd s r (inFrame s + ahead) 1 (if x.broken then 2 * k else x.hmax)
  if closeTime s < t then acc else
  let x := if prev then { x with askedPrev := x.askedPrev ||| 2 ^ (h - 1) } else { x with asked := x.asked ||| 2 ^ (h - 1) }
  let s := ringCommand (s.setRing r x) r p 0x02 (k - 1) (if prev then 1 else 0) 0 0 []
  let x := s.ring r
  (s.setRing r { x with reads := x.reads ++ [⟨p, x.seq, 1⟩] }, if p = 0 then nE + 1 else nE, if p = 0 then nW else nW + 1)

/-- READ_ONE to each unit whose block is missing or failed: the current samples first, then the previous ones (R94). -/
def askOnes (s : State) (r cur prev : Nat) : State :=
  ((hopsOf prev).foldl (askOne true r) ((hopsOf cur).foldl (askOne false r) (s, 0, 0))).1

/-- The largest hop from the sending end that a frame's blocks name. -/
def maxPos (bs : List (List Byte)) : Nat :=
  bs.foldl (fun m b => if m < (b.getD 1 0#8).toNat then (b.getD 1 0#8).toNat else m) 0

/-- How far an end reaches, as a wrapped frame shows it whose masks asked the units `ask` and whose farthest block is of the unit `n`,
both counted from that end: up to the first unit beyond `n` that was asked in vain, else as far as `old` says (R93). -/
def reachSeen (old ask n : Nat) : Nat :=
  match (hopsOf ask).find? (fun h => decide (n < h)) with
  | some h => if n < old then (if h - 1 < old then h - 1 else old) else n
  | none => if n < old then old else n

/-- A frame that came back wrapped to the end it left from: the ring is broken (R92 to R94). Each unit it reached has added 1 to `pos`
(R76), so pos names the last one; a frame in which pos is 0 or beyond the ring is judged by its blocks and by `ask`, the units its
masks named (DEDUCED 164). -/
def wrappedFrame (s : State) (r sender ask pos : Nat) (bs : List (List Byte)) : State :=
  let x := s.ring r
  let n := maxPos bs
  let told := decide (1 ≤ pos) && decide (pos ≤ x.hmax)
  if x.broken then
    let m := if told then pos else reachSeen (if sender = 0 then x.reachE else x.reachW) ask n
    let x := if sender = 0 then { x with reachE := m } else { x with reachW := m }
    let s := s.setRing r { x with dead := if m = 0 then x.dead ||| 2 ^ sender else x.dead }
    let s := if sender = 0 then s.setObj (0x3010 + r) 9 m else s
    if (s.ring r).dead = 3 then ringUnreachable s r
    else if (s.ring r).unreach ∧ m ≠ 0 then
      ringCause (setRingSt (s.setRing r { s.ring r with unreach := false }) r 3)
    else s
  else
    let m := if told then pos else match (hopsOf ask).find? (fun h => decide (n < h)) with
      | some h => h - 1
      | none => n
    let hopE := if sender = 0 then m else x.hmax - m
    let other := !(x.reads.any (fun q => q.port == 1 - sender))
    let s := enterBroken s r hopE (if x.detect = 0 then 1 else x.detect)
    if other then recoverRead s r (1 - sender) else s

/-- The response blocks of a ring frame. -/
def frameBlocks (bytes : List Byte) : List (List Byte) := splitBlocks 24 (bytes.drop (14 + (bytes.getD 5 0#8).toNat))

/-- The blocks of a frame that fail their CRC. -/
def badIn (bytes : List Byte) : Nat := ((frameBlocks bytes).filter (fun b => !(blockCrc b))).length

/-- A ring frame returns whole to a port: on a ring being enumerated its errors are counted (R72); else its blocks are checked and pushed, breaks and restorations are read from the way
it took, and units still unread are asked one by one (R81, R87, R93, R94). -/
def ringFrame (s : State) (r port : Nat) (bytes : List Byte) (violations : Nat) : State :=
  if ringSt s r < 1 then s else
  let s := ringErrors s r violations
  if ringSt s r = 1 then ringErrors s r (badIn bytes) else
  let typ := (bytes.headD 0#8).toNat
  if typ ≠ 1 ∧ typ ≠ 2 then s else
  let x := s.ring r
  let bs := frameBlocks bytes
  let seq := (bytes.getD 3 0#8).toNat
  let mine := x.reads.find? (fun q => q.seq == seq)
  let flag5 := bs.any (fun b => (b.getD 5 0#8).toNat.testBit 5)
  let sender := match mine with | some q => q.port | none => if flag5 then port else 1 - port
  let wrapped := decide (sender = port)
  let s := s.setRing r { x with reads := x.reads.filter (fun q => q.seq != seq) }
  let (s, re) := bs.foldl (takeBlock r sender wrapped) (s, false)
  let short := match mine with | some q => q.blocks - bs.length | none => 0
  let cut := decide (72 ≤ (bytes.drop (14 + (bytes.getD 5 0#8).toNat + 72 * bs.length)).length)
  let s := if cut then ringErrors s r short else s
  if typ = 2 then s else
  let few := !cut && decide (short ≠ 0)
  let s := if wrapped then
      let s := if x.broken then s.setRing r { s.ring r with recount := (s.ring r).recount || few } else s
      wrappedFrame s r sender (getLe bytes 6 2 ||| getLe bytes 8 2) (bytes.getD 2 0#8).toNat bs
    else if (s.ring r).broken then leaveBroken s r
    else if re then beginEnum s r
    else s.setRing r { s.ring r with recount := (s.ring r).recount || few }
  let x := s.ring r
  if ringSt s r < 2 then s
  else if re then beginEnum s r
  else
    let miss := maskDiff (maskDiff (maskDiff x.want x.got) x.nosync) x.asked &&& halfMask x sender
    let old := maskDiff (maskDiff x.prevWant x.prevGot) x.askedPrev &&& halfMask x sender
    if x.reads.any (fun q => q.port == sender) then s else askOnes s r miss old

/-- A break shows during a sweep, with ABORT or FAULT at a port: both ends are read at once, each half wrapping, and the frame is not
counted (R72, R94). -/
def breakInSweep (s : State) (r port : Nat) : State :=
  let x := s.ring r
  let s := s.setRing r { x with frameSkip := true }
  if x.reads = [] then s else
  let x := s.ring r
  let gone := x.reads.filter (fun q => !(x.broken = false || q.port == port))
  let s := s.setRing r { x with reads := gone, detect := if x.broken then 0 else 2 }
  recoverRead (recoverRead s r 0) r 1

/-- An ABORT ends a read (R94). -/
def execRingAbortReceived (ring : Fin 4) (port : Fin 2) (s : State) : Out := onString s fun s => breakInSweep s ring port

/-- The ring timeout of a read that left from `port`: silent loss, and both ends are read if the budget remains, in broken mode each end
with no read outstanding, once a sweep for the end that stayed silent (R88, R94). -/
def execRingTimeout (ring : Fin 4) (port : Fin 2) (s : State) : Out :=
  onString s fun s =>
    let r := ring.val
    let x := s.ring r
    if x.reads.any (fun q => q.port == port.val) = false then s else
    let first := !x.dead.testBit port.val
    let s := s.setRing r { x with reads := x.reads.filter (fun q => q.port != port.val),
                                  dead := if x.broken ∨ x.detect ≠ 0 then x.dead ||| 2 ^ port.val else x.dead }
    let x := s.ring r
    let again (s : State) (p : Nat) : State := if x.reads.any (fun q => q.port == p) then s else recoverRead s r p
    if x.dead = 3 then ringUnreachable s r
    else if x.broken then (if first then again (again s 0) 1 else s)
    else if x.detect ≠ 0 then s
    else recoverRead (recoverRead (s.setRing r { x with detect := 3 }) r 0) r 1

/-! ### Line rates (R72 to R74) -/

/-- Errors of the last 1,024 frames. -/
def errSum (l : List (Nat × Nat)) : Nat := (l.map (·.2)).sum

/-- The entries not older than 1,024 frames before `n`. -/
def recentFrames (n : Nat) (f : Nat) : Bool := decide (((n : Int) - (f : Int)) % 4294967296 < 1024)

/-- A RATE broadcast leaves at the sweep close (R74). -/
def rateCast (s : State) (r speed : Nat) : State :=
  let s := ringCast s r 0x09 [BitVec.ofNat 8 speed]
  s.setRing r { s.ring r with rateTo := some (speed, 0) }

/-- The rate a mode asks for. -/
def modeRate (m : Int) : Nat := if m = 2 then 1 else 0

/-- The error count and the protective limit are judged at the sweep close (R72, R73). As the pinned rate 0x0309 and 0x030A carry the
rate mode, 1 or 2: the spec gives that field no coding (DESIGN CHOICE 116). -/
def judgeRate (s : State) (r : Nat) (missing : Bool) : State :=
  let i := 0x3010 + r
  let n := s.frameNo
  let x := s.ring r
  let errs := x.errs.filter (fun p => recentFrames n p.1)
  let errs := if x.frameSkip ∨ x.frameErr = 0 then errs else errs ++ [(n, x.frameErr)]
  let miss := x.missFrames.filter (recentFrames n)
  let miss := if missing then miss ++ [n] else miss
  let sum := errSum errs
  let s := s.setRing r { x with errs := errs, missFrames := miss, frameErr := 0, frameSkip := false }
  let s := s.setObj i 5 (if sum < 65536 then sum else (Config.countBeyond sum : Nat))
  let mode := s.obj i 1
  if 16 ≤ sum ∧ mode = 0 ∧ s.obj i 2 = 0 ∧ x.rateTo.isNone then
    raiseRing (rateCast (s.setObj i 3 1) r 1) 0x0308 [d32 r, d16 (s.obj i 5)]
  else if mode = 1 ∧ s.obj i 2 = 0 ∧ x.rateTo.isNone ∧ s.obj 0x3000 4 ≤ (miss.length : Int) then
    raiseRing (rateCast ((s.setObj i 3 2).setObj i 18 mode) r 1) 0x030A [d32 r, d8 mode, d8 mode]
  else if (decide (16 ≤ sum) && decide (mode ≠ 0)
      && (match x.crcHigh with | some f => !recentFrames n f | none => true)) = true then
    raiseRing (s.setRing r { s.ring r with crcHigh := some n }) 0x0309 [d32 r, d16 (s.obj i 5), d8 mode]
  else s

/-- A rate change that waits, of an acknowledgement or of a written mode, leaves at the sweep close (R74). -/
def rateDue (s : State) (r : Nat) : State :=
  let i := 0x3010 + r
  let x := s.ring r
  if x.rateTo.isSome then s
  else if x.ack then
    let s := s.setRing r { x with ack := false, ackSent := true }
    rateCast s r (modeRate (if s.obj i 3 = 2 then s.obj i 18 else s.obj i 1))
  else if s.obj i 3 = 0 ∧ (modeRate (s.obj i 1) : Int) ≠ s.obj i 2 then rateCast s r (modeRate (s.obj i 1))
  else s

/-- Split parts of the ring at the rate in force, with the event where the mode is entered or left (R89). -/
def splitChange (s : State) (r : Nat) : State :=
  let k := splitParts s r (s.ring r).hmax
  let was := s.objN (0x3010 + r) 10
  let s := s.setObj (0x3010 + r) 10 k
  if decide (1 < k) = decide (1 < was) then s else raiseRing s 0x0313 [d32 r, d8 k]

/-- A port changes rate 4 µs after the RATE frame's EOF, or at the timeout; with both changed the rate is in force. -/
def execRingPortRateChange (ring : Fin 4) (port : Fin 2) (s : State) : Out :=
  onString s fun s =>
    let r := ring.val
    let x := s.ring r
    match x.rateTo with
    | none => s
    | some (speed, done) =>
      let done := done ||| 2 ^ port.val
      if done = 3 then splitChange ((s.setRing r { x with rateTo := none }).setObj (0x3010 + r) 2 speed) r
      else s.setRing r { x with rateTo := some (speed, done) }

/-- The frame boundary completes a return to the rate of the mode: the shadow applies and the event is written (R72,
R73). -/
def rateBoundary (s : State) (r : Nat) : State :=
  let i := 0x3010 + r
  let x := s.ring r
  if x.ackSent then
    let m := if s.obj i 3 = 2 then s.obj i 18 else s.obj i 1
    let s := s.setRing r { x with ackSent := false, rateTo := none }
    let s := splitChange (((s.setObj i 1 m).setObj i 3 0).setObj i 2 (modeRate m)) r
    raiseRing s 0x030B [d32 r, d8 (s.obj i 2)]
  else s

/-- A write of 1 to 0x3010 + r:4: it ends a fallback or an override at the next boundary. -/
def execRingRateAcknowledge (ring : Fin 4) (s : State) : Out :=
  onHost s fun s => hostWrite s (0x3010 + ring) 4 errOk fun s =>
    if s.obj (0x3010 + ring) 3 = 0 then s else s.setRing ring { s.ring ring with ack := true }

/-- The rate mode of ring r (R73): it takes effect, or goes to the shadow while an override holds. -/
def setRateMode (s : State) (r : Nat) (v : Int) : State :=
  let i := 0x3010 + r
  if s.obj i 3 = 2 then s.setObj i 18 v else (s.setObj i 1 v).setObj i 18 v

/-- A write of 0x3010 + r:1. -/
def execRingRateModeWrite (ring : Fin 4) (v : BitVec 8) (s : State) : Out :=
  onHost s fun s =>
    hostWrite s (0x3010 + ring.val) 1 (if v.toNat ≤ 2 then errOk else errRange) fun s => setRateMode s ring v.toNat

/-! ### The sweep close -/

/-- The hops the CM18 table names on ring r. -/
def cfgMask (s : State) (r : Nat) : Nat :=
  maskOf ((ringSlots s r).filterMap (fun k =>
    let h := s.objN (0x3100 + k) 2
    if 1 ≤ h ∧ h ≤ 12 then some h else none))

/-- Late and missing units are counted and recorded (R95). -/
def noteLate (s : State) (r mask n : Nat) : State :=
  if mask = 0 then s else
  let t := s.obj (0x3010 + r) 15 + popCount 12 mask
  raiseRing (s.setObj (0x3010 + r) 15 (if t < 4294967296 then t else (Config.countBeyond t.toNat : Nat)))
    0x030C [d32 r, d32 mask, d32 n]

/-- Missing units are counted and recorded (R95). -/
def noteMissing (s : State) (r mask n : Nat) : State :=
  if mask = 0 then s else
  let t := s.obj (0x3010 + r) 16 + popCount 12 mask
  raiseRing (s.setObj (0x3010 + r) 16 (if t < 4294967296 then t else (Config.countBeyond t.toNat : Nat)))
    0x030D [d32 r, d32 mask, d32 n]

/-- Units that gave no block for 0x3000:3 consecutive frames (R87). -/
def noteSilent (s : State) (r : Nat) (want gave : Nat) : State :=
  let lim := s.objN 0x3000 3
  let (s, re) := (hopsOf want).foldl (fun acc h =>
    let (s, re) := acc
    let x := s.ring r
    let n := if gave.testBit (h - 1) then 0 else storeGet (fun _ => 0) x.noResp h + 1
    let s := s.setRing r { x with noResp := storePut (fun _ => 0) x.noResp h n }
    if n = lim then
      (match slotAt s r h with | some k => raiseRing s 0x0312 [d32 k, d32 n] | none => s, true)
    else (s, re)) (s, false)
  if re then beginEnum s r else s

/-- The sweep closes: what is unread is late, what was late and is still unread is missing, and the marks go to AC3 through
lane 25 (R94, R95). -/
def execSweepClose (ring : Fin 4) (s : State) : Out :=
  onString s fun s =>
    let r := ring.val
    let n := s.frameNo
    if ringSt s r = 1 then
      let miss := cfgMask s r
      let seen := (s.ring r).seen
      let s := if seen then noteMissing s r miss n else s
      let s := s.setRing r { s.ring r with miss := (n, popCount 12 miss) }
      let s := lanePush s 25 (.nums [r, n, 0, miss, 0])
      if seen then rateDue (judgeRate s r (decide (miss ≠ 0))) r else s
    else if ringRuns s r n = false then s
    else
      let x := s.ring r
      let k := s.objN (0x3010 + r) 10
      let base := match x.syncs.head? with | some (f, _) => f | none => n
      let late := maskDiff (maskDiff x.want x.got) x.nosync
      let lost := maskDiff x.prevWant x.prevGot
      let absent := maskDiff (cfgMask s r) (maskOf (x.units.map (·.hop)))
      let missNow := x.nosync ||| absent
      let s := noteLate s r late base
      let s := noteMissing s r lost ((base + 4294967296 - k) % 4294967296)
      let s := noteMissing s r missNow base
      let s := lanePush s 25 (.nums [r, n, late, missNow, lost])
      let s := s.setRing r { s.ring r with
        reads := []
        prevWant := late
        prevGot := 0
        dead := 0
        detect := 0
        miss := (n, popCount 12 (lost ||| missNow)) }
      let s := judgeRate s r (decide (lost ||| missNow ≠ 0))
      let s := rateDue s r
      let s := noteSilent s r x.want (x.gave ||| x.nosync)
      if x.recount ∧ maskDiff x.want (x.gave ||| x.nosync) ≠ 0 ∧ ringSt s r ≠ 1 then beginEnum s r else s

/-- A write of 1 to 0x3010 + r:17 (R87). -/
def execRingReenumerateWrite (ring : Fin 4) (s : State) : Out :=
  onHost s fun s => hostWrite s (0x3010 + ring) 17 errOk (fun s => beginEnum s ring)

/-! ### Park (R98 to R100) -/

/-- SLEEP_CFG with the settings of 0x3020, then SLEEP, to a ring (R98). -/
def ringSleep (s : State) (r : Nat) : State :=
  let p := leBytes 1 (s.obj 0x3020 1) ++ [0#8] ++ leBytes 2 (s.obj 0x3020 2) ++ leBytes 2 (s.obj 0x3020 3)
    ++ leBytes 1 (s.obj 0x3020 4) ++ leBytes 1 (s.obj 0x3020 5) ++ List.replicate 4 0#8
  ringCast (ringCast s r 0x0B p) r 0x0C []

/-- Park ends: the profile of 0x2003:0 is taken at the next boundary with reason 2 (R27). -/
def parkWake (s : State) : State :=
  if s.profile = 3 then { s with frame := { s.frame with change := some (s.objN 0x2003 0, 2) } } else s

/-- A wake tone on an enabled port (R99). -/
def execWakeToneDetected (ring : Fin 4) (port : Fin 2) (cause : BitVec 8) (s : State) : Out :=
  onString s fun s =>
    if s.profile = 3 ∧ bitOf (s.obj 0x3020 6) ring then
      parkWake (raiseRing s 0x030F [d32 ring.val, d32 port.val, d32 cause.toNat])
    else s

/-- The active frame of Park is announced: IDLE on every ring from S − 200 µs (R27, R100). -/
def execParkActiveFrame (s : State) : Out :=
  onHost s fun s =>
    if s.profile = 3 then
      let s := { s with rings := { s.rings with active := some ((s.frameNo + 1) % 4294967296) } }
      (List.range 4).foldl (fun s r =>
        if 2 ≤ ringSt s r then ringSend (ringSend s r 0 [0xBC#8, 0xC5#8]) r 1 [0xBC#8, 0xC5#8] else s) s
    else s

end Sys2Proof.Machine
end

