-- ==== Sys2Proof/Machine/Image.lean ====
section
/-!
DEFINITION. The cell channels: blocks into the measurement arrays, status, uncertainty and the filtered channel (R107 to R110,
R122, R125 to R127), the open-wire tests and the estimation of cells at a broken tap (R128 to R134).
Marks (notes/assumptions): DEDUCED 37, 38, 40; DESIGN CHOICE 121, 138, 139, 160, 163, 165.
-/
namespace Sys2Proof.Machine

/-! ### Cells and slots -/

/-- Cell position n. -/
def State.cell (s : State) (n : Nat) : Cell := storeGet (fun _ => {}) s.cells.cells n

/-- Stores cell position n. -/
def State.setCell (s : State) (n : Nat) (x : Cell) : State :=
  { s with cells := { s.cells with cells := storePut (fun _ => {}) s.cells.cells n x } }

/-- The open-wire and block state of slot k. -/
def State.wire (s : State) (k : Nat) : WireSt := storeGet (fun _ => {}) s.cells.wires k

/-- Stores the state of slot k. -/
def State.setWire (s : State) (k : Nat) (x : WireSt) : State :=
  { s with cells := { s.cells with wires := storePut (fun _ => {}) s.cells.wires k x } }

/-- Slot k is in use (R85). -/
def slotUsed (s : State) (k : Nat) : Bool := decide (s.obj (0x3100 + k) 1 ≠ 255)

/-- The mapped channels of slot k with their positions, in rising channel order (R85). -/
def slotCells (s : State) (k : Nat) : List (Nat × Nat) :=
  if slotUsed s k then
    let m := s.objN (0x3100 + k) 5
    ((List.range 18).filter (fun c => m.testBit c)).zipIdx.map (fun p => (p.1, s.objN (0x3100 + k) 4 + p.2))
  else []

/-- Every position with its slot and channel. -/
def allCells (s : State) : List (Nat × Nat × Nat) :=
  (List.range 40).flatMap (fun k => (slotCells s k).map (fun p => (p.2, k, p.1)))

/-- The slot of a position. -/
def slotOf (s : State) (n : Nat) : Nat := match (allCells s).find? (fun p => p.1 == n) with | some (_, k, _) => k | none => 40

/-- A bit of a cell's status word (R110). -/
def cellBit (s : State) (n b : Nat) : Bool := bitOf (s.obj 0x3804 n) b

/-- Sets or clears a bit of a cell's status word. -/
def setCellBit (s : State) (n b : Nat) (on : Bool) : State := s.setObjBit 0x3804 n b on

/-- The unit of slot k has been found at its place (outcome 2 or 3) and its ring runs (R86, R87). -/
def slotLive (s : State) (k : Nat) : Bool :=
  decide (2 ≤ ringSt s (s.objN (0x3100 + k) 1)) && (s.obj (0x3100 + k) 14 == 2 || s.obj (0x3100 + k) 14 == 3)

/-! ### Open-wire orders (R128, R130) -/

/-- Every tap adjacent to a mapped channel. -/
def allTaps (s : State) (k : Nat) : Nat :=
  let m := s.objN (0x3100 + k) 5 % 262144
  m ||| (2 * m)

/-- The tap that has waited longest is tested at the next release, alone, unless an on-demand test is pending (R130). -/
def startDemand (s : State) (k : Nat) : State :=
  let w := s.wire k
  match w.demand, w.queue with
  | false, t :: r => s.setWire k { w with due := 2 ^ t, go := false, demand := true, queue := r, deferred := w.deferred || decide (w.due ≠ 0) }
  | _, _ => s

/-- An on-demand test of one tap: at the next release, or after those that wait (R130). -/
def orderTap (s : State) (k t : Nat) : State :=
  let w := s.wire k
  if w.queue.contains t ∨ (w.demand ∧ (w.due = 2 ^ t ∨ w.taps = 2 ^ t)) then s
  else startDemand (s.setWire k { w with queue := w.queue ++ [t] }) k

/-- A scheduled cycle on slot k. -/
def orderCycle (s : State) (k : Nat) : State := s.setWire k { s.wire k with due := allTaps s k, go := false }

/-- A cycle on every ring begins. -/
def beginCycles (s : State) : State :=
  let used := (List.range 40).filter (slotUsed s)
  let s := { s with cells := { s.cells with owtC := s.clk.c, owtOpen := used, owtLater := false } }
  used.foldl orderCycle s

/-- An on-demand test of some unit is pending. -/
def demandPending (s : State) : Bool := ((List.range 40).filter (slotUsed s)).any (fun k => (s.wire k).demand)

/-- A scheduled cycle falls due: none in Park (R128); while an on-demand test is pending it waits for that test's result (R130). -/
def startCycles (s : State) : State :=
  if s.profile = 3 then s
  else if demandPending s then { s with cells := { s.cells with owtLater := true } }
  else beginCycles s

/-- At the seal the orders of the image become part of what the next release sends (R35; the worked example of R131 to R134 sends the
test that the image of frame n has ordered at S(n + 2) + 10 µs). -/
def sealOwt (s : State) : State :=
  ((List.range 40).filter (slotUsed s)).foldl (fun s k =>
    let w := s.wire k
    if w.due = 0 then s else s.setWire k { w with go := true }) s

/-- The open-wire interval expires. -/
def execOpenWireCycle (s : State) : Out := onHost s startCycles

/-- A write of 1 to 0x3830:2. -/
def execOpenWireTestNow (s : State) : Out := onHost s fun s => hostWrite s 0x3830 2 errOk startCycles

/-- The words of a broadcast with 4 bytes per unit, in West-hop order (R78). -/
def unitWords (s : State) (r : Nat) (f : Nat → Nat) : List Byte :=
  (List.range (s.ring r).hmax).flatMap (fun i =>
    match slotAt s r ((s.ring r).hmax - i) with
    | some k => leBytes 4 (f k : Int)
    | none => leBytes 4 0)

/-- OWT leaves from the West port of each ring with a cycle due, on the card that drives the rings; the other notes the order, whose
results it reads from the blocks it receives (R128, R129). On a broken ring it leaves from both ends, as BAL does: R128 names the West
port alone, which reaches only one half of it (DESIGN CHOICE 163). -/
def sendOwt (s : State) (r : Nat) : State :=
  let ks := (ringSlots s r).filter (fun k => (s.wire k).due ≠ 0 && (s.wire k).go)
  if ks = [] ∨ ringSt s r < 2 ∨ s.profile = 3 then s else
  let pay := unitWords s r (fun k => if (s.wire k).go then (s.wire k).due else 0)
  let s := (if (s.ring r).broken then [0, 1] else [1]).foldl (fun s p => ringCommand s r p 0x07 0xFF 0 0 0 pay) s
  ks.foldl (fun s k =>
    let w := s.wire k
    s.setWire k { w with before := (w.taps, w.sentAt), taps := w.due, due := 0, go := false, sentAt := s.frameNo, sel5 := none, sel6 := none }) s

/-! ### BAL (R78, R88, R181, R184) -/

/-- u_max = floor(64 × (T_F − 20 µs) / T_F) (R184). -/
def bleedMax (s : State) : Nat := 64 * (s.objN 0x2011 0 - 20) / s.objN 0x2011 0

/-- A unit's word in BAL (R78). -/
def balWord (p : Nat × Nat) : Nat := p.1 + p.2 * 262144

/-- BAL leaves the West port of a ring, and in broken mode both ends (R88, R93, R186). -/
def sendBal (s : State) (r : Nat) (word : Nat → Nat × Nat) : State :=
  let pay := unitWords s r (fun k => balWord (word k))
  let s := (if (s.ring r).broken then [0, 1] else [1]).foldl (fun s p => ringCommand s r p 0x06 0xFF 0 0 0 pay) s
  (ringSlots s r).foldl (fun s k =>
    let w := s.wire k
    let (m, u) := word k
    s.setWire k { w with cmds := ((s.frameNo, m, u) :: w.cmds.filter (fun p => p.1 != s.frameNo)).take 3 }) s

/-- A ring is put to sleep: one BAL with every mask zero goes before SLEEP (R98, R181). -/
def sleepRing (s : State) (r : Nat) : State := ringSleep (sendBal s r (fun _ => (0, bleedMax s))) r

/-- Every ring that runs or is being enumerated is put to sleep. -/
def sleepRings (s : State) : State := (List.range 4).foldl (fun s r => if 1 ≤ ringSt s r then sleepRing s r else s) s

/-! ### A block enters the arrays (R79, R107, R122) -/

/-- The 24-bit word of channel c in a block. -/
def blockCell (b : List Byte) (c : Nat) : Nat := getLe b (6 + 3 * c) 3

/-- The I12 temperature of channel j, none at 0x800 (R79). -/
def blockTemp (b : List Byte) (j : Nat) : Option Int :=
  let v := getLe b 60 6 / 4096 ^ j % 4096
  if v = 2048 then none else some (toS 12 v)

/-- The stack check of a unit on a block of selector 0. -/
def stackCheck (s : State) (k : Nat) (b : List Byte) (v : Nat) : State :=
  let sum : Int := ((List.range 18).map (fun c => (blockCell b c / 4 : Nat))).foldl (fun a c => a + (c : Nat)) 0
  let diff : Int := (v : Int) * 5000 - sum * 5
  let tenth := clampI (-32768) 32767 (divRne diff 400)
  let bad := decide (60000 < diff.natAbs)
  let w := s.wire k
  let s := (s.setObj 0x3820 (k + 1) v).setObj 0x3821 (k + 1) tenth
  let s := s.setWire k { w with stackBad := bad, stackDiff := diff }
  if bad ∧ w.stackBad = false then raiseFe s 0x0408 [d32 k, d16 tenth] else s

/-- The reference check of a unit on a block of selector 1: soft 100 µV, hard 400 µV. -/
def refCheck (s : State) (k : Nat) (v : Int) : State :=
  let w := s.wire k
  let soft := decide (80 < v.natAbs)
  let hard := decide (320 < v.natAbs)
  let s := (s.setObj 0x3822 (k + 1) v).setWire k { w with refBad := soft, refHard := hard, refDev := v }
  let s := if soft ∧ w.refBad = false then raiseFe s 0x0407 [d32 k, d16 v] else s
  let s := if hard ∧ w.refHard = false then raiseFe s 0x0405 [d32 k, d16 v, d32 320] else s
  hardCause s

/-- The rotating value of a unit's block (R79). -/
def rotating (s : State) (k : Nat) (b : List Byte) (frame : Nat) : State :=
  let v := getLe b 66 2
  let w := s.wire k
  match (b.headD 0#8).toNat % 16 with
  | 0 => stackCheck s k b v
  | 1 => refCheck s k (toS 16 v)
  | 2 => s.setWire k { w with die := some (toS 16 v) }
  | 3 => s.setWire k { w with readLow := some v, low3 := some frame }
  | 4 => (s.setWire k { w with readHigh := some (v % 4), readOn := some (v / 4 % 64), high4 := some frame }).setObj 0x4620 (k + 1) (v / 4 % 64 : Nat)
  | 5 => s.setWire k { w with sel5 := some (v, frame) }
  | 6 => s.setWire k { w with sel6 := some (v, frame) }
  | 7 => s.setWire k { w with rest := ((b.getD 5 0#8).toNat.testBit 3, v) }
  | _ => s

/-! ### Estimated cells (R133) -/

/-- The taps confirmed open of slot k. -/
def openMap (s : State) (k : Nat) : Nat := s.objN 0x3823 (k + 1)

/-- The group of channels joined to channel c by broken taps: its lowest and highest channel. -/
def groupOf (m c : Nat) : Nat × Nat :=
  let lo := (List.range (c + 1)).foldl (fun acc i => let t := c - i; if acc = t ∧ m.testBit t ∧ 0 < t then t - 1 else acc) c
  let hi := (List.range (18 - c)).foldl (fun acc i => let t := c + 1 + i; if acc + 1 = t ∧ m.testBit t ∧ t < 18 then t else acc) c
  (lo, hi)

/-- The channels of the group of channel c. -/
def groupChans (s : State) (k c : Nat) : List Nat :=
  let (lo, hi) := groupOf (openMap s k) c
  (List.range (hi + 1 - lo)).map (· + lo)

/-- The group of channel c reaches a broken end tap and rests on the stack voltage. -/
def onStack (s : State) (k c : Nat) : Bool :=
  let m := openMap s k
  let (lo, hi) := groupOf m c
  (decide (lo = 0) && m.testBit 0) || (decide (hi = 17) && m.testBit 18)

/-- The weight a channel with the readings `counts` has in its group: the last filtered value before CHECK, or its own reading where it
is not mapped. A mapped cell on which CHECK was never set has its present filtered value for weight (DESIGN CHOICE 121). -/
def groupWeight (s : State) (k : Nat) (counts : List Nat) (c : Nat) : Nat :=
  match (slotCells s k).find? (fun p => p.1 == c) with
  | some (_, n) => if (s.cell n).lastGood = 0 then s.objN 0x3801 n else (s.cell n).lastGood
  | none => counts.getD c 0 * 10

/-- The sum of the group of channel c on a block's readings, in 0.125 µV: measured, or the stack voltage less the other channels. -/
def groupSum (s : State) (k : Nat) (counts : List Nat) (c : Nat) : Nat :=
  let chans := groupChans s k c
  let raw (i : Nat) : Nat := counts.getD i 0 * 10
  if onStack s k c then
    s.objN 0x3820 (k + 1) * 10000 - (((List.range 18).filter (fun i => !(chans.contains i))).map raw).sum
  else (chans.map raw).sum

/-- The estimate of a cell at a broken tap on a block's readings, in 0.125 µV. -/
def estimateOf (s : State) (k : Nat) (counts : List Nat) (c : Nat) : Nat :=
  let tot := ((groupChans s k c).map (groupWeight s k counts)).sum
  if tot = 0 then 0 else (divRne ((groupSum s k counts c * groupWeight s k counts c : Nat) : Int) tot).toNat

/-- Channel c of slot k lies beside a broken tap. -/
def besideOpen (s : State) (k c : Nat) : Bool := (openMap s k).testBit c || (openMap s k).testBit (c + 1)

/-- The cell of channel c is estimated, not measured. -/
def estimated (s : State) (k c n : Nat) : Bool := cellBit s n 4 && besideOpen s k c

/-- The ratio in use of a cell with value v, in 1/65,536; 0 where it is measured. -/
def pairRatio (s : State) (k : Nat) (counts : List Nat) (c n v : Nat) : Int :=
  let sum := groupSum s k counts c
  if estimated s k c n = false ∨ sum = 0 then 0 else clampI 0 65535 (divRne ((v * 65536 : Nat) : Int) sum)

/-- The raw counts of a block's 18 channels. -/
def blockCounts (b : List Byte) : List Nat := (List.range 18).map (fun c => blockCell b c / 4)

/-- The sample a block gives a cell: its reading, or the estimate made of the same block's readings (R107, R133). -/
def sampleOf (s : State) (k n c : Nat) (b : List Byte) (frame : Nat) (at_ : Int) : Samp :=
  let word := blockCell b c
  let est := estimated s k c n
  let v := if est then estimateOf s k (blockCounts b) c else word / 4 * 10
  { frame := frame, at_ := at_, v := v, ok := decide ((s.cell n).checks = 0) && (est || decide (word % 4 = 0)) }

/-- A value and marks of one cell from a block: bits INVALID, OUTRANGE and SYNCCRC are the block's own, NOCOH is that of the sample's own
instant; a late value enters unless a newer one stands (R95, R107, R110). `after` names the frame in which a sample came in that missed
the image of its own frame. A cell beside a broken tap with a second fault keeps its
value (R132). -/
def takeCell (s : State) (k n c : Nat) (b : List Byte) (frame : Nat) (at_ : Int) (late : Bool) (after : Option Nat) : State :=
  let x := s.cell n
  if x.hold then s else
  let word := blockCell b c
  let h := { sampleOf s k n c b frame at_ with late := after }
  let hist := h :: x.hist.filter (fun p => p.frame != frame)
  if late ∧ x.held ∧ at_ < x.instant.2 then s.setCell n { x with hist := hist } else
  let s := s.setCell n { x with hist := hist, instant := (frame, at_), held := true }
  let s := (s.setObj 0x3800 n h.v).setObj 0x3806 n (pairRatio s k (blockCounts b) c n h.v)
  let s := setCellBit (setCellBit s n 6 (word % 2 == 1)) n 5 (word / 2 % 2 == 1)
  let s := setCellBit s n 7 ((b.getD 5 0#8).toNat.testBit 7)
  let s := setCellBit s n 13 (!(bitOf (statusAt s frame) 0))
  let s := setCellBit s n 14 (!late && decide (frame ≠ s.cells.imageFrame))
  setCellBit s n 0 late

/-- One element of lanes 20 to 23; `after` as for a cell. What a late block carries for its unit stands unless a newer block has been
taken. -/
def takeElem (after : Option Nat) (s : State) (e : Elem) : State :=
  match e with
  | .bytes l =>
    let b := l.take 72
    match slotAt s (getLe l 72 1) (getLe l 73 1) with
    | none => s
    | some k =>
      let late := getLe l 74 1 % 2 == 1
      let frame := getLe l 76 4
      let at_ : Int := (getLe l 80 6 : Nat) * 1000000000 + (getLe l 86 4 : Nat)
      let s := (slotCells s k).foldl (fun s p => takeCell s k p.2 p.1 b frame at_ late after) s
      let s := rotating s k b frame
      if late ∧ at_ ≤ (s.wire k).countsAt then s else
      let w := s.wire k
      let temps := (List.range 4).map (blockTemp b)
      let flags := (b.getD 5 0#8).toNat
      let s := s.setWire k { w with counts := blockCounts b, countsAt := at_, temps := temps,
                                    paused := flags.testBit 1,
                                    rest := if flags.testBit 3 then w.rest else (false, 0),
                                    cap := if flags.testBit 0 = w.cap.1 then w.cap else (flags.testBit 0, 0) }
      temps.zipIdx.foldl (fun s p =>
        let j := 4 * k + p.2 + 1
        match p.1 with
        | some t => (s.setObj 0x3810 j t).setObj 0x3811 j 0
        | none => s.setObj 0x3811 j 1) s
  | _ => s

/-- Late and missing marks of one ring, from lane 25, for the image of frame `frame`. A cell whose sample of the frame before never came
is missing, unless it holds that of the frame itself (R95). -/
def takeMarks (frame : Nat) (s : State) (e : Elem) : State :=
  match e with
  | .nums [r, _, late, miss, lost] =>
    (ringSlots s r.toNat).foldl (fun s k =>
      let h := s.objN (0x3100 + k) 2
      let bit (m : Int) : Bool := decide (1 ≤ h) && m.toNat.testBit (h - 1)
      let s := (slotCells s k).foldl (fun s p =>
        let s := if bit late then setCellBit s p.2 0 true else s
        let gone := bit lost && decide ((s.cell p.2).instant.1 ≠ frame)
        if bit miss || gone then setCellBit s p.2 1 true else s) s
      if bit miss then (List.range 4).foldl (fun s j => s.setObj 0x3811 (4 * k + j + 1) 2) s else s) s
  | _ => s

/-! ### Deviations (R131) -/

/-- Median of a list of numbers: the mean of the middle two where their count is even. -/
def medianR (l : List Nat) : Rat :=
  let srt := l.mergeSort (fun a b => decide (a ≤ b))
  let n := srt.length
  if n = 0 then 0 else if n % 2 = 1 then (srt.getD (n / 2) 0 : Rat)
  else ((srt.getD (n / 2 - 1) 0 : Rat) + (srt.getD (n / 2) 0 : Rat)) / 2

/-- The raw deviation of each mapped cell of a slot from the unit's median, µV. -/
def deviations (s : State) (k : Nat) : List (Nat × Nat × Rat) :=
  let cs := slotCells s k
  let v (c : Nat) : Nat := (s.wire k).counts.getD c 0 * 10
  let m := medianR (cs.map (fun p => v p.1))
  cs.map (fun p => (p.1, p.2, ((v p.1 : Rat) - m) / 8))

/-- The deviation of a channel, none where it is not mapped. -/
def devOf (d : List (Nat × Nat × Rat)) (c : Nat) : Option (Nat × Rat) := (d.find? (fun p => p.1 == c)).map (·.2)

/-- Opposite deviations at tap t: the positions and deviations of the two cells (R131). -/
def opposite (s : State) (d : List (Nat × Nat × Rat)) (t : Nat) : Option ((Nat × Rat) × (Nat × Rat)) :=
  let lim : Rat := s.obj 0x3830 5
  if t = 0 then none else
  match devOf d (t - 1), devOf d t with
  | some a, some b => if (lim < a.2 ∧ b.2 < -lim) ∨ (lim < b.2 ∧ a.2 < -lim) then some (a, b) else none
  | _, _ => none

/-- CHECK on one cell, for tap t. -/
def markCheck (s : State) (t : Nat) (p : Nat × Rat) : State :=
  let x := s.cell p.1
  let good := if x.lastGood = 0 then s.objN 0x3801 p.1 else x.lastGood
  let s := s.setCell p.1 { x with checks := x.checks ||| 2 ^ t, lastGood := good,
                                  hist := x.hist.map (fun h => if h.frame = x.instant.1 then { h with ok := false } else h) }
  setCellBit s p.1 11 true

/-- The deviations of a slot's cells, and the checks of the taps at which opposite ones first appear (R131). -/
def slotDeviations (s : State) (k : Nat) : State :=
  if slotLive s k = false ∨ (s.wire k).counts = [] then s else
  let d := deviations s k
  let s := d.foldl (fun s p => s.setObj 0x3805 p.2.1 (roundRne p.2.2)) s
  let opp := ((List.range 19).filter (fun t => (opposite s d t).isSome)).foldl (fun m t => m + 2 ^ t) 0
  let fresh := maskDiff (maskDiff opp (s.wire k).opp) (openMap s k)
  let s := s.setWire k { s.wire k with opp := opp }
  ((List.range 19).filter (fun t => fresh.testBit t)).foldl (fun s t =>
    match opposite s d t with
    | some (a, b) => orderTap (markCheck (markCheck s t a) t b) k t
    | none => s) s

/-- The slot an element of lanes 20 to 24 is of. -/
def elemSlot (s : State) (e : Elem) : Option Nat :=
  match e with
  | .bytes b => slotAt s (getLe b 72 1) (getLe b 73 1)
  | _ => none

/-- What enters the arrays in the frame in which it is read: a late element, and one of a later part of a split sweep, which names an
earlier frame (R89, R95, R107). -/
def atOnce (s : State) (e : Elem) : Bool :=
  match e with
  | .bytes b => getLe b 74 1 % 2 == 1 || getLe b 76 4 != s.frameNo
  | _ => false

/-- Elements that enter the arrays as they come, before the next image is assembled; their slots' deviations are judged with them (R95,
R107, R131, R338). -/
def takeLate (s : State) (r : Nat) : State :=
  let l := s.lane (20 + r)
  let now := l.elems.filter (atOnce s)
  if now = [] then s else
  let s := s.setLane (20 + r) { l with elems := l.elems.filter (fun e => !(atOnce s e)) }
  let s := now.foldl (takeElem (some s.frameNo)) s
  ((List.range 40).filter (fun k => now.any (fun e => elemSlot s e == some k))).foldl slotDeviations s

/-- A ring frame returns whole to a port; what need not wait for an image goes into the arrays at once (R95, R107). -/
def execRingFrameReceived (ring : Fin 4) (port : Fin 2) (bytes : List Byte) (violations : BitVec 16) (s : State) : Out :=
  onString s fun s => takeLate (ringFrame s ring.val port.val bytes violations.toNat) ring.val

/-- The estimates of a slot's suspect cells enter the frame channel with ESTIMATED, on the readings of the block read last. -/
def slotEstimates (s : State) (k : Nat) : State :=
  let counts := (s.wire k).counts
  (slotCells s k).foldl (fun s p =>
    let n := p.2
    let x := s.cell n
    if estimated s k p.1 n ∧ x.hold = false then
      let v := estimateOf s k counts p.1
      let s := (s.setObj 0x3800 n v).setObj 0x3806 n (pairRatio s k counts p.1 n v)
      let ok := decide (x.checks = 0)
      s.setCell n { x with hist := x.hist.map (fun h =>
        if h.frame = x.instant.1 then { h with v := v, ok := ok, fresh := true } else h) }
    else s.setObj 0x3806 n 0) s

/-! ### Uncertainty (R125 to R127), in µV -/

/-- Base accuracy of the frame channel and of the filtered channel in the profile (R102). -/
def cellBase (s : State) : Rat × Rat :=
  if s.profile = 3 then (2000, 2000) else if s.profile = 1 then (300, 300) else if s.profile = 2 then (300, 120) else (300, 80)

/-- The widening terms of every channel of a unit: die temperature, stack and reference. -/
def unitWiden (s : State) (k : Nat) : Rat :=
  let w := s.wire k
  let die : Rat := match w.die with
    | some t => if t < -320 then ((-320 - t : Int) : Rat) * 5 / 16 else if 960 < t then ((t - 960 : Int) : Rat) * 5 / 16 else 0
    | none => 0
  let stack : Rat := if w.stackBad then absR w.stackDiff / 8 else 0
  let ref : Rat := if w.refBad then absR w.refDev * 5 / 4 else 0
  die + stack + ref

/-- The widening terms of a measured cell of value `v`. -/
def cellWiden (s : State) (k n v : Nat) : Rat :=
  let high : Rat := if 36000000 < v then ((v - 36000000 : Nat) : Rat) * 20 / 800000 else 0
  let dev := absR (s.obj 0x3805 n)
  unitWiden s k + high + (if cellBit s n 11 then dev else 0) + (if cellBit s n 12 then dev / 2 else 0)

/-- The measured uncertainty of a channel of a unit. -/
def chanUnc (s : State) (k c : Nat) (b : Rat) : Rat :=
  let v := (s.wire k).counts.getD c 0 * 10
  match (slotCells s k).find? (fun p => p.1 == c) with
  | some (_, n) => b + cellWiden s k n v
  | none => b + unitWiden s k

/-- The uncertainty with base `b` of a cell of value `v`: that of an estimated cell is the sum of its group's measured ones, plus 0.05 %
of the group sum, or 10 mV more where it rests on the stack. -/
def cellUnc (s : State) (k c n v : Nat) (b : Rat) : Rat :=
  if estimated s k c n = false then b + cellWiden s k n v
  else if onStack s k c then b + cellWiden s k n v + 10000
  else ((groupChans s k c).map (fun i => chanUnc s k i b)).sum + (groupSum s k (s.wire k).counts c : Rat) / 8 / 2000

/-- A U16 object in µV, saturating. -/
def unc16 (q : Rat) : Int := clampI 0 65535 (roundRne q)

/-! ### The filtered channel (R108, R109) -/

/-- φ_k of the tones at a module time in ns: ((f·t) mod 10^12) / 10^12, f in mHz (R215). -/
def tonePhase (f : Nat) (t : Int) : Rat := ((f * t : Int) % 1000000000000 : Int) / (1000000000000 : Rat)

/-- The tone components of a cell at an instant, V: 2·Re(X·exp(j·2π·f·t)) of every valid bin, in Survey (R109, R166). -/
def toneComp (s : State) (x : Cell) (t : Int) : Rat :=
  if s.profile ≠ 2 then 0 else
  ((tonesOf s).map (fun p =>
    let b : Bin := storeGet (fun _ => {}) x.bins p.1
    if b.ok then
      let ph := tonePhase p.2 t
      2 * ((b.re : Rat) * sinTurn (ph + 1 / 4) - (b.im : Rat) * sinTurn ph) / 1000000000000
    else 0)).sum

/-- The samples of the window of 16 frames that ends with frame n. -/
def windowOf (x : Cell) (n : Nat) : List Samp := x.hist.filter (fun h => decide (((n : Int) - (h.frame : Int)) % 4294967296 < 16))

/-- Samples a split sweep of k parts latches in the window. -/
def latchedIn (k n : Nat) : Nat := ((List.range 16).filter (fun i => (n + 4294967296 - i) % 4294967296 % k == 0)).length

/-- The filtered value and its uncertainty; the settling mark where too few samples are included. -/
def filterCell (s : State) (k c n frame : Nat) : State :=
  let x := s.cell n
  let w := windowOf x frame
  let (fb, gb) := cellBase s
  let uf := cellUnc s k c n (s.objN 0x3800 n) fb
  let w := w.map (fun h =>
    if h.fresh then { h with u := cellUnc s k c n h.v fb, tone := toneComp s x h.at_, fresh := false } else h)
  let inc := w.filter (·.ok)
  let s := s.setObj 0x3802 n (unc16 uf)
  let parts := s.objN (0x3010 + s.objN (0x3100 + k) 1) 10
  let enough := if parts ≤ 1 then decide (12 ≤ inc.length) else decide (3 * latchedIn parts frame ≤ 4 * inc.length)
  let raw := s.profile = 1 ∨ s.profile = 3 ∨ inc = []
  let v : Int := if raw then s.obj 0x3800 n else roundRne (meanR (inc.map (fun h => (h.v : Rat) - h.tone * 8000000)))
  let settling := decide raw || !enough || decide (0 < s.frame.settling)
  let ug := if settling then uf
    else if cellBit s n 4 then cellUnc s k c n (s.objN 0x3800 n) gb
    else meanR (inc.map (·.u)) * gb / fb
  let s := setCellBit ((s.setObj 0x3801 n v).setObj 0x3803 n (unc16 ug)) n 2 settling
  s.setCell n { x with hist := w }

/-! ### The image of frame n -/

/-- Marks that hold for one frame are cleared; cells whose unit gives nothing are missing. -/
def openMarks (s : State) (p : Nat × Nat × Nat) : State :=
  let (n, k, _) := p
  let s := s.setCell n { s.cell n with prevBad := [0, 1, 4].any (cellBit s n) }
  let s := setCellBit s n 0 false
  setCellBit s n 1 (!(slotLive s k) || (s.cell n).hold)

/-- STACK, REFDRIFT and PRIOR of a cell (R107, R110). -/
def closeMarks (s : State) (frame : Nat) (p : Nat × Nat × Nat) : State :=
  let (n, k, c) := p
  let w := s.wire k
  let x := s.cell n
  let s := setCellBit (setCellBit s n 9 (w.stackBad || x.hold)) n 8 w.refBad
  let s := setCellBit s n 14 (x.held && decide (x.instant.1 ≠ frame) && !(cellBit s n 0) && !(cellBit s n 1))
  filterCell s k c n frame

/-- Check 1 of a frame and the running calibrations (R117, R119). As V_S and I_S checks 1 and 2 take the frame means: R119 says which
value only for the cells and for check 3 (DESIGN CHOICE 165). -/
def cellChecks (s : State) : State :=
  let ns := (List.range s.cellCount).map (· + 1)
  let sumF : Rat := (ns.map (fun n => (s.obj 0x3801 n : Rat) / 8000000)).sum
  let sum : Rat := (ns.map (fun n => (s.obj 0x3800 n : Rat) / 8000000)).sum
  let u : Rat := (ns.map (fun n => (s.obj 0x3802 n : Rat) / 1000000)).sum
  let iS := s.objF 0x3410 3
  let r := s.objF 0x3450 1 / 1000
  let vS := s.objF 0x3430 3
  let present := ns.all (fun n => !(cellBit s n 1))
  let s := if present && !(chanDead (s.chan 2)) && !(chanDead (s.chan 0)) && decide (ns ≠ []) then
      addCheck s 1 (vS - sum - iS * r) (3 / 2 * (s.objF 0x3430 4 + u + absR iS * r / 5)) (sum + iS * r)
        (vS / (1 + s.objF 0x3430 12 / 1000000))
    else s
  calFrame (calFrame (frameChecks s) 2 sumF) 3 sumF

/-- The cells' part of the image of frame n (R107, R338). -/
def imageCells (s : State) (frame : Nat) : State :=
  let cells := allCells s
  let s := { s with cells := { s.cells with imageFrame := frame } }
  let s := cells.foldl openMarks s
  let (marks, s) := laneDrain s 25
  let s := [20, 21, 22, 23].foldl (fun s n => let (es, s) := laneDrain s n; es.foldl (takeElem none) s) s
  let s := marks.foldl (takeMarks frame) s
  let s := ((List.range 40).filter (slotUsed s)).foldl slotDeviations s
  let s := cells.foldl (fun s p => closeMarks s frame p) s
  cellChecks s

/-! ### Open-wire results (R130 to R134) -/

/-- SUSPECT, and ESTIMATED or INVALID with no estimate, on a cell at the confirmed tap t. -/
def markOpen (s : State) (t n : Nat) (second : Bool) : State :=
  let x := s.cell n
  let m := maskDiff x.checks (2 ^ t)
  let s := s.setCell n { x with checks := m, hold := x.hold || second }
  let s := setCellBit (setCellBit (setCellBit s n 3 true) n 11 (m != 0)) n 10 false
  let s := setCellBit s n 12 false
  if second then setCellBit (setCellBit (setCellBit (setCellBit s n 6 true) n 9 true) n 1 true) n 4 false
  else setCellBit s n 4 (!(s.cell n).hold)

/-- A confirmed open tap: verdict 1 broken sense tap, 2 broken end tap, 3 broken tap and a second fault (R132). -/
def confirmTap (s : State) (k t : Nat) : State :=
  let w := s.wire k
  let ns := (slotCells s k).filterMap (fun p => if p.1 = t ∨ p.1 + 1 = t then some p.2 else none)
  let verdict : Nat := if w.stackBad then 3 else if t = 0 ∨ t = 18 then 2 else 1
  let s := ns.foldl (fun s n => markOpen s t n w.stackBad) s
  let s := s.setObj 0x3823 (k + 1) (setBit (s.obj 0x3823 (k + 1)) t true)
  let s := raiseFe s 0x0409 ([d32 k, d32 t] ++ ns.map (fun (n : Nat) => d32 n) ++ [d32 verdict])
  if w.stackBad then raiseFe s 0x0408 [d32 k, d16 (s.obj 0x3821 (k + 1))] else s

/-- CHECK clears on the cells of a tap. -/
def clearCheck (s : State) (ns : List Nat) (t : Nat) : State :=
  ns.foldl (fun s n =>
    let x := s.cell n
    if x.checks.testBit t = false then s else
    let m := maskDiff x.checks (2 ^ t)
    let s := s.setCell n { x with checks := m, lastGood := if m = 0 ∧ cellBit s n 3 = false then 0 else x.lastGood }
    setCellBit s n 11 (m != 0)) s

/-- TAPRES of a cell of channel c: a tap beside it has been judged of high resistance, and it is not SUSPECT (R132). -/
def showTapRes (s : State) (k c n : Nat) : State :=
  let m := (s.wire k).tapRes
  setCellBit s n 12 ((m.testBit c || m.testBit (c + 1)) && !(cellBit s n 3))

/-- Tap t is judged of high resistance, or no longer; its two cells show it. -/
def setTapRes (s : State) (k t : Nat) (on : Bool) : State :=
  let w := s.wire k
  let s := s.setWire k { w with tapRes := if on then w.tapRes ||| 2 ^ t else maskDiff w.tapRes (2 ^ t) }
  (slotCells s k).foldl (fun s p => if p.1 = t ∨ p.1 + 1 = t then showTapRes s k p.1 p.2 else s) s

/-- A tap whose open-wire result is negative is judged on the stack check and the readings (R132). -/
def judgeTap (s : State) (k t : Nat) : State :=
  let w := s.wire k
  let d := deviations s k
  let lim : Rat := s.obj 0x3830 5
  let ns := (slotCells s k).filterMap (fun p => if p.1 = t ∨ p.1 + 1 = t then some p.2 else none)
  if w.stackBad then clearCheck s ns t
  else match opposite s d t with
  | some (a, b) =>
    let c := storeGet (fun _ => 0) w.high t + 1
    let s := s.setWire k { w with high := storePut (fun _ => 0) w.high t c }
    if 3 ≤ c then
      let s := clearCheck s ns t
      if w.tapRes.testBit t then s else
      let s := setTapRes s k t true
      raiseFe s 0x040A [d32 k, d32 t, d32 (roundRne a.2), d32 (roundRne b.2)]
    else orderTap s k t
  | none =>
    let s := s.setWire k { w with high := storePut (fun _ => 0) w.high t 0 }
    let s := setTapRes (clearCheck s ns t) k t false
    match (if t = 0 then none else devOf d (t - 1)), devOf d t with
    | some a, some b =>
      let low (p q : Nat × Rat) (s : State) : State :=
        let is := decide (p.2 < -lim) && decide (absR q.2 ≤ 1000) && !(cellBit s p.1 3)
        if is ∧ cellBit s p.1 10 = false then
          raiseFe (setCellBit s p.1 10 true) 0x040B
            [d32 p.1, d32 (roundRne p.2), d32 (s.obj 0x3800 p.1 + s.obj 0x3800 q.1)]
        else if is = false ∧ cellBit s p.1 10 ∧ -lim ≤ p.2 then setCellBit s p.1 10 false else s
      low b a (low a b s)
    | _, _ => s

/-- A tap confirmed open that gives no positive result: after three clean cycles SUSPECT clears (R134). -/
def cleanTap (s : State) (k t : Nat) : State :=
  let w := s.wire k
  let d := deviations s k
  let c := if (opposite s d t).isSome then 0 else storeGet (fun _ => 0) w.clean t + 1
  if c < 3 then s.setWire k { w with clean := storePut (fun _ => 0) w.clean t c } else
  let s := s.setWire k { w with clean := storePut (fun _ => 0) w.clean t 0 }
  let s := s.setObj 0x3823 (k + 1) (setBit (s.obj 0x3823 (k + 1)) t false)
  let s := (slotCells s k).foldl (fun s p =>
    if (p.1 = t ∨ p.1 + 1 = t) ∧ besideOpen s k p.1 = false then
      let x := s.cell p.2
      let s := s.setCell p.2 { x with lastGood := if x.checks = 0 then 0 else x.lastGood, hold := false }
      let s := setCellBit (setCellBit s p.2 3 false) p.2 4 false
      showTapRes (if x.hold then setCellBit s p.2 6 false else s) k p.1 p.2
    else s) s
  raiseFe s 0x040A [d32 k, d32 t, d32 1]

/-- The result of a cycle is there: a pair of consecutive selector-5 and selector-6 blocks after its end, with a new test
count (R130). -/
def resultReady (s : State) (k : Nat) : Option (Nat × Nat) :=
  let w := s.wire k
  match w.sel5, w.sel6 with
  | some (v5, f5), some (v6, f6) =>
    let span := ((f5 : Int) - (w.sentAt : Int)) % 4294967296
    if w.taps ≠ 0 ∧ f6 = (f5 + 1) % 4294967296 ∧ f5 % 8 = 5 ∧ v6 / 256 ≠ w.count ∧ (popCount 19 w.taps : Int) < span
        ∧ span < 2147483648 then
      some (v5 + v6 % 8 * 65536, v6 / 256)
    else none
  | _, _ => none

/-- A slot's result of the cycle in course is in; with the last the cycle is complete (R128, R130): 0x3830:3 counts a cycle once every
slot named at its start has given its result, and :4 takes the image frame of the last (DESIGN CHOICE 160). -/
def cycleTaken (s : State) (k : Nat) : State :=
  let open' := s.cells.owtOpen
  let left := open'.filter (· != k)
  let s := { s with cells := { s.cells with owtOpen := left } }
  if open' = [] ∨ left ≠ [] then s else (s.bump 0x3830 3).setObj 0x3830 4 s.cells.imageFrame

/-- The judgement of one tap of a result (R130, R132, R134). -/
def takeTap (bits : Nat) (k : Nat) (s : State) (t : Nat) : State :=
  let w := s.wire k
  if bits.testBit t then
    let s := s.setWire k { w with clean := storePut (fun _ => 0) w.clean t 0 }
    if (openMap s k).testBit t then s
    else if w.once.testBit t then confirmTap (s.setWire k { s.wire k with once := maskDiff w.once (2 ^ t) }) k t
    else orderTap (s.setWire k { s.wire k with once := w.once ||| 2 ^ t }) k t
  else
    let s := s.setWire k { w with once := maskDiff w.once (2 ^ t) }
    if (openMap s k).testBit t then cleanTap s k t else judgeTap s k t

/-- A cycle's result is taken and each tap of it is judged; the verdicts stand in the image of the frame that gave it. -/
def execOpenWireResult (slot : Fin 40) (s : State) : Out :=
  onHost s fun s =>
    let k := slot.val
    match resultReady s k with
    | none => s
    | some (bits, count) =>
      let w := s.wire k
      let scheduled := !w.demand
      let s := s.setWire k { w with count := count, taps := 0, demand := false }
      let s := if scheduled then cycleTaken s k else s
      let s := startDemand (((List.range 19).filter (fun t => w.taps.testBit t)).foldl (takeTap bits k) s) k
      let w := s.wire k
      let s := if w.deferred ∧ w.demand = false then orderCycle (s.setWire k { w with deferred := false }) k else s
      let s := if s.cells.owtLater ∧ demandPending s = false then beginCycles s else s
      (slotCells s k).foldl (fun s p => filterCell s k p.1 p.2 s.cells.imageFrame) (slotEstimates s k)

end Sys2Proof.Machine
end

