-- ==== Sys2Proof/Machine/CellModel.lean ====
section
/-!
DEFINITION. The cell model of the estimator: OCV tables, impedance bands, capacity and the combination rule (R136, R137, R139,
R144, R165).
Marks (notes/assumptions): DEDUCED 42; DESIGN CHOICE 20.
-/
namespace Sys2Proof.Machine

/-- Full capacity in the units of z (R137). -/
def zOne : Int := 1000000000000

/-- A field of the status word under way (R168). -/
def statBit (x : Cell) (b : Nat) : Bool := bitOf x.stat b

/-- Sets or clears a bit of the status word under way. -/
def setStat (x : Cell) (b : Nat) (on : Bool) : Cell := { x with stat := setBit x.stat b on }

/-! ### OCV tables (R144, R145) -/

/-- Offset of the voltage of branch b (0 discharge, 1 charge), temperature row t and SoC point j. -/
def ocvOff (b t j : Nat) : Nat := 32 + 4 * ((b * 9 + t) * 101 + j)

/-- That voltage in 0.125 µV. -/
def ocvAt (l : List Byte) (b t j : Nat) : Nat := getLe l (ocvOff b t j) 4

/-- A temperature of the table, 0.1 °C. -/
def ocvTemp (l : List Byte) (t : Nat) : Int := toS 16 (getLe l (8 + 2 * t) 2)

/-- The first head field of a table that does not hold its value. -/
def ocvHeadBad (l : List Byte) : Option Nat :=
  ([(0, 2, 1), (2, 2, 32), (4, 1, 9), (5, 1, 101), (6, 1, 2)].find? (fun p => getLe l p.1 p.2.1 != p.2.2)).map (·.1)

/-- The first temperature of a table that is not above the one before it. -/
def ocvTempBad (l : List Byte) : Option Nat :=
  ((List.range 8).find? (fun t => decide (ocvTemp l (t + 1) ≤ ocvTemp l t))).map (fun t => 8 + 2 * (t + 1))

/-- The points of a table: branch, temperature, number. -/
def ocvPoints : List (Nat × Nat × Nat) :=
  (List.range 2).flatMap (fun b => (List.range 9).flatMap (fun t => (List.range 101).map (fun j => (b, t, j))))

/-- The point falls below the one before it, or the charge branch below the discharge branch. -/
def ocvPointBad (l : List Byte) (p : Nat × Nat × Nat) : Bool :=
  (decide (0 < p.2.2) && decide (ocvAt l p.1 p.2.1 p.2.2 < ocvAt l p.1 p.2.1 (p.2.2 - 1)))
    || (p.1 == 1 && decide (ocvAt l 1 p.2.1 p.2.2 < ocvAt l 0 p.2.1 p.2.2))

/-- The first byte that fails a check of a table of 7,308 bytes, none where all hold. -/
def ocvBad (l : List Byte) : Option Nat :=
  if l.length ≠ 7308 then some (if l.length < 7308 then l.length else 7308)
  else match ocvHeadBad l with
    | some o => some o
    | none =>
      match ocvTempBad l with
      | some o => some o
      | none =>
        match ocvPoints.find? (ocvPointBad l) with
        | some p => some (ocvOff p.1 p.2.1 p.2.2)
        | none => if crc32c (l.take 7304) = getLe l 7304 4 then none else some 7304

/-- The table of a cell's set, in force. -/
def tableOf (s : State) (n : Nat) : Option (List Byte) :=
  let b := s.dom (0x4020 + s.objN 0x4106 n) 1
  if b = [] then none else some b

/-- Row and weight of a temperature in 0.0625 °C, and whether it lies outside the table's span. -/
def tempRow (l : List Byte) (t : Rat) : Nat × Rat × Bool :=
  let d := t * 10 / 16
  if d < ocvTemp l 0 then (0, 0, true)
  else if (ocvTemp l 8 : Rat) < d then (7, 1, true)
  else
    let r := ((List.range 8).filter (fun k => decide ((ocvTemp l k : Rat) ≤ d))).length - 1
    (r, (d - ocvTemp l r) / ((ocvTemp l (r + 1) - ocvTemp l r : Int) : Rat), false)

/-- Point j of a branch at a temperature, in V. -/
def branchPoint (l : List Byte) (b : Nat) (t : Rat) (j : Nat) : Rat :=
  let (r, w, _) := tempRow l t
  ((1 - w) * ocvAt l b r j + w * ocvAt l b (r + 1) j) / 8000000

/-- Point j of E = s·Ec + (1 − s)·Ed, s in 1/65,536. -/
def ocvPoint (l : List Byte) (t : Rat) (sh : Nat) (j : Nat) : Rat :=
  let w : Rat := (sh : Rat) / 65536
  w * branchPoint l 1 t j + (1 - w) * branchPoint l 0 t j

/-- The segment of a state of charge and the place in it. -/
def zSegment (z : Int) : Nat × Rat :=
  let c := clampI 0 zOne z
  let j := (c / 10000000000).toNat
  let j := if 99 < j then 99 else j
  (j, ((c - j * 10000000000 : Int) : Rat) / 10000000000)

/-- E(z, T, s) in V. -/
def ocvE (l : List Byte) (z : Int) (t : Rat) (sh : Nat) : Rat :=
  let (j, w) := zSegment z
  (1 - w) * ocvPoint l t sh j + w * ocvPoint l t sh (j + 1)

/-- ∂E/∂z in V per unit of z. -/
def ocvSlope (l : List Byte) (z : Int) (t : Rat) (sh : Nat) : Rat :=
  let j := (zSegment z).1
  100 * (ocvPoint l t sh (j + 1) - ocvPoint l t sh j)

/-- The inverse of E: the first segment that holds the voltage; a flat segment gives its lower end. -/
def ocvInverse (l : List Byte) (v : Rat) (t : Rat) (sh : Nat) : Int :=
  if v ≤ ocvPoint l t sh 0 then 0 else
  match (List.range 100).find? (fun j => decide (v ≤ ocvPoint l t sh (j + 1))) with
  | none => zOne
  | some j =>
    let a := ocvPoint l t sh j
    let b := ocvPoint l t sh (j + 1)
    let w := if b = a then 0 else (v - a) / (b - a)
    roundRne (((j : Rat) + w) * 10000000000)

/-- Hysteresis span κ as a fraction. -/
def kappa (l : List Byte) : Rat := (getLe l 26 2 : Rat) / 100000

/-- Table uncertainty u_E in V, doubled where the temperature is held or outside the span (R135, R145). -/
def uTable (l : List Byte) (x : Cell) : Rat :=
  let u : Rat := (getLe l 28 2 : Rat) / 1000000
  let u := if x.tempHeld then 2 * u else u
  if (tempRow l x.temp).2.2 then 2 * u else u

/-- u_h = |Ec − Ed|·min(s, 1 − s). -/
def uHyst (l : List Byte) (z : Int) (t : Rat) (sh : Nat) : Rat :=
  let w : Rat := (sh : Rat) / 65536
  absR (ocvE l z t 65536 - ocvE l z t 0) * minR w (1 - w)

/-! ### Impedance (R165) -/

/-- The defaults 0x4060:5 to :9. -/
def defaultBand (s : State) : Band :=
  ⟨s.obj 0x4060 5, s.obj 0x4060 6, s.obj 0x4060 7, s.obj 0x4060 8, s.obj 0x4060 9⟩

/-- A band as it stands: the nearest fitted band stands in for one never fitted. -/
def bandAt (s : State) (x : Cell) (i : Nat) : Band :=
  match x.bands.getD i none with
  | some b => b
  | none =>
    let near := (List.range 8).filterMap (fun d =>
      match (if d ≤ i then x.bands.getD (i - d) none else none), x.bands.getD (i + d) none with
      | some b, _ => some b
      | none, some b => some b
      | none, none => none)
    near.headD (defaultBand s)

/-- The band that holds a temperature in 0.0625 °C. -/
def bandIx (t : Rat) : Nat := (clampI 0 7 (floorR ((t / 16 + 20) / 10))).toNat

/-- Two bands mixed. -/
def mixBand (a b : Band) (w : Rat) : Band :=
  let m (p q : Rat) : Rat := (1 - w) * p + w * q
  ⟨m a.rs b.rs, m a.ra b.ra, m a.ta b.ta, m a.rb b.rb, m a.tb b.tb⟩

/-- The parameters at T_n: linear between band centres. -/
def bandNow (s : State) (x : Cell) : Band :=
  let p := clampR 0 7 ((x.temp / 16 + 15) / 10)
  let i := (floorR p).toNat
  if 7 ≤ i then bandAt s x 7 else mixBand (bandAt s x i) (bandAt s x (i + 1)) (p - i)

/-- A value enters the band that holds T_n with weight 1/8. -/
def updateBand (s : State) (x : Cell) (f : Band → Band) : Cell :=
  let i := bandIx x.temp
  let b := bandAt s x i
  { x with bands := x.bands.set i (some (mixBand b (f b) (1 / 8))) }

/-! ### Capacity and uncertainty (R136, R139) -/

/-- Q in Ah: learned, or rated. -/
def capacity (s : State) (n : Nat) : Rat :=
  (if s.obj 0x4108 n = 0 then s.obj 0x4000 1 else s.obj 0x4108 n : Rat) / 1000

/-- u_Q in Ah: 3 % of the rated capacity while that stands in. -/
def capUnc (s : State) (n : Nat) : Rat :=
  if s.obj 0x4108 n = 0 then (s.obj 0x4000 1 : Rat) * 3 / 100000 else (s.obj 0x4109 n : Rat) / 1000

/-- U = min(100 %, 3·√P_zz + D). -/
def halfWidth (x : Cell) : Rat := minR 1 (3 * sqrtR x.p + x.d)

/-- The combination rule of R139: z is moved toward z_m of half-width U_m. -/
def combine (x : Cell) (zm : Int) (um : Rat) : Cell :=
  let u := halfWidth x
  let t := u * u + um * um
  if t = 0 then x else
  let k := u * u / t
  let u' := u * um / sqrtR t
  { x with z := x.z + roundRne (k * ((zm - x.z : Int) : Rat)), p := u' * u' / 9, d := 0, zva := 0, zvb := 0 }

/-- A cell is configured: rated capacity and an OCV table. -/
def cellConf (s : State) (n : Nat) : Bool := decide (s.obj 0x4000 1 ≠ 0) && (tableOf s n).isSome

/-- An event of the estimator engine that runs ring r. -/
def raiseEe (s : State) (r code : Nat) (flds : List Fld) : State := raise s code (4 + r) flds

/-- UNVERIFIED begins (R155): causes 1 SUSPECT, 2 ESTIMATED, 3 first estimate from the last branch. -/
def setUnverified (s : State) (r n cause : Nat) : State :=
  let x := s.cell n
  let x := if cause = 3 then { x with verified := false } else x
  if statBit x 12 then s.setCell n x else raiseEe (s.setCell n (setStat { x with verified := false } 12 true)) r 0x0511 [d32 n, d32 cause]

/-- UNVERIFIED follows the marks of R133: it begins with them, and clears when neither stands and z has been verified since it was
set (R155). -/
def unverifiedFrame (s : State) (r n : Nat) : State :=
  let x := s.cell n
  if cellBit s n 3 then setUnverified s r n 1
  else if cellBit s n 4 then setUnverified s r n 2
  else if x.verified then s.setCell n (setStat { x with verified := false } 12 false)
  else s

/-- An anchor or an authentication verifies z. -/
def verify (s : State) (r n : Nat) : State := unverifiedFrame (s.setCell n { s.cell n with verified := statBit (s.cell n) 12 }) r n

/-- Rated capacity in Ah. -/
def ratedAh (s : State) : Rat := (s.obj 0x4000 1 : Rat) / 1000

/-- Current of a cell, A. -/
def cellAmps (i : Rat) (ib : Int) : Rat := i - (ib : Rat) / 1000000

end Sys2Proof.Machine
end

