-- ==== Sys2Proof/Machine/Ecdsa.lean ====
section
/-!
DEFINITION. ECDSA verification over P-256 (R152, R327, R434), as FIPS 186-5 and SP 800-186 give it (PRESUMED: the spec names them and
does not restate them).
Marks (notes/assumptions): PRESUMED 14.
-/
namespace Sys2Proof.Machine

/-- The prime of the field. -/
def p256P : Nat := 2 ^ 256 - 2 ^ 224 + 2 ^ 192 + 2 ^ 96 - 1

/-- The order of the base point. -/
def p256N : Nat := 0xFFFFFFFF00000000FFFFFFFFFFFFFFFFBCE6FAADA7179E84F3B9CAC2FC632551

/-- The coefficient b of y² = x³ − 3x + b. -/
def p256B : Nat := 0x5AC635D8AA3A93E7B3EBBD55769886BC651D06B0CC53B0F63BCE3C3E27D2604B

/-- A point as X, Y, Z with x = X/Z² and y = Y/Z³; Z = 0 at infinity. -/
structure EcPoint where
  x : Nat
  y : Nat
  z : Nat
  deriving DecidableEq, Repr

/-- The base point. -/
def p256G : EcPoint :=
  ⟨0x6B17D1F2E12C4247F8BCE6E563A440F277037D812DEB33A0F4A13945D898C296,
   0x4FE342E2FE1A7F9B8EE7EB4A7C0F9E162BCE33576B315ECECBB6406837BF51F5, 1⟩

/-- The point at infinity. -/
def ecZero : EcPoint := ⟨1, 1, 0⟩

/-- a − b in the field. -/
def fpSub (a b : Nat) : Nat := (a + (p256P - b % p256P)) % p256P

/-- Twice a point. -/
def ecDouble (q : EcPoint) : EcPoint :=
  if q.z = 0 ∨ q.y = 0 then ecZero else
  let zz := q.z * q.z % p256P
  let yy := q.y * q.y % p256P
  let s := 4 * q.x * yy % p256P
  let m := 3 * fpSub q.x zz * (q.x + zz) % p256P
  let x := fpSub (m * m) (2 * s)
  ⟨x, fpSub (m * fpSub s x) (8 * yy * yy), 2 * q.y * q.z % p256P⟩

/-- The sum of two points. -/
def ecAdd (a b : EcPoint) : EcPoint :=
  if a.z = 0 then b else if b.z = 0 then a else
  let za := a.z * a.z % p256P
  let zb := b.z * b.z % p256P
  let ua := a.x * zb % p256P
  let ub := b.x * za % p256P
  let sa := a.y * zb % p256P * b.z % p256P
  let sb := b.y * za % p256P * a.z % p256P
  if ua = ub then (if sa = sb then ecDouble a else ecZero) else
  let h := fpSub ub ua
  let r := fpSub sb sa
  let hh := h * h % p256P
  let hhh := hh * h % p256P
  let v := ua * hh % p256P
  let x := fpSub (r * r) (hhh + 2 * v)
  ⟨x, fpSub (r * fpSub v x) (sa * hhh), a.z * b.z % p256P * h % p256P⟩

/-- The low `n` bits of `k` times a point, from the top bit down. -/
def ecTimes (q : EcPoint) (k : Nat) : Nat → EcPoint → EcPoint
  | 0, acc => acc
  | n + 1, acc => ecTimes q k n (if k.testBit n then ecAdd (ecDouble acc) q else ecDouble acc)

/-- The low `n` bits of `e` as an exponent of `a`, modulo `m`. -/
def powMod (a m e : Nat) : Nat → Nat → Nat
  | 0, acc => acc
  | n + 1, acc => powMod a m e n (if e.testBit n then acc * acc % m * a % m else acc * acc % m)

/-- A number from 32 bytes, big-endian. -/
def beAt (b : List Byte) (k : Nat) : Nat := beNat ((b.drop (32 * k)).take 32)

/-- The public key X, Y lies on the curve. -/
def ecKeyOk (key : List Byte) : Bool :=
  let x := beAt key 0
  let y := beAt key 1
  decide (key.length = 64) && decide (x < p256P) && decide (y < p256P)
    && y * y % p256P == (fpSub (x * x % p256P * x) (3 * x) + p256B) % p256P

/-- A signature r then s, 32 bytes each, big-endian, over a SHA-256 value verifies under the key X, Y. -/
def ecdsaValid (key hash sig : List Byte) : Bool :=
  let r := beAt sig 0
  let s := beAt sig 1
  if ecKeyOk key = false ∨ sig.length ≠ 64 ∨ r = 0 ∨ p256N ≤ r ∨ s = 0 ∨ p256N ≤ s then false else
  let w := powMod s p256N (p256N - 2) 256 1
  let u := beNat hash * w % p256N
  let v := r * w % p256N
  let q := ecAdd (ecTimes p256G u 256 ecZero) (ecTimes ⟨beAt key 0, beAt key 1, 1⟩ v 256 ecZero)
  let i := powMod q.z p256P (p256P - 2) 256 1
  decide (q.z ≠ 0) && q.x * (i * i % p256P) % p256P % p256N == r

end Sys2Proof.Machine
end

