-- ==== Sys2Proof/Machine/Auth.lean ====
section
/-!
DEFINITION. First estimates (R148 to R150, R155), the authentication of a CM18 (R152 to R154) and the ring sweep that carries
its commands (R88).
Marks (notes/assumptions): DEDUCED 42; DESIGN CHOICE 141, 142, 147.
-/
namespace Sys2Proof.Machine

/-! ### First estimates -/

/-- The measured voltage a first estimate uses, V. -/
def firstVolts (s : State) (n : Nat) : Rat := ((if s.profile = 1 then s.obj 0x3800 n else s.obj 0x3801 n : Int) : Rat) / 8000000

/-- The filtered uncertainty, V. -/
def firstUnc (s : State) (n : Nat) : Rat := ((if s.profile = 1 then s.obj 0x3802 n else s.obj 0x3803 n : Int) : Rat) / 1000000

/-- Unpowered days of the vault's count, none where it is not valid. -/
def vaultDays (s : State) : Option Rat :=
  if bitOf (s.obj 0x2070 1) 0 then some ((s.obj 0x2070 2 : Rat) / 86400) else none

/-- The credited rest time t_c in seconds (R149). -/
def restCredit (s : State) (n : Nat) (cause : Nat) : Nat :=
  let w := s.wire (slotOf s n)
  let a : Nat := if cause = 1 ∧ bitOf (s.obj 0x2070 1) 0 then s.objN 0x2070 2 * s.objN 0x4010 7 / 100 else 0
  let b : Nat := if w.rest.1 then 60 * w.rest.2 else 0
  if a < b then b else a

/-- The newer valid state block (R151). -/
def newestBlock (s : State) : Option StateBlock :=
  (s.cells.blocks.filter (fun b => crc32c (b.bytes.take 28) == getLe b.bytes 28 4)).foldl (fun m b =>
    match m with
    | none => some b
    | some a => if a.seq < b.seq then some b else m) none

/-- The 32 bytes of a cell in a state block. -/
def blockOfCell (b : StateBlock) (n : Nat) : List Byte := sliceAt b.bytes (32 * n) 32

/-- The block is usable for a cell (R151). -/
def savedCell (s : State) (n : Nat) : Option (StateBlock × List Byte) :=
  match newestBlock s, vaultDays s with
  | some b, some _ =>
    let c := blockOfCell b n
    if n ≤ getLe b.bytes 2 2 ∧ crc32c (c.take 28) = getLe c 28 4
        ∧ getLe c 22 2 = identDigest (s.objN (0x3100 + slotOf s n) 6) then some (b, c) else none
  | _, _ => none

/-- A first estimate is given (R150): z, U, s, the status bit of its source and the place of the source in FIRST_SOC. -/
def giveFirst (s : State) (r n : Nat) (z : Int) (u : Rat) (sh bit place : Nat) : State :=
  let x := s.cell n
  let t := restCredit s n x.first
  let x := { x with z := z, zd := z, s := sh, p := u * u / 9, d := 0, zva := 0, zvb := 0, va := 0, vb := 0, est := true, first := 0
                    awaits := false, credit := t, restNs := none, points := [], pred := [], qualified := false }
  let x := [8, 9, 10, 11].foldl (fun x b => setStat x b (b == bit)) (setStat (setStat x 0 true) 15 false)
  let f := if s.cells.firsts = [] then [0, 0, 0, 0, 0] else s.cells.firsts
  let s := { s with cells := { s.cells with firsts := f.set place (f.getD place 0 + 1) } }
  let s := s.setCell n x
  if place = 4 then setUnverified s r n 3 else s

/-- The last branch: the inverse of E at the voltage, unverified. -/
def firstVoltage (s : State) (r n : Nat) : State :=
  match tableOf s n with
  | none => s
  | some l =>
    giveFirst s r n (ocvInverse l (firstVolts s n) (s.cell n).temp 32768) ((s.obj 0x4030 6 : Rat) / 100000) 32768 12 4

/-- The authentication of slot k. -/
def State.auth (s : State) (k : Nat) : Auth := storeGet (fun _ => {}) s.rings.auth k

/-- Stores the authentication of slot k. -/
def State.setAuth (s : State) (k : Nat) (a : Auth) : State :=
  { s with rings := { s.rings with auth := storePut (fun _ => {}) s.rings.auth k a } }

/-- The ring of slot k. -/
def slotRing (s : State) (k : Nat) : Nat := s.objN (0x3100 + k) 1

/-- An exchange with slot k ends; a STORE that fell due in it follows (R154). -/
def authRest (s : State) (k : Nat) : State :=
  let a := s.auth k
  s.setAuth k { a with stage := if a.store then 5 else 0, nonce := [], again := false, store := false }

/-- The cells whose first estimate waits for the authentication of slot k. -/
def authCells (s : State) (k : Nat) : List (Nat × Nat) :=
  (slotCells s k).filter (fun p => (s.cell p.2).awaits && decide ((s.cell p.2).first ≠ 0))

/-- An attempt fails: the cells that wait for it take the last branch of R150 (R153). One event stands for all cells of the slot that
find in one frame that no attempt can be made. -/
def authFail (s : State) (k reason : Nat) : State :=
  let f := some s.cells.imageFrame
  let again := decide (5 < reason) && decide ((s.auth k).failedAt = f)
  let s := authRest (s.setAuth k { s.auth k with failedAt := f }) k
  let s := if again then s else raiseRing s 0x0508 [d32 k, d32 reason]
  (authCells s k).foldl (fun s p => firstVoltage s (slotRing s k) p.2) s

/-- An attempt begins, where it may. -/
def authBegin (s : State) (k : Nat) : State :=
  if (s.auth k).stage ≠ 0 then s
  else if s.objB 0x4030 3 = false then authFail s k 7
  else if (s.dom 0x4030 2).length ≠ 64 then authFail s k 6
  else if s.isActive = false then s
  else s.setAuth k { s.auth k with stage := 1, key := [], nonce := [] }

/-- The branches of R150 for a cell whose first estimate is due; authentication answers later. -/
def firstEstimate (s : State) (r n : Nat) : State :=
  match tableOf s n with
  | none => s
  | some l =>
    let x := s.cell n
    let v := firstVolts s n
    let days := (vaultDays s).getD 0
    let sd : Rat := (s.obj 0x4030 4 : Rat) / 100000
    match savedCell s n with
    | some (b, c) =>
      let z := toS 64 (getLe c 0 8) - roundRne (sd * days * (zOne : Rat))
      let stale : Rat := if b.origin = 1 then (s.obj 0x4000 4 : Rat) / 100 * ((s.obj 0x4000 1 : Rat) / 1000) * 60 / (3600 * capacity s n) else 0
      giveFirst s r n z ((getLe c 16 4 : Rat) / 100000 + sd * days / 2 + stale) (getLe c 20 2) 9 0
    | none =>
      let zi := ocvInverse l v x.temp 32768
      let slope := absR (ocvSlope l zi x.temp 32768)
      if (s.obj 0x4030 1 : Rat) ≤ slope * 10000 then
        let i := (if s.cells.source = 0 then s.objF 0x3410 3 else s.objF 0x3420 3) - (x.ib : Rat) / 1000000
        let z := ocvInverse l (v - (bandNow s x).rs / 1000000 * i) x.temp 32768
        let u := (firstUnc s n + uTable l x + uHyst l z x.temp 32768) / slope
        if s.obj 0x4010 2 ≤ (restCredit s n x.first : Int) then giveFirst s r n z u 32768 8 1
        else giveFirst s r n z (u + (s.obj 0x4030 9 : Rat) / 1000000 / slope) 32768 11 2
      else if s.isActive then authBegin (s.setCell n { x with awaits := true }) (slotOf s n)
      else firstVoltage s r n

/-! ### The command and its answers (R152, R153) -/

/-- The identity of the unit of slot k, little-endian. -/
def slotIdent (s : State) (k : Nat) : List Byte := leBytes 8 (s.obj (0x3100 + k) 6)

/-- The record of a STORE: SoC and learned capacity of each channel, zero where it is not mapped (R154). -/
def storeRecordBytes (s : State) (k : Nat) : List Byte :=
  (List.range 18).flatMap (fun c =>
    match (slotCells s k).find? (fun p => p.1 == c) with
    | some (_, n) => leBytes 4 (clampI 0 100000 (divRne (s.cell n).z 10000000)) ++ leBytes 4 (s.obj 0x4108 n)
    | none => List.replicate 8 0#8)

/-- One AUTH command of slot k where its attempt has one due. -/
def authSendSlot (s : State) (k : Nat) : State :=
  let a := s.auth k
  let r := slotRing s k
  let (p, h) := unitEnd (s.ring r) (s.objN (0x3100 + k) 2)
  let go (s : State) (stage : Nat) (a : Auth) (pay : List Byte) : State :=
    (ringCommand s r p 0x08 (h - 1) 0 0 0 pay).setAuth k { a with stage := stage, from_ := s.frameNo }
  if a.stage = 1 then go s 2 a [3#8]
  else if a.stage = 2 ∧ a.nonce = [] then
    let (d, s) := s.draw
    let nonce := freeBytes 16 d
    (go s 4 { a with nonce := nonce } (1#8 :: nonce)).setAuth k { a with stage := 4, from_ := a.from_, nonce := nonce }
  else if a.stage = 5 then
    go s 6 a (2#8 :: leBytes 4 ((a.counter + 1 : Nat) : Int) ++ storeRecordBytes s k)
  else s

/-- The slot whose AUTH command leaves next: a CHALLENGE follows its GET_CERT in the next frame, ahead of every other (R153). -/
def authNext (s : State) (r : Nat) : Option Nat :=
  let ks := ringSlots s r
  match ks.find? (fun k => (s.auth k).stage == 2 && (s.auth k).nonce == []) with
  | some k => some k
  | none => ks.find? (fun k => (s.auth k).stage == 1 || (s.auth k).stage == 5)

/-- After the READ of a ring, AUTH commands leave where the sweep budget remains (R94, R153). -/
def authSend (s : State) (r : Nat) : State :=
  if s.isActive = false then s else
  let room := s.objN (0x3010 + r) 13 * 100 + 260 * byteTime s r + 2 * (s.ring r).hmax * hopTime s r
  if closeTime s < room then s
  else match authNext s r with
    | some k => authSendSlot s k
    | none => s

/-- The sequencer sends READ on a ring: all units of an intact ring from East, each half of a broken one from its own end
after its BAL, with an unreachable ring asked for every unit known or configured; split parts through the append mask; late units through the previous mask (R88, R89, R93, R94). -/
def execRingSweep (ring : Fin 4) (s : State) : Out :=
  onString s fun s =>
    let r := ring.val
    let n := s.frameNo
    if ringRuns s r n = false then s else
    let x := s.ring r
    let k := s.objN (0x3010 + r) 10
    let all := maskOf (x.units.map (·.hop))
    let part := if k ≤ 1 then all else partMask x.hmax k (n % k) &&& all
    let again := if k ≤ 1 ∨ n % k = 0 then 0 else x.prevWant
    let want := part ||| again
    let prev := if again = 0 then x.prevWant &&& all else 0
    let s := s.setRing r { x with want := want, prevWant := prev, got := 0, gave := 0, nosync := 0, prevGot := 0,
                                  asked := 0, askedPrev := 0, reads := [], dead := 0, detect := 0, recount := false }
    let x := s.ring r
    let s := if x.broken then
        let off := s.objN 0x2012 0
        let off := if s.objN 0x2011 0 / 2 < off then s.objN 0x2011 0 / 2 else off
        let start := 1000 * off + (16 + 4 * x.hmax) * byteTime s r
        let ask := if x.unreach then want ||| cfgMask s r else want
        let cur (port : Nat) : Nat := askMask x port ask
        let old (port : Nat) : Nat := askMask x port prev
        let t (port : Nat) : Nat := readEnd s r start (popCount 12 (cur port) + popCount 12 (old port))
          (2 * (if port = 0 then x.reachE else x.reachW))
        noteEnd (sendRead (sendRead s r 0 (cur 0) (old 0)) r 1 (cur 1) (old 1)) r (if t 0 < t 1 then t 1 else t 0)
      else
        noteEnd (sendRead s r 0 want prev) r (readEnd s r 2000 (popCount 12 want + popCount 12 prev) x.hmax)
    authSend s r

/-- The slot whose awaited answer a block is: by the identity digest and the stage. -/
def authSlot (s : State) (r : Nat) (digest : Nat) : Option Nat :=
  (ringSlots s r).find? (fun k => [2, 4, 6].contains (s.auth k).stage && (digest == identDigest (s.objN (0x3100 + k) 6)))

/-- The slot of the unit at the hop a block names, for an identity that does not match. -/
def authSlotAt (s : State) (r pos : Nat) : Option Nat :=
  match slotAt s r pos with
  | some k => if [2, 4, 6].contains (s.auth k).stage then some k else none
  | none => none

/-- A challenge's record is accepted: each cell that waits for it takes it, and each cell of the unit is verified (R150, R153, R155). -/
def authAccept (s : State) (k : Nat) (b : List Byte) : State :=
  let days : Rat := (getLe b 8 4 : Rat) / 86400
  let sd : Rat := (s.obj 0x4030 4 : Rat) / 100000
  (slotCells s k).foldl (fun s p =>
    let n := p.2
    let z := (getLe b (12 + 8 * p.1) 4 : Int) * 10000000 - roundRne (sd * days * (zOne : Rat))
    let u := (s.obj 0x4030 5 : Rat) / 100000 + sd * days / 2
    let s := if (s.cell n).first ≠ 0 ∧ (s.cell n).awaits then giveFirst s (slotRing s k) n z u 32768 10 3 else s
    verify s (slotRing s k) n) s

/-- Every mapped channel's voltage lies within the OCV band of either branch at z_rec ± U_rec (R153). -/
def authFits (s : State) (k : Nat) (b : List Byte) : Bool :=
  let days : Rat := (getLe b 8 4 : Rat) / 86400
  let sd : Rat := (s.obj 0x4030 4 : Rat) / 100000
  (slotCells s k).all (fun p =>
    match tableOf s p.2 with
    | none => true
    | some l =>
      let x := s.cell p.2
      let z := (getLe b (12 + 8 * p.1) 4 : Int) * 10000000 - roundRne (sd * days * (zOne : Rat))
      let u := roundRne (((s.obj 0x4030 5 : Rat) / 100000 + sd * days / 2) * (zOne : Rat))
      let v := firstVolts s p.2
      [0, 65536].any (fun sh => decide (ocvE l (z - u) x.temp sh ≤ v) && decide (v ≤ ocvE l (z + u) x.temp sh)))

/-- GET_CERT's answer: the certificate verifies against the commissioning key. -/
def authCert (s : State) (k : Nat) (b : List Byte) : State :=
  let a := s.auth k
  let ok := ecdsaValid (s.dom 0x4030 2) (sha256 (slotIdent s k ++ sliceAt b 4 4 ++ sliceAt b 8 64)) (sliceAt b 72 64)
  if ok then s.setAuth k { a with key := sliceAt b 8 64 } else authFail s k 2

/-- CHALLENGE's answer: signature over the nonce most recently sent, the identity and the record, then the record itself. -/
def authProof (s : State) (k : Nat) (b : List Byte) : State :=
  let a := s.auth k
  let s := s.setAuth k { a with counter := getLe b 4 4 }
  if a.key = [] then authFail s k 2
  else if ecdsaValid a.key (sha256 (a.nonce ++ slotIdent s k ++ sliceAt b 4 152)) (sliceAt b 156 64) = false then authFail s k 3
  else if authFits s k b = false then authFail s k 5
  else authAccept (authRest s k) k b

/-- STORE's answer: a counter mismatch is met once with the counter of the answer plus 1 (R154). -/
def authStored (s : State) (k : Nat) (b : List Byte) : State :=
  let a := s.auth k
  let c := getLe b 4 4
  if getLe b 8 1 = 1 ∧ a.again = false then s.setAuth k { a with stage := 5, counter := c, again := true }
  else authRest (s.setAuth k { a with counter := c }) k

/-- An authentication response block arrives: the sequencer places it in its Plaza buffer and signals AC3 through lane 25 (R152, R153). -/
def execAuthResponse (ring : Fin 4) (block : List Byte) (s : State) : Out :=
  onHost s fun s =>
    let n := block.length
    if n < 16 ∨ crc32c (block.take (n - 4)) ≠ getLe block (n - 4) 4 then s else
    let s := passLane { s with rings := { s.rings with authBuf := storePut (fun _ => []) s.rings.authBuf ring block } } 25
    match authSlot s ring (getLe block 2 2) with
    | none =>
      match authSlotAt s ring (getLe block 1 1) with
      | some k => authFail s k 4
      | none => s
    | some k =>
      match getLe block 0 1 with
      | 0xC2 => authCert s k block
      | 0xC1 => if (s.auth k).stage = 4 then authProof s k block else s
      | 0xC3 => if (s.auth k).stage = 6 then authStored s k block else s
      | _ => s

/-- No response within 16 F: an attempt fails with reason 1, a STORE is given up. -/
def execAuthTimeout (slot : Fin 40) (s : State) : Out :=
  onHost s fun s =>
    let k := slot.val
    let a := s.auth k
    if a.stage = 2 ∨ a.stage = 4 then authFail s k 1
    else if a.stage = 6 then authRest s k
    else s

/-- STORE goes to each present CM18, after the exchange its slot has in course (R154). -/
def storeAll (s : State) : State :=
  if s.isActive = false then s else
  ((List.range 40).filter (fun k => slotUsed s k && slotLive s k)).foldl (fun s k =>
    let a := s.auth k
    s.setAuth k (if a.stage = 0 then { a with stage := 5, again := false } else { a with store := true })) s

/-- Every 0x4030:8 seconds. -/
def execRecordStoreTimer (s : State) : Out := onHost s storeAll

/-! ### OCV tables (R145) -/

/-- An OCV table transfer ends: the table is accepted for the next boundary, or refused with its first failing byte. -/
def execOcvTableLoad (set : Fin 4) (table : List Byte) (s : State) : Out :=
  onHost s fun s =>
    let i := 0x4020 + set.val
    match ocvBad table with
    | some k => settle (raiseEe (s.setObj i 2 2) 0 0x0501 [d32 set.val, d32 k]) i 1 errRange
    | none =>
      settle { s with cells := { s.cells with
        tablesDue := s.cells.tablesDue.filter (fun p => p.1 != set.val) ++ [(set.val, table)] } } i 1 errOk

/-- Accepted tables take effect at the boundary; the first table of a set gives its cells a first estimate (R145, R148). -/
def tableBoundary (s : State) : State :=
  let l := s.cells.tablesDue
  l.foldl (fun s p =>
    let i := 0x4020 + p.1
    let new := decide (s.dom i 1 = [])
    let s := ((s.setDom i 1 p.2).setObj i 2 1).setObj i 3 (getLe p.2 7304 4)
    let s := raiseEe s 0 0x0502 [d32 p.1, d32 (s.obj i 3)]
    if new then (List.range s.cellCount).foldl (fun s k =>
      if s.obj 0x4106 (k + 1) = (p.1 : Int) then
        s.setCell (k + 1) { s.cell (k + 1) with first := if (s.cell (k + 1)).first = 0 then 3 else (s.cell (k + 1)).first }
      else s) s
    else s) { s with cells := { s.cells with tablesDue := [] } }

end Sys2Proof.Machine
end

