-- ==== Sys2Proof/Machine/Enumerate.lean ====
section
/-!
DEFINITION. Enumeration of a ring (R69, R82 to R87), the fault thresholds it loads (R282) and the fault symbol path of the
ring ports (R96, R97).
Marks (notes/assumptions): DEDUCED 36; DESIGN CHOICE 118, 136, 138.
-/
namespace Sys2Proof.Machine

/-! ### The fault thresholds (R282) -/

/-- THRESH to every unit of a ring, once the SLV window has been committed; its maximum of 0 mV stands for a window never
committed. -/
def threshRing (s : State) (r : Nat) : State :=
  if s.obj 0x6820 1 = 0 then s else
  ringCast s r 0x0A (leBytes 2 (s.obj 0x6821 1) ++ leBytes 2 (s.obj 0x6821 2) ++ leBytes 1 (s.obj 0x6821 3)
    ++ List.replicate 3 0#8)

/-- THRESH to every ring that runs. -/
def threshAll (s : State) : State :=
  (List.range 4).foldl (fun s r => if 2 ≤ ringSt s r then threshRing s r else s) s

/-! ### What the commands tell -/

/-- An identity block (R80) as the unit at place `pos` from the sending end appends it. -/
def identOk (pos : Nat) (b : List Byte) : Bool :=
  decide (b.length = 24) && getLe b 0 1 == 0xA0 && getLe b 1 1 == pos && crc32c (b.take 20) == getLe b 20 4

/-- Blocks of an IDENT frame that fail. -/
def badBlocks (l : List EnumUnit) : Nat := (l.zipIdx.filter (fun p => !identOk (p.2 + 1) p.1.block)).length

/-- An arrival time from a round trip in 0.25 ns: (rtt − 400 ns) / 2, rounded to 1 ns. -/
def arrival (rtt : BitVec 32) : Nat := (roundRne (((rtt.toNat : Int) - 1600 : Int) / (8 : Rat))).toNat

/-- A unit from its identity block (R80), with its East hop and its arrivals. -/
def unitOf (b : List Byte) (hop : Nat) (e w : Option Nat) : RingUnit :=
  ⟨hop, getLe b 2 8, e, w, getLe b 12 1, getLe b 13 1, getLe b 14 1, getLe b 15 1⟩

/-- The East hop, identity block and arrivals of each unit an enumeration reached. -/
def enumUnits (hmax : Nat) (intact : Bool) (east west : List EnumUnit) : List (RingUnit × EnumUnit) :=
  let e := east.zipIdx.map (fun p =>
    (unitOf p.1.block (p.2 + 1) (some (arrival p.1.rtt))
      (if intact then (west[hmax - (p.2 + 1)]?).map (fun u => arrival u.rtt) else none), p.1))
  let w := if intact then [] else west.zipIdx.reverse.map (fun p =>
    (unitOf p.1.block (hmax - p.2) none (some (arrival p.1.rtt)), p.1))
  e ++ w

/-- The delay word of a direction: 16·(arrival at the far end − arrival here) / hops between, half away from zero (R83). -/
def delayWord (far : Option Nat) (here : Option Nat) (hops : Nat) : Nat :=
  match here, far with
  | some a, some b => if hops = 0 then 0 else divHalfUp (16 * (b - a)) hops
  | _, _ => 0xFFFF

/-- The arrival from East at a hop. -/
def arrE (us : List (RingUnit × EnumUnit)) (h : Nat) : Option Nat := (us.find? (fun p => p.1.hop == h)).bind (·.1.e)

/-- The arrival from West at an East hop. -/
def arrW (us : List (RingUnit × EnumUnit)) (h : Nat) : Option Nat := (us.find? (fun p => p.1.hop == h)).bind (·.1.w)

/-- The code of T_F in SETUP (R78). -/
def tfCode (s : State) : Nat :=
  match s.objN 0x2011 0 with
  | 125 => 0
  | 250 => 1
  | 500 => 2
  | _ => 3

/-- What the enumeration of ring r found, computed once. -/
structure EnumFound where
  hmax : Nat
  reachE : Nat
  reachW : Nat
  intact : Bool
  us : List (RingUnit × EnumUnit)
  deriving DecidableEq, Repr

/-- Hmax: the units of an intact ring, or the larger of the units reached and the largest hop configured (R82). -/
def enumFound (s : State) (r : Nat) (intact : Bool) (east west : List EnumUnit) : EnumFound :=
  let e := east.length
  let w := west.length
  let hmax := if intact then e else if e + w < hopCfg s r then hopCfg s r else e + w
  ⟨hmax, e, if intact then e else w, intact, enumUnits hmax intact east west⟩

/-- The delay words of a unit. -/
def delayWords (f : EnumFound) (h : Nat) : Nat × Nat :=
  (delayWord (arrE f.us f.reachE) (arrE f.us h) (f.reachE - h),
   delayWord (arrW f.us (f.hmax + 1 - f.reachW)) (arrW f.us h) (f.reachW - (f.hmax + 1 - h)))

/-- IDENT leaves some ends of a ring (R82). -/
def identSend (s : State) (r : Nat) (ends : List Nat) : State := ends.foldl (fun s p => ringCommand s r p 0x03 0xFF 0 0 0 []) s

/-- The first IDENT of an enumeration: from East, and from West where it comes back wrapped. -/
def enumIdent (s : State) (r : Nat) (intact : Bool) : State := identSend s r (if intact then [0] else [0, 1])

/-- PROBE and SETUP to each unit, and IDENT again from each end that reaches one (R82). -/
def enumSend (s : State) (r : Nat) (f : EnumFound) : State :=
  let s := (List.range f.reachE).foldl (fun s h => ringCommand s r 0 0x04 h 0 0 0 []) s
  let s := (List.range f.reachW).foldl (fun s h => ringCommand s r 1 0x04 h 0 0 0 []) s
  let s := f.us.foldl (fun s p =>
    let h := p.1.hop
    let (de, dw) := delayWords f h
    let east := p.1.e.isSome
    let (port, k) := if east then (0, h) else (1, f.hmax + 1 - h)
    let b (n : Nat) : Byte := BitVec.ofNat 8 n
    ringCommand s r port 0x05 (k - 1) 0 0 0
      ([b h, b (f.hmax + 1 - h), b f.reachE, b f.reachW, b (tfCode s), 0#8] ++ leBytes 2 (de : Int) ++ leBytes 2 (dw : Int)
        ++ [0#8, 0#8])) s
  identSend s r ((if f.reachE = 0 then [] else [0]) ++ (if f.intact ∨ f.reachW = 0 then [] else [1]))

/-! ### Matching against the CM18 table (R86) -/

/-- A slot whose unit was found: the objects of the slot; a different identity is handed to the insertion handling and
to the records, which count a unit found anew with outcome 3 whatever its digest (R86, R148, R179). On a broken ring hop delay, e[h] and w[h] of the end that did not reach the unit read 0: the spec
states no value there (DESIGN CHOICE 118). -/
def slotFound (s : State) (f : EnumFound) (k : Nat) (u : RingUnit × EnumUnit) : State :=
  let i := 0x3100 + k
  let h := u.1.hop
  let want := s.obj i 3
  let was := s.obj i 6
  let (de, dw) := delayWords f h
  let ident : Int := (u.1.ident : Int)
  let out : Int := if want = 0 ∨ want = ident then 2 else 3
  let hd : Int := match u.1.e with
    | some a => (a : Int) - ((if h = 1 then some 0 else arrE f.us (h - 1)).getD a : Nat)
    | none => 0
  let s := s.setObjs i [(6, ident), (7, h), (8, ((f.hmax + 1 - h : Nat) : Int)), (9, toU 16 hd),
    (10, ((u.1.e.getD 0 : Nat) : Int)), (11, ((u.1.w.getD 0 : Nat) : Int)), (12, (de : Int)), (13, (dw : Int)), (14, out),
    (15, (getLe u.2.block 10 2 : Int))]
  let s := if out = 3 then raiseRing s 0x0306 [d32 k, d64 want, d64 ident] else s
  let new := identDigest u.1.ident
  (slotCells s k).foldl (fun s p =>
    let x := s.cell p.2
    let x := if was ≠ 0 ∧ was ≠ ident then { x with first := 2 } else x
    let c := x.rec_
    let c := if c.digest = new ∧ (out ≠ 3 ∨ was = ident) then c
      else if out = 3 ∨ c.digest ≠ 0 then { c with digest := new, changes := (countUp 16 c.changes).toNat }
      else { c with digest := new }
    s.setCell p.2 { x with rec_ := c }) s

/-- A slot whose unit was not found: 5 unreachable in the gap of a broken ring, else 1 missing. -/
def slotLost (s : State) (f : EnumFound) (k : Nat) : State :=
  let i := 0x3100 + k
  let h := s.objN i 2
  let gap := !f.intact && decide (f.reachE < h) && decide (h + f.reachW ≤ f.hmax)
  let s := s.setObjs i [(7, 0), (8, 0), (9, 0), (10, 0), (11, 0), (12, 0xFFFF), (13, 0xFFFF), (14, if gap then 5 else 1)]
  raiseRing s 0x0307 [d32 k, d8 (if gap then 5 else 1)]

/-- The units of no slot are recorded, each with its event. -/
def unslotted (s : State) (r : Nat) (f : EnumFound) : State :=
  let s := (List.range 12).foldl (fun s h => s.setObj (0x3140 + r) (h + 1) 0) s
  f.us.foldl (fun s p =>
    if (slotAt s r p.1.hop).isSome then s
    else raiseRing (s.setObj (0x3140 + r) p.1.hop p.1.ident) 0x0305 [d32 r, d32 p.1.hop, d64 p.1.ident]) s

/-- Every slot of the ring takes its outcome. -/
def matchSlots (s : State) (r : Nat) (f : EnumFound) : State :=
  let s := (ringSlots s r).foldl (fun s k =>
    match f.us.find? (fun p => p.1.hop == s.objN (0x3100 + k) 2) with
    | some u => slotFound s f k u
    | none => slotLost s f k) s
  unslotted s r f

/-! ### The result -/

/-- Units of the other rings that run, by their Hmax (R69). -/
def otherUnits (s : State) (r : Nat) : Nat :=
  ((List.range 4).map (fun q => if q ≠ r ∧ 2 ≤ ringSt s q then (s.ring q).hmax else 0)).sum

/-- The module's time from power good that START_COMPLETE names is a value the spec leaves to the card. -/
def startComplete (s : State) : State :=
  if s.pwr.started = false ∧ (List.range 4).all (fun r => !ringOn s r || (s.ring r).seen) then
    let (d, s) := s.draw
    let s := { s with pwr := { s.pwr with started := true } }
    raise s 0x0106 11 [d32 (Config.freeBits d), d8 (s.obj 0x2050 3)]
  else s

/-- The ring is oversize: it is not run (R69). -/
def enumOversize (s : State) (r found : Nat) : State :=
  let s := s.setRing r { s.ring r with oversize := true, unreach := false, units := [], hmax := 0, seen := true, reads := [] }
  let s := (setRingSt s r 0).setObj (0x3010 + r) 8 found
  ringCause (raiseRing s 0x0314 [d32 r, d8 found])

/-- The state of the ring after the enumeration, with the events of breaks (R93). -/
def enumState (s : State) (r : Nat) (f : EnumFound) : State :=
  let x := s.ring r
  let n := s.frameNo
  let found := f.us.length
  if f.intact then
    let s := s.setRing r { x with broken := false, unreach := false }
    let s := setRingSt s r 2
    if x.broken then raiseRing s 0x0303 [d32 r, d32 (((n : Int) - x.brokenFrom) % 4294967296)] else s
  else if found = 0 then ringUnreachable s r
  else
    let s := s.setRing r { x with broken := true, brokenFrom := if x.broken then x.brokenFrom else n, unreach := false }
    let s := setRingSt s r 3
    if x.broken then s else raiseRing s 0x0302 [d32 r, d32 f.reachE, d32 1]

/-- The whole result of an enumeration within the limits of R69. -/
def enumDone (s : State) (r : Nat) (f : EnumFound) (portTime : Nat) : State :=
  let x := s.ring r
  let us := f.us.map (·.1)
  let x := { x with hmax := f.hmax, reachE := f.reachE, reachW := f.reachW, units := us, oversize := false, seen := true }
  let x := { x with noResp := [], reads := [], prevWant := 0, prevGot := 0, want := 0, got := 0, dead := 0, detect := 0 }
  let s := s.setRing r x
  let a (o : Option Nat) : Int := match o with | some t => ((t + 120 : Nat) : Int) | none => 0
  let s := s.setObjs (0x3010 + r) [(8, f.us.length), (9, f.reachE), (11, a (arrE f.us f.reachE)),
    (12, a (arrW f.us (f.hmax + 1 - f.reachW)))]
  let s := enumState s r f
  let s := splitChange s r
  let s := matchSlots s r f
  let tRep := hopTime s r - 20
  let d := (portTime : Rat) / 4 - (((arrE f.us f.hmax).getD 0 + tRep + (arrW f.us f.hmax).getD 0 : Nat) : Rat)
  let s := if f.intact ∧ f.us ≠ [] ∧ 8 < absR d then raiseRing s 0x0311 [d32 r, d32 (roundRne d)] else s
  let s := raiseRing s 0x0301 [d32 r, d8 f.us.length, d8 (ringSt s r),
    d32 (((s.frameNo : Int) - (s.ring r).enumFrom) % 4294967296)]
  let s := ringCause (threshRing s r)
  if s.profile = 3 then sleepRing s r else s

/-- An enumeration of a ring that waits for one ends: what its commands brought is matched against the CM18 table, or the ring is
oversize, and then goes no further than IDENT. Identity blocks that fail are counted, and the ring stays in enumeration. -/
def execRingEnumerate (ring : Fin 4) (intact : Bool) (east west : List EnumUnit) (portTime : BitVec 32) (s : State) : Out :=
  onString s fun s =>
    let r := ring.val
    let due := ringSt s r == 1 || (ringSt s r == 0 && !(s.ring r).seen)
    if ringOn s r = false ∨ due = false then s else
    let f := enumFound s r intact east west
    let s := enumIdent s r intact
    let bad := badBlocks east + (if intact then 0 else badBlocks west)
    if bad ≠ 0 then ringErrors s r bad
    else startComplete (if 12 < f.hmax ∨ 40 < f.hmax + otherUnits s r then enumOversize s r f.us.length
      else enumDone (enumSend s r f) r f portTime.toNat)

end Sys2Proof.Machine
end

