-- ==== Sys2Proof/Machine/Bleed.lean ====
section
/-!
DEFINITION. The bleed current the module counts for each cell in each frame (R184, R186 to R188).
Marks (notes/assumptions): DEDUCED 46.
-/
namespace Sys2Proof.Machine

/-- The release instant within the frame, ns from S: the offset 0x2012:0, at most half a frame (R35). -/
def releaseNs (s : State) : Int :=
  let off := s.objN 0x2012 0
  (1000 * (if s.objN 0x2011 0 / 2 < off then s.objN 0x2011 0 / 2 else off) : Nat)

/-- Frames from `a` to `b`. -/
def frameSpan (a b : Nat) : Nat := (((b : Int) - a) % 4294967296).toNat

/-- The command in force at the latch of a frame: the newest sent in an earlier frame, for at most 16 F. -/
def cmdBefore (w : WireSt) (frame : Nat) : Option (Nat × Nat × Nat) :=
  (w.cmds.filter (fun p => decide (1 ≤ frameSpan p.1 frame) && decide (frameSpan p.1 frame < 2147483648))).head?.bind
    (fun p => if frameSpan p.1 frame ≤ 16 then some p else none)

/-- The command sent in a frame. -/
def cmdIn (w : WireSt) (frame : Nat) : Option (Nat × Nat × Nat) := w.cmds.find? (fun p => p.1 == frame)

/-- Arrival of the BAL frame's EOF at a slot's unit, ns from S. -/
def balArrival (s : State) (k : Nat) : Int :=
  let r := slotRing s k
  let x := s.ring r
  let h := s.objN (0x3100 + k) 2
  let east := x.broken && decide (h ≤ x.reachE)
  releaseNs s + ((16 + 4 * x.hmax) * byteTime s r : Nat) + s.obj (0x3100 + k) (if east then 10 else 11)

/-- An open-wire test of a frame pauses a channel: the taps of a cycle are tested in rising order, one a frame, from the
frame after the order, until the next order ends the cycle (R129, R188). -/
def testPauses (w : WireSt) (c frame : Nat) : Bool :=
  let one (taps sent : Nat) : Bool :=
    let i := frameSpan sent frame
    let l := (List.range 19).filter (fun t => taps.testBit t)
    decide (1 ≤ i) && (match l[i - 1]? with | some t => c == t || c + 1 == t | none => false)
  one w.taps w.sentAt || (decide (frameSpan frame w.sentAt < 2147483648) && one w.before.1 w.before.2)

/-- The mask read back; bits no block has carried, as in a split sweep that never latches a frame of selector 3, count as commanded
(R89, R187). -/
def readBack (w : WireSt) (cmd : Nat) : Nat := w.readLow.getD (cmd % 65536) + w.readHigh.getD (cmd / 65536) * 65536

/-- ns of bleed of channel c of slot k in a frame, and whether it is in the mask in force. A command ends 16 F after its arrival, within
the 16th frame after its own (R186). -/
def bleedTime (s : State) (k c frame : Nat) : Rat × Bool :=
  let w := s.wire k
  let unit : Rat := s.obj 0x2011 0 * 1000
  let on (p : Nat × Nat × Nat) : Nat :=
    if w.cap.1 then w.readOn.getD p.2.2 else p.2.2
  let hit (p : Nat × Nat × Nat) : Bool := p.2.1.testBit c
  let cmd := cmdBefore w frame
  let cm : Nat := match cmd with | some p => p.2.1 | none => 0
  let (old, new) := if w.mismatch then (some (frame, readBack w cm, w.readOn.getD 0), none) else (cmd, cmdIn w frame)
  let arr : Rat := balArrival s k
  let tail (p : Nat × Nat × Nat) : Rat := 10000 + (on p : Rat) * unit / 64
  let ends (p : Nat × Nat × Nat) : Bool := new.isSome || frameSpan p.1 frame == 16
  let tOld : Rat := match old with
    | some p => if hit p then (if ends p then clampR 0 (tail p - 10000) (minR arr (tail p) - 10000) else tail p - 10000) else 0
    | none => 0
  let tNew : Rat := match new with
    | some p => if hit p then clampR 0 (tail p - 10000) (tail p - maxR arr 10000) else 0
    | none => 0
  (tOld + tNew, (match old with | some p => hit p | none => false) || (match new with | some p => hit p | none => false))

/-- A cell is in the bleed mask in force in a frame. -/
def inMask (s : State) (k c frame : Nat) : Bool := (bleedTime s k c frame).2

/-- i_b,n of a frame in µA: 300 mA times the counted time over T_F, zero while a test pauses the channel and below 2.0 V. -/
def bleedMicroAmps (s : State) (n k c frame : Nat) : Int :=
  let w := s.wire k
  if testPauses w c frame ∨ s.obj 0x3800 n < 16000000 then 0
  else roundRne (300 * (bleedTime s k c frame).1 / (s.obj 0x2011 0 : Rat))

/-- A unit's read-back against what was counted in the frame of the block that carried it: the low bits of the mask from a block of
selector 3, the high bits and the on-time from one of selector 4; a frame without such a block compares nothing (R187). -/
def readbackCheck (s : State) (k : Nat) : State :=
  let w := s.wire k
  if w.low3.isNone ∧ w.high4.isNone then s else
  let cmd (f : Nat) : Nat × Nat := match cmdBefore w f with | some p => p.2 | none => (0, 0)
  let u := w.readOn.getD 0
  let low := match w.low3 with
    | some f => decide (w.readLow.getD 0 ≠ (cmd f).1 % 65536)
    | none => w.misLow
  let high := match w.high4 with
    | some f => decide (w.readHigh.getD 0 ≠ (cmd f).1 / 65536) || (decide (u ≠ (cmd f).2) && (cmdBefore w f).isSome && !w.cap.1)
    | none => w.misHigh
  let bad := low || high
  let s := s.setWire k { w with mismatch := bad, misLow := low, misHigh := high, low3 := none, high4 := none }
  let (cm, cu) := cmd ((w.high4.orElse (fun _ => w.low3)).getD 0)
  if bad ∧ w.mismatch = false then raise s 0x0611 3 [d32 k, d32 cm, d32 cu, d32 (readBack w cm), d32 u] else s

/-- Largest number of channels a unit may bleed at once before thermal cap lowers it (R185). -/
def channelBase (s : State) (k : Nat) : Nat :=
  let v := (slotCells s k).foldl (fun m p => if m < s.objN 0x3800 p.2 then s.objN 0x3800 p.2 else m) 0
  let p : Rat := 3 / 10 * ((v : Rat) / 8000000) * (bleedMax s : Rat) / 64
  if p = 0 then 18 else (floorR ((s.obj 0x4600 4 : Rat) / 10 / p)).toNat

/-- A unit's thermal cap in a frame: each 8 F of it lower k_max by 1, to a minimum of 1, each 8 F after it restore 1 (R187). -/
def capFrame (s : State) (k : Nat) : State :=
  let w := s.wire k
  let (on, n) := w.cap
  let s := if on ∧ n = 0 then
      raise (s.bump 0x4621 (k + 1)) 0x0612 3 [d32 k, d8 ((w.readOn.getD 0 : Nat) : Int), d16 (w.die.getD 0)]
    else s
  let n := n + 1
  let low := if n % 8 ≠ 0 then w.kLow else if on then (if w.kLow + 1 < channelBase s k then w.kLow + 1 else w.kLow) else w.kLow - 1
  s.setWire k { s.wire k with cap := (on, if on = false ∧ low = 0 then 1 else n), kLow := low }

/-- The bleed of the frame of the image is counted for every cell; the count reads from 0x4611:n. -/
def bleedFrame (s : State) : State :=
  let f := s.cells.imageFrame
  let s := ((List.range 40).filter (slotUsed s)).foldl (fun s k => capFrame (readbackCheck s k) k) s
  (allCells s).foldl (fun s p =>
    let (n, k, c) := p
    let i := bleedMicroAmps s n k c f
    (s.setCell n { s.cell n with ib := i }).setObj 0x4611 n i) s

end Sys2Proof.Machine
end

