-- ==== Sys2Proof/Machine/CellRecords.lean ====
section
/-!
DEFINITION. What a frame contributes to the lifetime record of a cell (R169 to R173).
Marks (notes/assumptions): DEDUCED 45.
-/
namespace Sys2Proof.Machine

/-! ### What a frame contributes (R169 to R173) -/

/-- A U32 count raised by `k`. -/
def addCount (v k : Nat) : Nat := if v + k < 4294967296 then v + k else Config.countBeyond (v + k)

/-- Nanoseconds enter a list of second counts and their remainders. -/
def addTime (secs : List (Nat × Nat)) (rest : List (Nat × Int)) (k : Nat) (ns : Int) : List (Nat × Nat) × List (Nat × Int) :=
  let t := storeGet (fun _ => 0) rest k + ns
  (storePut (fun _ => 0) secs k (addCount (storeGet (fun _ => 0) secs k) (t / 1000000000).toNat),
   storePut (fun _ => 0) rest k (t % 1000000000))

/-- A value against a pair of extremes: only a strictly more extreme one replaces (R171). -/
def takeExt (ext : List (Option (Int × Nat))) (k : Nat) (v : Int) (stamp : Nat) : List (Option (Int × Nat)) :=
  let up := match ext.getD k none with | some (m, _) => decide (m < v) | none => true
  let down := match ext.getD (k + 1) none with | some (m, _) => decide (v < m) | none => true
  let ext := if up then ext.set k (some (v, stamp)) else ext
  if down then ext.set (k + 1) (some (v, stamp)) else ext

/-- Temperature band of the grid, T in 0.0625 °C (R172). -/
def gridBand (t : Rat) : Nat := (clampI 0 15 (floorR ((t / 16 + 15) / 5))).toNat

/-- Current band of c = i / rated with the rest threshold t, both in C (R173). -/
def rateBand (c t : Rat) : Nat :=
  if absR c < t then 7
  else if c < 0 then
    if -1 / 10 ≤ c then 6 else ([-3 / 2, -1, -3 / 4, -1 / 2, -1 / 4, -1 / 10] : List Rat).foldl (fun n b => if b ≤ c then n + 1 else n) 0
  else ([1 / 10, 1 / 4, 1 / 2, 3 / 4, 1, 3 / 2, 2] : List Rat).foldl (fun n b => if b ≤ c then n + 1 else n) 8

/-- Time, charge and bleed of one frame (R169, R172, R173). -/
def recTime (s : State) (b : Behind) (p : CellIn) (x : Cell) : Cell :=
  let c := x.rec_
  let m := x.rest
  let ib := p.ib
  let ns := b.ns
  let a := cellAmps b.i ib
  let q : Rat := a * ns / 1000000000
  let soc := if x.est then (clampI 0 100000 (divRne x.z 10000000)).toNat / 10000 else 0
  let inGrid := statBit x 0 && !p.tempHeld
  let (grid, gr) := if inGrid then addTime c.grid m.grid (10 * gridBand p.temp + (if 9 < soc then 9 else soc)) ns
    else (c.grid, m.grid)
  let gs := if inGrid then m.gridSum + ns else m.gridSum
  let rated := ratedAh s
  let (bands, br) := if b.valid ∧ rated ≠ 0 then addTime c.bands m.bands (rateBand (a / rated) ((s.obj 0x4010 1 : Rat) / 10000)) ns
    else (c.bands, m.bands)
  let ch := if 0 < a then m.charge + q else m.charge
  let dis := if a < 0 then m.discharge - q else m.discharge
  let bl := m.bleed + (ib : Rat) * ns / 1000000000000000
  let bt := if p.masked then m.bleedTime + ns else m.bleedTime
  let whole (r u : Rat) : Nat := (floorR (r / u)).toNat
  let c := { c with
    grid := grid, bands := bands, gridSecs := addCount c.gridSecs (gs / 1000000000).toNat,
    charge := addCount c.charge (whole ch 36), discharge := addCount c.discharge (whole dis 36),
    bleed := addCount c.bleed (whole bl (18 / 5)), bleedTime := addCount c.bleedTime (bt / 1000000000).toNat }
  let m := { m with
    grid := gr, bands := br, gridSum := gs % 1000000000, charge := ch - 36 * whole ch 36,
    discharge := dis - 36 * whole dis 36, bleed := bl - 18 / 5 * whole bl (18 / 5), bleedTime := bt % 1000000000 }
  { x with rec_ := c, rest := m }

/-- The extremes of one frame (R171). -/
def recExt (b : Behind) (p : CellIn) (x : Cell) : Cell :=
  let c := x.rec_
  let vOk := p.held && !([1, 3, 4, 5, 6, 11].any (bitOf p.bits))
  let e := if vOk then takeExt c.ext 0 p.v b.op else c.ext
  let e := if p.tempHeld then e else takeExt e 2 (roundRne p.temp) b.op
  let e := if b.valid then takeExt e 4 (roundRne (cellAmps b.i p.ib * 1000)) b.op else e
  { x with rec_ := { c with ext := e } }

/-- The objects that show a record (0x4401 to 0x4408). -/
def recObjs (s : State) (n : Nat) : State :=
  let c := (s.cell n).rec_
  let s := (List.range 6).foldl (fun s k =>
    s.setObj (0x4401 + k) n (match c.ext.getD k none with | some (v, _) => v | none => 0)) s
  (s.setObj 0x4407 n c.charge).setObj 0x4408 n c.discharge

/-- A card that pulls keeps what each frame contributes to its records (R324): the frame as an empty record takes it. -/
def keepFrame (s : State) (b : Behind) (p : CellIn) : State :=
  if s.obj 0x7009 1 ≠ 1 then s else
  let t := recExt b p (recTime s b p { s.cell p.pos with rec_ := {}, rest := {} })
  let e : Nat × CellRec × RecRest := (p.pos, t.rec_, t.rest)
  let kept := match s.duplex.kept with
    | (g, l) :: rest => if g = b.frame then (g, e :: l) :: rest else (b.frame, [e]) :: (g, l) :: rest
    | [] => [(b.frame, [e])]
  { s with duplex := { s.duplex with kept := kept } }

/-- A frame enters the record of a cell (R169). -/
def recFrame (s : State) (b : Behind) (p : CellIn) : State :=
  let s := keepFrame s b p
  s.setCell p.pos (recExt b p (recTime s b p (s.cell p.pos)))

end Sys2Proof.Machine
end

