-- ==== Sys2Proof/Machine/Station.lean ====
section
/-!
DEFINITION. Stations of the input image: lost, returned and their status (R341, R343 to R345). Stations 1 to 40 are the CM18
slots, 41 the converter, 48 to 63 the CAN stations.
Marks (notes/assumptions): DEDUCED 30, 89; DESIGN CHOICE 20.
-/
namespace Sys2Proof.Machine

/-- A station's condition. -/
def State.station (s : State) (n : Nat) : StationSt := storeGet (fun _ => {}) s.prog.stations n

/-- Stores a station's condition. -/
def State.setStation (s : State) (n : Nat) (x : StationSt) : State :=
  { s with prog := { s.prog with stations := storePut (fun _ => {}) s.prog.stations n x } }

/-- Changes the program. -/
def State.mapProg (s : State) (f : Prog → Prog) : State := { s with prog := f s.prog }

/-- A CAN station of the active image. -/
def stationOf (s : State) (n : Nat) : Option Station :=
  match s.prog.image with
  | some im => im.stations.find? (fun x => x.num == n)
  | none => none

/-- Images a lost station keeps its last values for: a CAN station's own count, 3 for the others (R344). -/
def failCount (s : State) (n : Nat) : Nat := match stationOf s n with | some x => x.failCount | none => 3

/-- A station is lost in a frame: the onset is recorded and counted (R343). Causes: 1 receive timeout, 2 bus-off, 3 cells missing,
4 converter link down. -/
def stationLostIn (s : State) (n cause frame : Nat) : State :=
  let x := s.station n
  if x.lost then s else
  raise ((s.setStation n { x with lost := true }).bump 0xA051 (n + 1)) 0x0C0A 3 [d32 n, d32 cause, d32 frame]

/-- A station is lost in the frame in course. -/
def stationLost (s : State) (n cause : Nat) : State := stationLostIn s n cause s.frameNo

/-- A station returns (R345). -/
def stationBack (s : State) (n : Nat) : State :=
  let x := s.station n
  if x.lost then raise (s.setStation n { x with lost := false }) 0x0C0C 3 [d32 n, d32 x.images] else s

/-- A valid receive message of a CAN station (R343, R345). -/
def stationHeard (s : State) (n : Nat) (payload : List Byte) : State :=
  stationBack (s.setStation n { s.station n with payload := payload, heard := true, rxC := s.clk.c }) n

/-- A CAN station's timeout has passed without a valid message. -/
def stationSilent (s : State) (x : Station) : Bool :=
  decide ((x.rxTimeout : Int) * s.tf ≤ elapsedNs s.clk (s.station x.num).rxC s.clk.c)

/-- No valid message within a CAN station's timeout (R343). -/
def execStationReceiveTimeout (station : Fin 16) (s : State) : Out :=
  onHost s fun s =>
    let n := 48 + station.val
    match stationOf s n with
    | some x => if stationSilent s x then stationLost s n 1 else s
    | none => s

/-- CAN stations on a bus that is bus-off, recovering or disabled are LOST, also those an activation has just brought (R343, R390). -/
def loseStations (s : State) : State :=
  match s.prog.image with
  | some im => im.stations.foldl (fun s x =>
      let st := canState s x.bus
      if st = 4 then stationLost s x.num 5 else if st = 2 ∨ st = 5 then stationLost s x.num 2 else s) s
  | none => s

/-- At a boundary the stations' state and their payloads are kept for the image of the frame that begins (R338, R344). -/
def latchStations (s : State) : State :=
  let s := loseStations (if s.obj 0x5600 7 = 0 then stationLost s 41 4 else s)
  let l := ((List.range 64).filter (fun n => n = 41 ∨ (stationOf s n).isSome)).map (fun n =>
    (n, (s.station n).lost, (s.station n).payload))
  s.mapProg fun p => { p with latchOld := p.latch, latch := l, cohOld := p.coh, coh := bitOf (s.obj 0x2805 0) 0 }

/-- The status byte of a station (R341). -/
def stationByte (lost stale safe withheld : Bool) (age : Nat) : Nat :=
  (if lost then 128 else 0) + (if stale then 64 else 0) + (if safe then 32 else 0) + (if withheld then 16 else 0) + age % 16

/-- A station in the image being assembled (R341, R344): its images are counted, the first image with fail-safe values writes
the event, and 0xA050 takes the status. Gives 0 live, 1 last values held, 2 fail-safe values. -/
def stationImage (s : State) (n : Nat) (lost : Bool) : Nat × State :=
  let x := s.station n
  if lost then
    let k := x.images + 1
    let age := if x.age < 15 then x.age + 1 else 15
    let safe := decide (failCount s n < k)
    let s := s.setStation n { x with images := k, age := age }
    let s := s.setObj 0xA050 (n + 1) (stationByte true (!safe) safe x.withheld age : Nat)
    if safe then (2, if k = failCount s n + 1 then raise s 0x0C0B 3 [d32 n, d32 s.cells.imageFrame] else s)
    else (1, s)
  else
    let s := s.setStation n { x with age := 0, images := 0 }
    (0, s.setObj 0xA050 (n + 1) (stationByte false false false x.withheld 0 : Nat))

end Sys2Proof.Machine
end

