-- ==== Sys2Proof/Machine/Lifecycle.lean ====
section
/-!
DEFINITION. NOR banks, the vault, operating time, the life-cycle request and the hot-swap controller (R433 to R447,
R469): what chapters 16 and 17 do short of a reset.
Marks (notes/assumptions): DEDUCED 59, 98; DESIGN CHOICE 10.
-/
namespace Sys2Proof.Machine

/-! ### NOR banks (R433 to R436) -/

/-- A bank by number. -/
def State.bank (s : State) (k : Nat) : Bank := if k = 0 then s.pwr.bank0 else s.pwr.bank1

/-- Stores a bank. -/
def State.setBank (s : State) (k : Nat) (b : Bank) : State :=
  { s with pwr := if k = 0 then { s.pwr with bank0 := b } else { s.pwr with bank1 := b } }

/-- Security version of a bank's image; the factory image's differs from firmware to firmware. -/
def bankSec (b : Bank) (k : Nat) : Nat :=
  if b.factory then (Config.perCard (4294967296 + k)).toNat % 65536 else getLe b.image 6 2

/-- Firmware revision of a bank's image. -/
def bankRev (b : Bank) (k : Nat) : Int :=
  if b.factory then Config.perCard (objKey 0x2050 (9 + k)) else (getLe b.image 8 4 : Nat)

/-- The boot ROM key a header names. -/
def bootKey (k : Nat) : List Byte := freeBytes 64 (4294967296 + k)

/-- Why bank `k`, holding `b`, is not valid: 1 header, 2 target, 3 hash, 4 signature, 5 security version; 0 valid (R434). -/
def bankReason (s : State) (k : Nat) (b : Bank) : Nat :=
  let i := b.image
  let body := (i.drop 128).take (getLe i 12 4)
  if b.factory then (if bankSec b k < s.objN 0x2050 8 then 5 else 0)
  else if getLe i 0 2 ≠ 0xF1A0 ∨ getLe i 2 2 ≠ 128 ∨ crc32c (i.take 124) ≠ getLe i 124 4 ∨ getLe i 12 4 < 1
      ∨ 16777216 < getLe i 12 4 ∨ i.length ≠ 192 + getLe i 12 4 ∨ 3 < getLe i 26 2 then 1
  else if getLe i 4 2 ≠ 0x0240 then 2
  else if sha256 body ≠ sliceAt i 32 32 then 3
  else if ecdsaValid (bootKey (getLe i 26 2)) (sha256 (i.take 128 ++ body)) (i.drop (i.length - 64)) = false then 4
  else if getLe i 6 2 < s.objN 0x2050 8 then 5
  else 0

/-- The bank not booted. -/
def otherBank (s : State) : Nat := 1 - s.objN 0x2050 3

/-- A command HK takes from boot ROM too (R434). -/
def onBoot (s : State) (f : State → State) : Out := if s.hostUp ∨ s.pwr.bootRom then .next (f s) else .next s

/-- A firmware image has arrived (R435): its header is checked on arrival and a security version below the minimum is
refused at once; else the bank not booted is marked invalid before its first erase and programming begins, paused while
the die temperature inhibits it. -/
def execFirmwareImageWrite (image : List Byte) (s : State) : Out :=
  onBoot s fun s =>
    let k := otherBank s
    let busy := s.pwr.program.isSome
    let bad : Nat := if image.length < 128 ∨ crc32c (image.take 124) ≠ getLe image 124 4 ∨ getLe image 0 2 ≠ 0xF1A0 then 1
      else if getLe image 4 2 ≠ 0x0240 then 2
      else if getLe image 6 2 < s.objN 0x2050 8 then 5 else 0
    if busy then settle s 0x2050 1 errBusy
    else if bad ≠ 0 then settle (raiseHk s 0x0F06 [d32 k, d32 bad]) 0x2050 1 errTransfer
    else
      let s := s.setObjBit 0x2050 5 k false
      let s := { s with pwr := { s.pwr with program := some image } }
      if s.objB 0x6040 2 then (s.setObj 0x2050 2 4).setB 0x6040 4 true else s.setObj 0x2050 2 1

/-- Programming ends and the bank is verified (R435): valid only if it passes, else the transfer ends with TRANSFER. -/
def execBankProgramComplete (s : State) : Out :=
  onBoot s fun s =>
    match s.pwr.program with
    | none => s
    | some image =>
      if s.objB 0x6040 2 then s else
      let k := otherBank s
      let b : Bank := ⟨false, image⟩
      let s := { s.setBank k b with pwr := { (s.setBank k b).pwr with program := none } }
      let r := bankReason s k b
      if r = 0 then
        let s := ((s.setObjBit 0x2050 5 k true).setObj 0x2050 2 5).setObj 0x2050 (9 + k) (bankRev b k)
        settle (raiseHk s 0x0F07 [d32 k, d32 (bankRev b k), d32 (bankSec b k)]) 0x2050 1 errOk
      else settle (raiseHk (s.setObj 0x2050 2 6) 0x0F06 [d32 k, d32 r]) 0x2050 1 errTransfer

/-- A bank is selected for the next boot; a newly selected bank boots on trial (R436). -/
def selectBank (s : State) (k source : Nat) : State :=
  let s := if s.obj 0x2050 4 = k then s else { s with pwr := { s.pwr with trialNext := true } }
  raise (s.setObj 0x2050 4 k) 0x0F0A 11 [d8 k, d32 source]

/-- A write of 0x2050:4: a valid bank only; the RWS write is logged (R436). -/
def execBankSelectWrite (v : BitVec 8) (s : State) : Out :=
  onHost s fun s =>
    let k := v.toNat
    let o := writerOf s 0x2050 4
    let err := if 1 < k ∨ bitOf (s.obj 0x2050 5) k = false then errRange else errOk
    rwsWrite s 0x2050 4 err (fun s => logChange s 0x2050 4 o 1 (d8 (s.obj 0x2050 4)) (d8 k)) fun s => selectBank s k 1

/-- A bank on trial has run 600 s: the trial is confirmed and the minimum security version rises to the bank's own
(R436). -/
def execTrialConfirm (s : State) : Out :=
  onHost s fun s =>
    if s.obj 0x2050 6 = 1 then
      let k := s.objN 0x2050 3
      let v : Int := bankSec (s.bank k) k
      let s := (s.setObj 0x2050 6 2).setObj 0x2050 7 0
      let s := if s.obj 0x2050 8 < v then s.setObj 0x2050 8 v else s
      raise s 0x0F08 11 [d8 k, d32 v]
    else s

/-! ### Operating time (R439) -/

/-- Operating seconds counted up to now, in counter time. -/
def countOp (s : State) : State :=
  let secs := elapsedNs s.clk s.pwr.opFrom s.clk.c / 1000000000
  if secs ≤ 0 then s else
  let ticks := (secs * 1000000000 * 1099511627776 / (4 * (1099511627776 + s.clk.rho))).toNat
  { s.setObj 0x2060 4 (inU32' (s.obj 0x2060 4 + secs)) with pwr := { s.pwr with opFrom := s.pwr.opFrom + ticks } }
where
  /-- The count as a U32; beyond its range the spec states no value. -/
  inU32' (v : Int) : Int := if v < 4294967296 then v else (Config.countBeyond v.toNat : Nat)

/-- The counters record is committed. -/
def commitCounters (s : State) : State :=
  let s := countOp s
  { s.bump 0x2080 1 with pwr := { s.pwr with opCommitted := s.objN 0x2060 4 } }

/-- Every 10 s (R439). -/
def execCountersCommit (s : State) : Out := onHost s commitCounters

/-! ### The vault (R437, R440) -/

/-- The status 0x2070:1 shows a vault bit. -/
def showVault (s : State) (b : Nat) (on : Bool) : State := if s.hostUp then s.setObjBit 0x2070 1 b on else s

/-- The cover switch opens. -/
def execCaseSwitchOpen (s : State) : Out :=
  .next (showVault { s with pwr := { s.pwr with vault := { s.pwr.vault with caseOpen := true } } } 2 true)

/-- The capacitor falls below 2.2 V. -/
def execVaultCapacitorLow (capacitor : BitVec 16) (s : State) : Out :=
  let s := { s with pwr := { s.pwr with vault := { s.pwr.vault with low := true } } }
  .next (showVault (if s.hostUp then s.setObj 0x2070 3 capacitor.toNat else s) 3 true)

/-- The capacitor falls below 2.0 V: the registers clear to zero. -/
def execVaultPowerOn (s : State) : Out :=
  .next { s with pwr := { s.pwr with vault := { alive := false } } }

/-- A write of 1 to 0x2070:4 in a safety session clears both latches (R440). -/
def execClearVaultLatches (s : State) : Out :=
  onHost s fun s =>
    let o := writerOf s 0x2070 4
    rwsWrite s 0x2070 4 errOk (fun s => logChange s 0x2070 4 o 1 (d8 0) (d8 1)) fun s =>
    let s := { s with pwr := { s.pwr with vault := { s.pwr.vault with removal := false, caseOpen := false } } }
    (s.setObjBit 0x2070 1 1 false).setObjBit 0x2070 1 2 false

/-! ### Life-cycle (R444 to R447) -/

/-- The region mask of a transition (R446). -/
def wipeMask (old new : Nat) : Nat := if new = 4 then 148 else if old = 0 ∧ new = 1 then 252 else 0

/-- The pairs of states a transition may join (R445). -/
def pairAllowed (old new : Nat) : Bool :=
  [(0, 1), (1, 2), (2, 3), (3, 2), (1, 4), (2, 4), (3, 4)].contains (old, new)

/-- Why a transition is refused, or 0 (R445); `auth` says that the request came inside a safety session or the lock. -/
def transitionRefusal (s : State) (new : Nat) (auth : Bool) : Nat :=
  let old := s.objN 0x2040 1
  if old ≠ 0 ∧ auth = false then 5
  else if pairAllowed old new = false then 1
  else if s.isActive ∧ s.obj 0x6880 4 ≠ 0 then 2
  else if old = 1 ∧ new = 2 ∧ (s.log.derived = [] ∨ s.obj 0x1210 4 = 0 ∨ s.obj 0x6820 1 = 0) then 3
  else if s.pwr.transition.isSome ∨ s.pwr.program.isSome then 4
  else 0

/-- A refused request: its event and 0x2040:4. -/
def refuseTransition (s : State) (new reason : Nat) : State :=
  raise (s.setObj 0x2040 4 reason) 0x0F02 11 [d8 new, d8 reason]

/-- An accepted request: HK commits the record with the new state and the region mask (R447 steps 1 and 2). -/
def beginTransition (s : State) (new source : Nat) : State :=
  let old := s.objN 0x2040 1
  let s := (s.setObj 0x2040 3 new).bump 0x2080 1
  { s with pwr := { s.pwr with transition := some (old, new, source, wipeMask old new) } }

/-- HK burns the fuses the new state needs (R444, R447 step 3). -/
def burnFuses (s : State) (new : Nat) : State :=
  let p := s.pwr
  let p := { p with fuseC := p.fuseC || decide (1 ≤ new), fuseF := p.fuseF || decide (2 ≤ new), fuseR := p.fuseR || decide (new = 4) }
  let v : Int := (if p.fuseC then 1 else 0) + (if p.fuseF then 2 else 0) + (if p.fuseR then 4 else 0)
  { s.setObj 0x2040 5 v with pwr := p }

/-! ### Hot swap (R469) -/

/-- The hot-swap status 0x2090:6 follows the switches. -/
def showSwap (s : State) : State :=
  let p := s.pwr
  s.setObj 0x2090 6 ((if p.present then 1 else 0) + (if p.mainSwitch then 2 else 0) + (if p.inrushFail then 4 else 0)
    + (if p.standbySwitch then 8 else 0) + (if p.j2Open then 0 else 16))

/-- PRESENT has stayed closed for 50 ms: the standby switch closes and main is ramped. -/
def execPresentClosed (s : State) : Out :=
  let s := { s with pwr := { s.pwr with present := true, standbySwitch := true, mainSwitch := true, inrushFail := false } }
  .next (showSwap ((s.setObj 0x2090 7 0).bump 0x2090 8))

/-- Main has not reached 40 V within 100 ms of the start of the ramp: the switch opens; the third failure keeps it open until
PRESENT opens. -/
def execMainRampTimeout (s : State) : Out :=
  if s.pwr.mainSwitch ∧ s.pwr.mainUp = false then
    let n := s.obj 0x2090 7 + 1
    let s := { s with pwr := { s.pwr with mainSwitch := false, inrushFail := decide (3 ≤ n) } }
    .next (showSwap (s.setObj 0x2090 7 (if n < 3 then n else 3)))
  else .next s

/-- A second after a failed ramp the controller retries. -/
def execMainRampRetry (s : State) : Out :=
  if s.pwr.present ∧ s.pwr.mainSwitch = false ∧ s.pwr.inrushFail = false ∧ s.obj 0x2090 7 ≠ 0 then
    .next (showSwap { s with pwr := { s.pwr with mainSwitch := true } })
  else .next s

/-- The management standby comes up: HK's island starts and Alley takes its address from the slot-ID pins (R298, R381). -/
def execStandbyPowerUp (pins : BitVec 5) (s : State) : Out :=
  if s.pwr.standbyUp then .next s else
  let s := { s with pwr := { s.pwr with standbyUp := true } }
  let s := (s.setObj 0x1400 1 (64 + pins.toNat)).setObj 0x1400 2 pins.toNat
  .next (s.setObj 0x7001 1 (pins.toNat % 2 : Nat))

/-- The management standby is lost: HK's island and Alley stop; with main also absent the next reset reads power-on
(R429). -/
def execStandbyPowerLoss (s : State) : Out :=
  let s := { s with alley := {}, pwr := { s.pwr with standbyUp := false, allLost := s.pwr.allLost || !s.pwr.mainUp } }
  .next (((s.setObj 0x1400 5 0).setObjBit 0x1211 2 2 false))

/-! ### Retained copies (R346) -/

/-- The newest valid copy. -/
def retNewest (s : State) : Option RetCopy :=
  (s.prog.copies.filter (·.valid)).foldl (fun (m : Option RetCopy) c => match m with
    | some d => if d.seq ≤ c.seq then some c else some d
    | none => some c) none

/-- A checkpoint: over the copy that does not hold the newer valid one; one that is cut short leaves its copy failing (R346). -/
def checkpointRetained (s : State) (complete : Bool) : State :=
  match s.prog.image with
  | none => s
  | some im =>
    let s := countOp s
    let newest := retNewest s
    let seq : Nat := match newest with | some c => c.seq + 1 | none => 1
    let c : RetCopy := ⟨complete, seq, im.retCrc, s.objN 0x2060 4, padTo im.initRetained.length s.prog.sealedRet⟩
    let s := s.mapProg fun p => { p with copies := newest.toList ++ [c] }
    if complete then (((s.setObj 0xA060 1 (s.obj 0x2060 4)).bump 0xA060 2).bump 0x2080 1) else s

end Sys2Proof.Machine
end

