-- ==== Sys2Proof/Machine/Estimator.lean ====
section
/-!
DEFINITION. The work an estimator engine does for a frame (R135 to R143, R146, R155 to R166): current source, advance, voltage
updates, rest, anchors, walks, load steps and spectra.
Marks (notes/assumptions): DEDUCED 38, 40, 45, 158; DESIGN CHOICE 41, 43.
-/
namespace Sys2Proof.Machine

/-! ### What all engines share in a frame (R135, R141, R164, R165) -/

/-- Frame mean of the current source, A. -/
def srcCurrent (s : State) : Rat := if s.cells.source = 0 then s.objF 0x3410 3 else s.objF 0x3420 3

/-- Its uncertainty, A. -/
def srcUnc (s : State) : Rat := if s.cells.source = 0 then s.objF 0x3410 4 else s.objF 0x3420 4

/-- Variance of the frame mean's noise of a source, A² (R102): 20 mA or 100 µV × Hall scale over the root of T_F in µs. -/
def srcNoise (s : State) (src : Nat) : Rat :=
  let w : Rat := if src = 0 then 1 / 50 else s.objF 0x3420 1 / 10000
  w * w / (s.obj 0x2011 0 : Rat)

/-- The source is I_H while I_S lacks VALID or the vote reads 1 (R135). -/
def chooseSource (s : State) : State :=
  let src : Nat := if chanValid s 0 ∧ s.obj 0x3460 1 ≠ 1 then 0 else 1
  if src = s.cells.source then s else
  let s := raiseEe s 0 0x0503 [d32 s.cells.source, d32 src]
  { s with cells := { s.cells with source := src } }

/-- The rest window is open: it is scheduled and its start time has come (R147). -/
def windowOpen (s : State) : Bool :=
  decide (s.cells.window = 2) && decide (time80Ns (s.obj 0x4012 5) * 65536 ≤ s.now)

/-- The string rest begins and ends (R141, R143); a crossing in the rest window is noted (R147). -/
def stringRest (s : State) : State :=
  let rest := decide (absR (srcCurrent s) < restAmps s)
  let c := s.cells
  let s := if c.stringRest ∧ rest = false then
      let (a, b) := c.anchored
      let s := if a + b = 0 then s else raiseEe s 0 0x0504 [d32 a, d32 b]
      { s with cells := { s.cells with anchored := (0, 0) } }
    else s
  let cross := if windowOpen s && !rest && c.windowCross.isNone then some c.imageFrame else c.windowCross
  { s with cells := { s.cells with stringRest := rest, windowCross := cross } }

/-- The profile allows step fits (R167). -/
def stepsAllowed (s : State) : Bool := !([3, 4].contains s.profile) && !s.cells.backlogFlag

/-- A load step of the instant value of I, of the source in force, between the last two frames: its new value and its change, A (R135,
R164). -/
def stepOf (s : State) : Option (Rat × Rat) :=
  let of (p : Rat × Rat) : Rat := if s.cells.source = 0 then p.1 else p.2
  match s.cells.inst with
  | [(f1, p1), (f0, p0)] =>
    let i1 := of p1
    let i0 := of p0
    if f1 = (f0 + 1) % 4294967296 ∧ f1 = s.cells.imageFrame ∧ s.obj 0x4000 1 ≠ 0
        ∧ (s.obj 0x4060 1 : Rat) / 10000 * ratedAh s ≤ absR (i1 - i0) then some (i1, i1 - i0) else none
  | _ => none

/-- A step opens the window of a fit, and a current that leaves its band closes it (R165). -/
def stepWatch (s : State) : State :=
  if stepsAllowed s = false then { s with cells := { s.cells with step := none } } else
  match stepOf s with
  | some (i, d) =>
    let s := { s with cells := { s.cells with step := some (s.frame.boundaryC, i, d) } }
    (allCells s).foldl (fun s p => s.setCell p.1 { s.cell p.1 with fit := some [] }) s
  | none =>
    match s.cells.step with
    | some (_, i, _) =>
      let band := maxR (absR i / 50) 1
      if band < absR (srcCurrent s - i) then { s with cells := { s.cells with step := none } } else s
    | none => s

/-- EE0 takes the frame values from lane 14, and the frame's source, rest and step are known to all engines. -/
def estCommon (s : State) : State :=
  if s.cells.estFrame = some s.cells.imageFrame then s else
  let s := (laneDrain s 14).2
  let s := { s with cells := { s.cells with estFrame := some s.cells.imageFrame, estDone := 0 } }
  stepWatch (stringRest (chooseSource (bleedFrame s)))

/-! ### Temperature (R135) -/

/-- Value of CMU temperature channel j, none where it is not valid. -/
def tempChan (s : State) (j : Nat) : Option Rat := if s.obj 0x3811 j = 0 then some (s.obj 0x3810 j : Rat) else none

/-- Mean of the valid ones of a list of channels. -/
def tempMean (s : State) (l : List Nat) : Option Rat :=
  let v := l.filterMap (tempChan s)
  if v = [] then none else some (meanR v)

/-- The CMU temperature channels of the string. -/
def allTempChans (s : State) : List Nat :=
  ((List.range 40).filter (slotUsed s)).flatMap (fun k => (List.range 4).map (fun i => 4 * k + i + 1))

/-- T_n of a cell. -/
def cellTemp (s : State) (k n : Nat) (x : Cell) : Cell :=
  let j := s.objN 0x4107 n
  let t := if j = 0 then tempMean s ((List.range 4).map (fun i => 4 * k + i + 1)) else tempChan s j
  match t with
  | some t => { x with temp := t, tempKnown := true, tempHeld := false }
  | none =>
    let x := { x with tempHeld := true, heldFrom := if x.tempHeld then x.heldFrom else s.frame.boundaryC }
    if x.tempKnown then x else { x with temp := (tempMean s (allTempChans s)).getD 400 }

/-! ### The advance (R136, R137, R139, R157) -/

/-- The dispatch SoC after the increment: it closes the gap by at most `f`·Δt in the string's direction (R157). -/
def foldDispatch (s : State) (i : Rat) (ns : Int) (x : Cell) : Cell :=
  let g := x.z - x.zd
  let m := roundRne ((s.obj 0x4040 1 * 10000000 * ns : Int) / (60000000000 : Rat))
  let t := restAmps s
  let up := decide (-t < i)
  let down := decide (i < t)
  if g = 0 then setStat (setStat x 2 false) 3 false
  else if g < 0 ∧ down then setStat (setStat { x with zd := x.zd + (if g < -m then -m else g) } 2 true) 3 false
  else if 0 < g ∧ up then setStat (setStat { x with zd := x.zd + (if m < g then m else g) } 2 true) 3 false
  else setStat (setStat x 2 false) 3 true

/-- The covariances a frame later; the spec states no process noise for va and vb, so its terms are free (DESIGN CHOICE 41). -/
def spread (al be : Rat) (n frame : Nat) (x : Cell) : Cell :=
  let q (t : Nat) : Int := Config.freeReal t [(n : Int), (frame : Int)]
  let grown (v : Rat) (t : Nat) : Int := roundRne v + ((q t).natAbs : Int)
  { x with
    vaa := grown (al * al * x.vaa) 1360, vbb := grown (be * be * x.vbb) 1361, vab := roundRne (al * be * x.vab) + q 1362
    zva := roundRne (al * x.zva) + q 1363, zvb := roundRne (be * x.zvb) + q 1364 }

/-- The string current a frame is predicted at: in Park none, so that i = −i_b (R167). -/
def predAmps (b : Behind) : Rat := if b.park then 0 else b.i

/-- One frame of R136 for a cell, its uncertainty (R139) and its dispatch state (R157). -/
def advance (s : State) (l : List Byte) (b : Behind) (p : CellIn) (x : Cell) : Cell :=
  let n := p.pos
  let i := predAmps b
  let a := cellAmps i p.ib
  let dt : Rat := (b.ns : Rat) / 1000000000
  let q := capacity s n
  let eta : Rat := if 0 < a then (s.obj 0x4000 2 : Rat) / 1000000 else 1
  let dz := roundRne (eta * a * dt / (3600 * q) * (zOne : Rat))
  let m := bandNow s x
  let al := expR (-dt * 1000 / m.ta)
  let be := expR (-dt * 1000 / m.tb)
  let va := roundRne (al * x.va + m.ra / 1000000 * (1 - al) * a * 1000000000000)
  let vb := roundRne (be * x.vb + m.rb / 1000000 * (1 - be) * a * 1000000000000)
  let sh := if absR a < restAmps s then x.s else
    let goal : Int := if 0 < a then 65536 else 0
    let k := kappa l
    let w := if k = 0 then 1 else minR 1 (absR a * dt / (3600 * q * k))
    (clampI 0 65535 (roundRne ((x.s : Rat) + ((goal : Rat) - x.s) * w))).toNat
  let dd := (b.u + ((p.ib.natAbs : Nat) : Rat) / 20000000) * dt / (3600 * q) + absR ((dz : Rat) / zOne) * capUnc s n / q
  let pn := srcNoise s b.src * dt * dt / (3600 * q * (3600 * q))
  let x := spread al be n b.frame { x with z := x.z + dz, zd := x.zd + dz, va := va, vb := vb, s := sh, p := x.p + pn, d := x.d + dd }
  let v := roundRne ((ocvE l x.z x.temp x.s + m.rs / 1000000 * a) * 1000000000000) + va + vb
  foldDispatch s i b.ns { x with pred := ((b.frame, v) :: x.pred).take 16 }

/-! ### Voltage updates and the weak reference (R138, R146) -/

/-- A cell that may be updated: not MISSING, ESTIMATED or SUSPECT. -/
def measurable (s : State) (n : Nat) : Bool := !(cellBit s n 1 || cellBit s n 3 || cellBit s n 4)

/-- An update falls due in the frame. -/
def updateDue (s : State) (n frame : Nat) : Bool :=
  if s.profile = 1 ∨ s.profile = 3 then true else decide (frame % 16 = n % 16)

/-- The extended Kalman filter's update of va and vb with H = [1, 1]: an innovation `e` in 10^-12 V whose measurement has the variance
`r` in 10^-24 V². z has no gain, as no voltage update changes it (R138). -/
def kalman (e r : Rat) (x : Cell) : Cell :=
  let pa := x.vaa + x.vab
  let pb := x.vab + x.vbb
  let pz : Rat := (x.zva + x.zvb : Int)
  let h : Rat := ((pa + pb : Int) : Rat) + r
  if h = 0 then x else
  let ka : Rat := pa / h
  let kb : Rat := pb / h
  { x with
    va := x.va + roundRne (ka * e), vb := x.vb + roundRne (kb * e)
    vaa := x.vaa - roundRne (ka * pa), vab := x.vab - roundRne (ka * pb), vbb := x.vbb - roundRne (kb * pb)
    zva := x.zva - roundRne (ka * pz), zvb := x.zvb - roundRne (kb * pz) }

/-- The measurement variance (u_y / 3)² + σ_m² in 10^-24 V², of an uncertainty in µV. -/
def measVar (s : State) (u : Rat) : Rat :=
  let m : Rat := s.obj 0x4000 3
  (u * u / 9 + m * m) * 1000000000000

/-- A voltage update: the voltage in 0.125 µV, its uncertainty in µV and the prediction in 10^-12 V. -/
structure VoltUpdate where
  v : Nat
  u : Rat
  pred : Rat

/-- The prediction a filtered value is compared with: the mean of those of the 16 frames that end with the frame (R138). -/
def predMean (frame : Nat) (x : Cell) : Rat :=
  meanR ((x.pred.filter (fun p => decide (((frame : Int) - (p.1 : Int)) % 4294967296 < 16))).map (fun p => (p.2 : Rat)))

/-- The updates Response makes in a frame, older first: by the sample of the frame, and by one that came in late with the image, a frame
after its own, each against the prediction of its own instant (R138). -/
def dueSamples (frame : Nat) (x : Cell) : List VoltUpdate :=
  x.hist.reverse.filterMap (fun h =>
    if (h.frame = frame ∧ h.late = none) ∨ h.late = some frame then
      (x.pred.find? (fun p => p.1 == h.frame)).map (fun p => ⟨h.v, h.u, p.2⟩)
    else none)

/-- The voltage updates of a frame in which one is due. -/
def dueUpdates (s : State) (n frame : Nat) (x : Cell) : List VoltUpdate :=
  if s.profile = 1 then dueSamples frame x
  else if s.profile = 3 then (x.pred.head?.map (fun p => (⟨s.objN 0x3800 n, s.obj 0x3802 n, p.2⟩ : VoltUpdate))).toList
  else [⟨s.objN 0x3801 n, s.obj 0x3803 n, predMean frame x⟩]

/-- The weak reference of a starved cell in a scheduled update (R146). -/
def weakRef (s : State) (l : List Byte) (a : Rat) (m : VoltUpdate) (x : Cell) : Cell :=
  let lim : Rat := s.obj 0x4011 2
  let steep (sh : Nat) : Bool := decide (lim ≤ absR (ocvSlope l x.z x.temp sh) * 10000)
  if statBit x 13 ∧ steep 0 ∧ steep 65536 ∧ absR a ≤ ratedAh s / 2 ∧ 160 ≤ x.temp ∧ x.temp ≤ 720 then
    let u := m.u / 1000000
    let v := (m.v : Rat) / 8000000 - (bandNow s x).rs / 1000000 * a - (x.va + x.vb : Int) / (1000000000000 : Rat)
    let zm := ocvInverse l v x.temp x.s
    let sl := absR (ocvSlope l zm x.temp x.s)
    if sl = 0 then setStat x 7 false else
    let um := (u + uTable l x + uHyst l zm x.temp x.s + 3 * (s.obj 0x4000 3 : Rat) / 1000000) / sl
    setStat (combine x zm um) 7 true
  else setStat x 7 false

/-- The scheduled work on the measured voltage: each update, and with it the weak reference of a starved cell. -/
def scheduled (s : State) (n : Nat) (l : List Byte) (a : Rat) (frame : Nat) (x : Cell) : Cell :=
  let ok := measurable s n
  let x := setStat x 1 (!ok)
  if ok ∧ updateDue s n frame then
    (dueUpdates s n frame x).foldl (fun x m => weakRef s l a m (kalman ((m.v : Rat) * 125000 - m.pred) (measVar s m.u) x)) x
  else x

/-! ### Rest (R141 to R143) -/

/-- Sums of a least-squares fit of v∞ + A·exp(−t/τa) + B·exp(−t/τb): the symmetric 3 × 3 matrix, the right side and Σv². -/
structure FitSums where
  n : Rat := 0
  a : Rat := 0
  b : Rat := 0
  aa : Rat := 0
  ab : Rat := 0
  bb : Rat := 0
  v : Rat := 0
  va : Rat := 0
  vb : Rat := 0
  vv : Rat := 0

/-- The sums over the rest points, V. -/
def fitSums (ta tb : Rat) (pts : List (Nat × Nat)) : FitSums :=
  pts.foldl (fun m p =>
    let a := expR (-(p.1 : Rat) * 1000 / ta)
    let b := expR (-(p.1 : Rat) * 1000 / tb)
    let v : Rat := (p.2 : Rat) / 8000000
    ⟨m.n + 1, m.a + a, m.b + b, m.aa + a * a, m.ab + a * b, m.bb + b * b, m.v + v, m.va + v * a, m.vb + v * b, m.vv + v * v⟩) {}

/-- The fit at t seconds: v∞, the remaining relaxation, the squared rms residual and the variance of v∞; none where the
sums do not determine it. -/
def fitRest (ta tb : Rat) (pts : List (Nat × Nat)) (t : Rat) : Option (Rat × Rat × Rat × Rat) :=
  let m := fitSums ta tb pts
  let c11 := m.aa * m.bb - m.ab * m.ab
  let c12 := m.ab * m.b - m.a * m.bb
  let c13 := m.a * m.ab - m.aa * m.b
  let det := m.n * c11 + m.a * c12 + m.b * c13
  if det = 0 ∨ m.n ≤ 3 then none else
  let c22 := m.n * m.bb - m.b * m.b
  let c23 := m.a * m.b - m.n * m.ab
  let c33 := m.n * m.aa - m.a * m.a
  let v0 := (c11 * m.v + c12 * m.va + c13 * m.vb) / det
  let a0 := (c12 * m.v + c22 * m.va + c23 * m.vb) / det
  let b0 := (c13 * m.v + c23 * m.va + c33 * m.vb) / det
  let ssr := m.vv - v0 * m.v - a0 * m.va - b0 * m.vb
  some (v0, absR (a0 * expR (-t * 1000 / ta) + b0 * expR (-t * 1000 / tb)), ssr / m.n, ssr / (m.n - 3) * c11 / det)

/-- v∞ and u∞ in V where the extrapolation meets its limits (R142). -/
def restExtrapolated (s : State) (x : Cell) (t : Int) : Option (Rat × Rat) :=
  if s.objB 0x4010 3 = false ∨ t < s.obj 0x4010 4 then none else
  let b := bandNow s x
  match fitRest b.ta b.tb x.points t with
  | none => none
  | some (v, rem, ms, var) =>
    let lim : Rat := (s.obj 0x4010 6 : Rat) / 1000000
    if rem ≤ (s.obj 0x4010 5 : Rat) / 1000000 ∧ ms ≤ lim * lim ∧ var ≤ 1 / 100000000 then some (v, sqrtR var) else none

/-- One more point of the extrapolation: one filtered value a second, from 60 s (R142). -/
def addPoint (v : Nat) (t : Int) (x : Cell) : Cell :=
  let had := match x.points.getLast? with | some p => (p.1 : Int) == t | none => false
  if t < 60 ∨ had = true then x
  else { x with points := x.points ++ [(t.toNat, v)] }

/-! ### Walks (R159 to R161) -/

/-- A span takes a frame (R159). -/
def spanFrame (s : State) (b : Behind) (p : CellIn) (charging : Int) (w : WalkSpan) : WalkSpan :=
  let (lo, hi) := w.t.getD (p.temp, p.temp)
  let lo := minR lo p.temp
  let hi := maxR hi p.temp
  let t := w.ns + b.ns
  let miss := if bitOf p.bits 1 then w.missing + 1 else w.missing
  let bad := if w.bad ≠ 0 then w.bad
    else if s.obj 0x4050 3 * 3600000000000 < t then 1
    else if 60000000000 < charging then 2
    else if (s.obj 0x4050 4 : Rat) * 16 / 10 < hi - lo then 3
    else if bitOf p.bits 3 ∨ bitOf p.bits 4 then 4
    else if 4000 < miss then 5
    else if b.src ≠ 0 then 6 else 0
  ⟨t, some (lo, hi), miss, bad⟩

/-- A walk takes a frame: its charge as the frame's prediction counts it, and what its conditions are judged on (R159, R160, R167). -/
def walkFrame (s : State) (b : Behind) (p : CellIn) (w : Walk) : Walk :=
  let dt : Rat := (b.ns : Rat) / 1000000000
  let a := cellAmps (predAmps b) p.ib
  let resting := decide (absR (cellAmps b.i p.ib) < restAmps s)
  let eta : Rat := if 0 < a then (s.obj 0x4000 2 : Rat) / 1000000 else 1
  let run : Int := if restAmps s ≤ b.i then w.chargeNs + b.ns else 0
  let w := { w with q := w.q + eta * a * dt, uq := w.uq + b.u * dt, chargeNs := run }
  let left := w.left || !resting
  if left = false then w else
  let at_ := if resting then (match w.atRest with | some p => some p | none => some w.span) else none
  { w with left := true, span := spanFrame s b p run w.span, atRest := at_ }

/-- A capacity is accepted (R160, R162). -/
def learn (s : State) (r n : Nat) (q u : Rat) : State :=
  let old := s.obj 0x4108 n
  let qm := roundRne (q * 1000)
  let um := roundRne (u * 1000)
  let s := (s.setObj 0x4108 n qm).setObj 0x4109 n um
  let s := s.setObj 0x410A n (countUp 16 (s.obj 0x410A n))
  let s := countOp s
  let x := s.cell n
  let s := s.setCell n (setStat { x with learnedAt := s.objN 0x2060 4, capZ := x.z } 4 true)
  let s := raiseEe s r 0x0509 [d32 n, d32 old, d32 qm, d32 um]
  pushCommit s n

/-- A walk ends at its closing anchor of z and half-width `um`. -/
def closeWalk (s : State) (r n : Nat) (w : Walk) (um : Rat) : State :=
  let x := s.cell n
  let s := s.setCell n { x with walk := none }
  let fail (s : State) (k : Nat) : State :=
    let s := { s with cells := { s.cells with walkEnd := 7 } }
    raiseEe s r 0x050A [d32 n, d32 k]
  let bad := (w.atRest.getD w.span).bad
  if bad ≠ 0 then fail s bad else
  let dz : Rat := ((w.z - x.z : Int) : Rat) / zOne
  if dz ≤ 0 then fail s 7 else
  let qm := -w.q / 3600 / dz
  let u := qm * (w.u + um) / dz + w.uq / 3600 / dz
  let old := s.obj 0x4108 n
  let held : Rat := (old : Rat) / 1000
  let done (s : State) : State := { s with cells := { s.cells with walkEnd := 6 } }
  if old = 0 then done (learn s r n qm u)
  else if held * (s.obj 0x4050 5 : Rat) / 100 + u < absR (qm - held) then fail s 7
  else
    let uh := capUnc s n
    let t := uh * uh + u * u
    if t = 0 then done (learn s r n held 0)
    else done (learn s r n (held + uh * uh / t * (qm - held)) (uh * u / sqrtR t))

/-- What a rest anchor of half-width `um` does to the cell's walk. -/
def walkAnchor (s : State) (r n : Nat) (um : Rat) : State :=
  let x := s.cell n
  let lim : Rat := (s.obj 0x4050 10 : Rat) / 100000
  if lim < um then s
  else if s.obj 0x4050 1 * 10000000 ≤ x.z then
    let s := { s with cells := { s.cells with walkEnd := 0, walkSched := false } }
    s.setCell n { x with walk := some { z := x.z, u := halfWidth x } }
  else match x.walk with
    | some w => if x.z ≤ s.obj 0x4050 2 * 10000000 then closeWalk s r n w (halfWidth x) else s
    | none => s

/-! ### Anchors (R143) -/

/-- A rest qualifies: z is anchored to the open-circuit voltage. Cells anchored in a string rest are counted for its event. -/
def anchor (s : State) (r : Nat) (l : List Byte) (a : Rat) (p : CellIn) (ext : Option (Rat × Rat)) : State :=
  let n := p.pos
  let x := s.cell n
  let v0 := match ext with | some (v, _) => v | none => (p.vf : Rat) / 8000000
  let v := v0 - (bandNow s x).rs / 1000000 * a
  let zm := ocvInverse l v x.temp x.s
  let sl := absR (ocvSlope l zm x.temp x.s)
  let (t, e) := s.cells.anchored
  let counts := if s.cells.stringRest = false then (t, e) else if ext.isSome then (t, e + 1) else (t + 1, e)
  let left := if windowOpen s then s.cells.windowLeft.filter (· != n) else s.cells.windowLeft
  let s := { s with cells := { s.cells with anchored := counts, windowLeft := left } }
  let x := setStat (setStat { x with qualified := true, sinceNs := 0 } 5 true) 13 false
  if sl = 0 then s.setCell n x else
  let uv := (p.uf : Rat) / 1000000 + (match ext with | some (_, u) => 3 * u | none => 0)
  let um := (uv + uTable l x + uHyst l zm x.temp x.s) / sl
  let s := s.setCell n (combine x zm um)
  walkAnchor (if um ≤ (s.obj 0x4030 7 : Rat) / 100000 then verify s r n else s) r n um

/-- The rest of a cell in a frame; only a cell that has an estimate, and a table `l?` to read it from, is anchored. -/
def restFrame (s : State) (r : Nat) (l? : Option (List Byte)) (b : Behind) (p : CellIn) : State :=
  let n := p.pos
  let a := cellAmps b.i p.ib
  let x := s.cell n
  let x := { x with sinceNs := x.sinceNs + b.ns }
  if absR a < restAmps s then
    let ns := (match x.restNs with | some t => t | none => (x.credit : Int) * 1000000000) + b.ns
    let t := ns / 1000000000
    let x := setStat { x with restNs := some ns } 6 true
    match l? with
    | none => s.setCell n x
    | some l =>
      if x.qualified ∨ x.est = false then s.setCell n x else
      let x := addPoint p.vf t x
      let s := s.setCell n x
      if s.obj 0x4010 2 ≤ t then anchor s r l a p none
      else match restExtrapolated s x t with
        | some e => anchor s r l a p (some e)
        | none => s
  else
    s.setCell n (setStat (setStat { x with restNs := none, points := [], qualified := false, credit := 0 } 6 false) 5 false)

/-- REST_STARVED begins (R146). -/
def starveFrame (s : State) (r n : Nat) : State :=
  let x := s.cell n
  if statBit x 13 = false ∧ s.obj 0x4011 1 * 3600000000000 < x.sinceNs then
    let first := (List.range s.cellCount).all (fun k => !(statBit (s.cell (k + 1)) 13))
    let s := s.setCell n (setStat x 13 true)
    if first then raiseEe s r 0x0505 [d16 1, d32 (x.sinceNs / 3600000000000)] else s
  else s

/-! ### Load steps (R164) -/

/-- Rs of a cell from the step between the last two frames. -/
def stepCell (s : State) (n : Nat) (d : Rat) : State :=
  let x := s.cell n
  let f := s.cells.imageFrame
  let at_ (k : Nat) : Option Samp := x.hist.find? (fun h => h.frame == k)
  match at_ f, at_ ((f + 4294967295) % 4294967296) with
  | some b, some a =>
    if x.prevBad ∨ cellBit s n 0 ∨ cellBit s n 1 ∨ cellBit s n 4 then s else
    let rs := ((b.v : Rat) - a.v) / 8 / d
    (s.setCell n (updateBand s x (fun b => { b with rs := rs }))).bump 0x4116 n
  | _, _ => s

/-! ### Spectra (R166) -/

/-- The DFTs of the tones run: while an injection does, but not in a backlog (R120, R140, R166). -/
def tonesRun (s : State) : Bool := decide (s.obj 0x5400 17 = 2) && !s.cells.backlogFlag

/-- Spectra are computed: in Survey, and in Metrology while a multisine runs and 0x4060:4 is true. -/
def spectraRun (s : State) : Bool :=
  tonesRun s && (s.profile == 2 || (s.profile == 0 && s.objB 0x4060 4)
    || (s.profile == 5 && s.objB 0x4060 4))

/-- One step of a bin of frequency `f` mHz with the sample `x`, V or A, at an instant in ns. -/
def binStep (s : State) (f : Nat) (x : Rat) (t : Int) (ok : Bool) (b : Bin) : Bin :=
  let lam := expR (-((f * s.objN 0x2011 0 : Nat) : Rat) / 16000000000)
  let ph := tonePhase f t
  let w := (1 - lam) * x * 1000000000000
  ⟨roundRne (lam * b.re + w * sinTurn (ph + 1 / 4)), roundRne (lam * b.im - w * sinTurn ph), ok⟩

/-- A bin of a channel (0 I_S, else a cell position) is valid: 64 periods after the tone's start, f ≤ 0.4 / T_F, and the
signal-to-noise ratio of R120. -/
def binOk (s : State) (n k f : Nat) : Bool :=
  match s.cells.toneFrom with
  | none => false
  | some c =>
    decide (64000000000000 ≤ elapsedNs s.clk c s.frame.boundaryC * f) && decide (f * s.objN 0x2011 0 ≤ 400000000)
      && snrOk s n k

/-- Z = X_v / X_I in µΩ. -/
def binZ (v i : Bin) : Int × Int :=
  let m : Rat := (i.re : Rat) * i.re + (i.im : Rat) * i.im
  if m = 0 then (0, 0) else
  (roundRne (((v.re : Rat) * i.re + (v.im : Rat) * i.im) / m * 1000000),
   roundRne (((v.im : Rat) * i.re - (v.re : Rat) * i.im) / m * 1000000))

/-- The bins of I_S, and those of I_H, I_C and V_S that the cross-checks use, once a frame (R120, R166). -/
def currentBins (s : State) : State :=
  if tonesRun s = false then { s with cells := { s.cells with toneFrom := none } } else
  let start := s.cells.toneFrom.isNone
  let s := if start then { s with cells := { s.cells with toneFrom := some s.frame.boundaryC, ibins := [], gbins := [] } } else s
  let t := s.frame.prevAt
  let put (m : List (Nat × Bin)) (key f : Nat) (v : Rat) (ok : Bool) : List (Nat × Bin) :=
    storePut (fun _ => ({} : Bin)) m key (binStep s f v t ok (storeGet (fun _ => {}) m key))
  let b := (tonesOf s).foldl (fun m p => put m p.1 p.2 (s.objF 0x3410 2) (binOk s 0 p.1 p.2)) s.cells.ibins
  let g := (tonesOf s).foldl (fun m p =>
    put (put (put m (32 + p.1) p.2 (s.objF 0x3420 2) false) (64 + p.1) p.2 (s.objF 0x5600 14) false) (96 + p.1) p.2 (s.objF 0x3430 2) false)
    s.cells.gbins
  { s with cells := { s.cells with ibins := b, gbins := g } }

/-- The bins of a cell, and its spectrum where spectra are computed. -/
def cellBins (s : State) (n : Nat) : State :=
  if tonesRun s = false then s else
  let x := s.cell n
  if x.instant.1 ≠ s.cells.imageFrame then s else
  let fresh := decide (s.cells.toneFrom = some s.frame.boundaryC)
  let v : Rat := (s.obj 0x3800 n : Rat) / 8000000
  let bins := (tonesOf s).foldl (fun m p => storePut (fun _ => ({} : Bin)) m p.1
    (binStep s p.2 v x.instant.2 (binOk s n p.1 p.2) (storeGet (fun _ => {}) m p.1))) (if fresh then [] else x.bins)
  let x := { x with bins := bins }
  if spectraRun s = false then s.setCell n x else
  let spec := (tonesOf s).foldl (fun m p =>
    let b : Bin := storeGet (fun _ => {}) bins p.1
    if b.ok then storePut (fun _ => ((0 : Int), (0 : Int))) m p.1 (binZ b (storeGet (fun _ => {}) s.cells.ibins p.1)) else m) x.spec
  let f := if bins.any (fun p => p.2.ok) then s.cells.imageFrame else x.specFrame
  s.setCell n { x with spec := spec, specFrame := f }

/-! ### The fit of the RC pairs (R165) -/

/-- One filtered value per 16 F enters the fit a step has opened: v − E(z) − Rs·i with the time since the step. -/
def fitFrame (s : State) (l : List Byte) (b : Behind) (p : CellIn) : State :=
  let x := s.cell p.pos
  match s.cells.step, x.fit with
  | some (c, _, _), some m =>
    if b.frame % 16 ≠ p.pos % 16 ∨ x.est = false ∨ measurable s p.pos = false then s else
    let v : Rat := (p.vf : Rat) / 8000000
    let y := roundRne ((v - ocvE l x.z x.temp x.s - (bandNow s x).rs / 1000000 * cellAmps b.i p.ib) * 1000000000000)
    s.setCell p.pos { x with fit := some ((elapsedNs s.clk c s.frame.boundaryC, y) :: m) }
  | _, _ => s

/-! ### The work of one engine -/

/-- The frame of the image ran in Park (R167, R170). -/
def wasPark (s : State) : Bool := decide (s.frame.lastProfile = 3)

/-- Duration of the frame: in Park an active frame contributes the time since the one before (R170). -/
def frameNs (s : State) : Int :=
  if wasPark s then elapsedNs s.clk s.cells.parkC s.frame.boundaryC else s.frame.lastNs

/-- What the frame of the image gives every cell. -/
def frameIn (s : State) : Behind :=
  { frame := s.cells.imageFrame, op := s.objN 0x2060 4, i := srcCurrent s, u := srcUnc s, src := s.cells.source
    valid := chanValid s s.cells.source, park := wasPark s, ns := frameNs s, cells := [] }

/-- What it gives cell n, on channel c of slot k. -/
def cellIn (s : State) (k c n : Nat) : CellIn :=
  let x := s.cell n
  { pos := n, ib := x.ib, masked := inMask s k c s.cells.imageFrame, v := s.objN 0x3800 n, vf := s.objN 0x3801 n
    uf := s.objN 0x3803 n, held := x.held, bits := s.obj 0x3804 n, temp := x.temp, tempHeld := x.tempHeld }

/-- The cell advances over a frame, and its walk takes it; one that has no estimate, or no table `l?` to predict by, takes the
temperature alone. -/
def advanceCell (s : State) (l? : Option (List Byte)) (b : Behind) (p : CellIn) : State :=
  let x := { s.cell p.pos with temp := p.temp, tempHeld := p.tempHeld }
  match l? with
  | none => s.setCell p.pos x
  | some l =>
    if x.est = false then s.setCell p.pos x else
    let x := advance s l b p x
    s.setCell p.pos { x with walk := x.walk.map (walkFrame s b p) }

/-- The frames an engine is behind are taken in order: the advance, the rest and the record, but no voltage update, step or spectrum
(R140, R169). -/
def catchUp (s : State) (r n : Nat) (l? : Option (List Byte)) (bs : List Behind) : State :=
  bs.foldl (fun s b =>
    match b.cells.find? (fun p => p.pos == n) with
    | some p => recFrame (restFrame (advanceCell s l? b p) r l? b p) b p
    | none => s) s

/-- What a cell with an estimate takes from a frame: the advance and the voltage updates that are due. -/
def estimateFrame (s : State) (l : List Byte) (b : Behind) (p : CellIn) : State :=
  let n := p.pos
  if (s.cell n).est = false then s else
  let s := advanceCell s (some l) b p
  let x := setStat (setStat (s.cell n) 0 true) 4 (decide (s.obj 0x4108 n ≠ 0))
  s.setCell n (scheduled s n l (cellAmps b.i p.ib) b.frame x)

/-- The impedance work of a frame: a load step gives every cell its Rs, and a fit in course its values (R164, R165). -/
def impedanceFrame (s : State) (l? : Option (List Byte)) (b : Behind) (p : CellIn) : State :=
  match (if stepsAllowed s then stepOf s else none), l? with
  | some (_, d), _ => stepCell s p.pos d
  | none, some l => fitFrame s l b p
  | none, none => s

/-- One cell in a frame: the frames behind it, a first estimate that is due, and the frame itself. A cell that lacks its rated capacity
or its OCV table has no valid SoC and is not advanced; its rest, its marks and its bins go on (R120, R141, R155, R168). -/
def cellWork (s : State) (r k c n : Nat) (bs : List Behind) : State :=
  let l? := if cellConf s n then tableOf s n else none
  let s := catchUp s r n l? bs
  let x := setStat (cellTemp s k n (s.cell n)) 15 l?.isNone
  let s := s.setCell n (if l?.isNone then setStat x 0 false else x)
  let x := s.cell n
  let s := if l?.isSome ∧ x.first ≠ 0 ∧ x.held ∧ cellBit s n 1 = false then firstEstimate s r n else s
  let b := frameIn s
  let p := cellIn s k c n
  let s := match l? with
    | some l => estimateFrame s l b p
    | none => s
  let s := impedanceFrame (starveFrame (restFrame s r l? b p) r n) l? b p
  unverifiedFrame (cellBins s n) r n

/-- An engine does its work for the image assembled last, once: the cells of its ring, first over the frames it is behind. Of the frames
of Park only the active ones are worked. The use of window 3 is taken from the counter (R40, R44). -/
def execEstimatorFrameWork (engine : Fin 4) (s : State) : Out :=
  onHost s fun s =>
    if s.runs = false then s else
    let r := engine.val
    let fresh := decide (s.cells.estFrame ≠ some s.cells.imageFrame)
    let s := estCommon s
    let s := if fresh then currentBins s else s
    if s.cells.estDone.testBit r ∨ s.cells.sealFrame = some s.cells.imageFrame then s
    else if wasPark s ∧ s.rings.active ≠ some s.cells.imageFrame then s
    else
      let bs := storeGet (fun _ => []) s.cells.behind r
      let open_ := (closeTime s : Int)
      let use := (elapsedNs s.clk s.frame.prevC s.clk.c - open_) * 1000 / (2 * s.tf - 25000 - open_)
      let s := noteUse (passLane s 35) 3 (if use < 65536 then use else (Config.countBeyond use.toNat : Nat))
      let s := { s with cells := { s.cells with
        estDone := s.cells.estDone ||| 2 ^ r, behind := storePut (fun _ => []) s.cells.behind r [] } }
      (allCells s).foldl (fun s p =>
        let (n, k, c) := p
        if slotRing s k = r then cellWork s r k c n bs else s) s

end Sys2Proof.Machine
end

