-- ==== Sys2Proof/Machine/Records.lean ====
section
/-!
DEFINITION. The results of a frame at the output seal (R140), the cell records and their checkpoints (R169 to R180), the state
block (R151), commits through lane 43 (R162, R163, R442) and the estimator's host commands (R147, R158, R165).
Marks (notes/assumptions): DEDUCED 44, 45; DESIGN CHOICE 41, 43, 47, 141, 149.
-/
namespace Sys2Proof.Machine

/-! ### The bytes of a record (R174) -/

/-- An extreme and its stamp. -/
def extBytes (o : Option (Int × Nat)) : List Byte :=
  match o with
  | some (v, t) => leBytes 4 v ++ leBytes 4 (t : Int)
  | none => List.replicate 8 0#8

/-- The 796 bytes a record's CRC covers. -/
def cellRecBody (n : Nat) (c : CellRec) : List Byte :=
  leBytes 2 0x6C01 ++ leBytes 2 (n : Int) ++ leBytes 2 (c.digest : Int) ++ leBytes 2 (c.changes : Int)
    ++ leBytes 4 (c.created : Int) ++ leBytes 4 (c.gridSecs : Int) ++ c.ext.flatMap extBytes
    ++ (List.range 160).flatMap (fun k => leBytes 4 ((storeGet (fun _ => 0) c.grid k : Nat) : Int))
    ++ (List.range 16).flatMap (fun k => leBytes 4 ((storeGet (fun _ => 0) c.bands k : Nat) : Int))
    ++ leBytes 4 (c.charge : Int) ++ leBytes 4 (c.discharge : Int) ++ leBytes 4 (c.bleed : Int) ++ leBytes 4 (c.bleedTime : Int)
    ++ List.replicate 12 0#8

/-- The 800 bytes of a record. -/
def cellRecBytes (n : Nat) (c : CellRec) : List Byte := cellRecBody n c ++ leBytes 4 (crc32c (cellRecBody n c) : Nat)

/-- A U32 list from the bytes, zero entries left out. -/
def getCounts (l : List Byte) (o n : Nat) : List (Nat × Nat) :=
  (List.range n).filterMap (fun k => let v := getLe l (o + 4 * k) 4; if v = 0 then none else some (k, v))

/-- A pair of extremes; an empty pair has value and stamp zero. -/
def getExt (l : List Byte) (o : Nat) (signed : Bool) : List (Option (Int × Nat)) :=
  let v (o : Nat) : Int := if signed then toS 32 (getLe l o 4) else (getLe l o 4 : Nat)
  let a := (v o, getLe l (o + 4) 4)
  let b := (v (o + 8), getLe l (o + 12) 4)
  if a = (0, 0) ∧ b = (0, 0) then [none, none] else [some a, some b]

/-- A record from its bytes. -/
def cellRecParse (l : List Byte) : CellRec :=
  { digest := getLe l 4 2, changes := getLe l 6 2, created := getLe l 8 4, gridSecs := getLe l 12 4,
    ext := getExt l 16 false ++ getExt l 32 true ++ getExt l 48 true,
    grid := getCounts l 64 160, bands := getCounts l 704 16, charge := getLe l 768 4, discharge := getLe l 772 4,
    bleed := getLe l 776 4, bleedTime := getLe l 780 4 }

/-- A record's bytes are valid for position n (R178). -/
def cellRecValid (n : Nat) (l : List Byte) : Bool :=
  decide (l.length = 800) && getLe l 0 2 == 0x6C01 && getLe l 2 2 == n && crc32c (l.take 796) == getLe l 796 4

/-! ### Checkpoints (R175 to R178) -/

/-- The newer of two sequence numbers (R442). -/
def newerSeq (a b : Nat) : Bool :=
  let d := ((a : Int) - b) % 4294967296
  decide (1 ≤ d) && decide (d < 2147483648)

/-- A copy's header is valid. -/
def sliceValid (c : SliceCopy) : Bool := getLe c.bytes 0 2 == 0x6C10 && crc32c (c.bytes.take 28) == getLe c.bytes 28 4

/-- The copies of a slice with a valid header, the newer first. -/
def sliceCopies (s : State) (k : Nat) : List SliceCopy :=
  match s.cells.slices.filter (fun c => c.slice == k && sliceValid c) with
  | [a, b] => if newerSeq b.seq a.seq then [b, a] else [a, b]
  | l => l

/-- A slice is written over the copy that does not hold the newer header, its records as they stood at the last output seal (R176). -/
def writeSlice (s : State) (k : Nat) : State :=
  let (copy, seq) := match sliceCopies s k with
    | a :: _ => (1 - a.copy, (a.seq + 1) % 4294967296)
    | [] => (0, 1)
  let s := countOp s
  let ns := (List.range 36).filterMap (fun i => if 36 * k + i + 1 ≤ s.cellCount then some (36 * k + i + 1) else none)
  let h := leBytes 2 0x6C10 ++ leBytes 1 (k : Int) ++ leBytes 1 (ns.length : Int) ++ leBytes 4 (seq : Int)
    ++ leBytes 4 (s.obj 0x2060 4) ++ d80 (time80 s.now) ++ List.replicate 6 0#8
  let b := h ++ leBytes 4 (crc32c h : Nat) ++ ns.flatMap (fun n => cellRecBytes n (s.cell n).sealed)
  let keep := s.cells.slices.filter (fun c => !(c.slice == k && c.copy == copy))
  let s := { s with cells := { s.cells with slices := keep ++ [(⟨k, copy, seq, b⟩ : SliceCopy)] } }
  (((s.setObj 0x4420 1 k).bump 0x4420 2).setObj 0x4420 3 (s.obj 0x2060 4)).bump 0x2080 1

/-- Every 225 s: the slice that falls due goes to lane 43, or is skipped where it is full. -/
def execRecordCheckpoint (s : State) : Out :=
  onHost s fun s =>
    let k := s.cells.nextSlice
    let s := { s with cells := { s.cells with nextSlice := (k + 1) % 16 } }
    if (laneInfo 43).depth ≤ (s.lane 43).elems.length then raise s 0x0605 3 [d32 k] else lanePush s 43 (.nums [7, k])

/-- The record of a position from a copy of its slice. -/
def recIn (c : SliceCopy) (n : Nat) : Option CellRec :=
  let b := (c.bytes.drop (32 + 800 * ((n - 1) % 36))).take 800
  if (n - 1) % 36 < getLe c.bytes 3 1 ∧ cellRecValid n b then some (cellRecParse b) else none

/-- A position's record in force, its objects with it. -/
def putRecord (s : State) (n : Nat) (c : CellRec) : State := recObjs (s.setCell n { s.cell n with rec_ := c, rest := {}, sealed := c }) n

/-- Where a position's record was found. -/
inductive RecFrom where
  | newer
  | older
  | lost
  deriving DecidableEq, Repr

/-- Restores one position from the copies of its slice, the newer first. -/
def restoreRecord (s : State) (n : Nat) : State × RecFrom :=
  let cs := sliceCopies s ((n - 1) / 36)
  match cs.head?.bind (fun c => recIn c n) with
  | some c => (putRecord s n c, .newer)
  | none =>
    match (cs.drop 1).head?.bind (fun c => recIn c n) with
    | some c => (putRecord s n c, .older)
    | none => (raise (putRecord s n { created := s.objN 0x2060 4 }) 0x0602 3 [d32 n], .lost)

/-- The slice that follows the one whose valid copy has the highest sequence number (R176). -/
def resumeSlice (s : State) : Nat :=
  match (s.cells.slices.filter sliceValid).foldl (fun (m : Option SliceCopy) c => match m with
    | none => some c
    | some p => if newerSeq c.seq p.seq then some c else some p) none with
  | some c => (c.slice + 1) % 16
  | none => 0

/-- Restores every record at start (R178). -/
def restoreRecords (s : State) : State :=
  let (s, l) := (List.range s.cellCount).foldl (fun (acc : State × List RecFrom) i =>
    let (s, f) := restoreRecord acc.1 (i + 1)
    (s, f :: acc.2)) (s, [])
  let s := { s with cells := { s.cells with nextSlice := resumeSlice s } }
  if l = [] then s
  else raise s 0x0601 3 [d32 (l.count .newer), d32 (l.count .older), d32 (l.count .lost)]

/-- A write of 0x4410:0: the record, or every one, is emptied at the next seal (R179). -/
def execRecordResetWrite (v : BitVec 16) (s : State) : Out :=
  onHost s fun s =>
    let n := v.toNat
    safetyWrite s 0x4410 0 (if (1 ≤ n ∧ n ≤ s.cellCount) ∨ n = 65535 then errOk else errRange) n fun s =>
      { s.setObj 0x4410 0 n with cells := { s.cells with resetDue := s.cells.resetDue ++ [n] } }

/-- The records due to be emptied are, each write's in its turn, and go to lane 43 at once. -/
def resetRecords (s : State) : State :=
  s.cells.resetDue.foldl (fun s v =>
    let ns := if v = 65535 then (List.range s.cellCount).map (· + 1) else [v]
    let s := ns.foldl (fun s n =>
      let x := s.cell n
      recObjs (s.setCell n { x with rec_ := { digest := x.rec_.digest, created := s.objN 0x2060 4 }, rest := {} }) n) s
    let ks := (List.range 16).filter (fun k => ns.any (fun n => (n - 1) / 36 == k))
    let s := ks.foldl (fun s (k : Nat) => lanePush s 43 (.nums [7, (k : Int)])) s
    raise s 0x0603 3 [d32 v]) { s with cells := { s.cells with resetDue := [] } }

/-- The records as they stand at a seal: what a checkpoint and a read return until the next (R176, R180). -/
def sealRecords (s : State) : State :=
  (List.range s.cellCount).foldl (fun s i => let x := s.cell (i + 1); s.setCell (i + 1) { x with sealed := x.rec_ }) s

/-! ### Capacity records and commits (R162, R163, R442) -/

/-- A slot is valid. -/
def capValid (c : CapSlot) : Bool :=
  getLe c.bytes 0 2 == 0xCA01 && getLe c.bytes 2 2 == c.pos && crc32c (c.bytes.take 28) == getLe c.bytes 28 4

/-- The newer valid slot of a position. -/
def capNewest (s : State) (n : Nat) : Option CapSlot :=
  (s.cells.caps.filter (fun c => c.pos == n && capValid c)).foldl (fun m c => match m with
    | none => some c
    | some p => if newerSeq c.seq p.seq then some c else some p) none

/-- A capacity is written into the slot that does not hold the newer record. -/
def writeCapacity (s : State) (n : Nat) : State :=
  let (slot, seq) := match capNewest s n with
    | some c => (1 - c.slot, (c.seq + 1) % 4294967296)
    | none => (0, 1)
  let b := leBytes 2 0xCA01 ++ leBytes 2 (n : Int) ++ leBytes 4 (seq : Int) ++ leBytes 4 (s.obj 0x4108 n)
    ++ leBytes 4 (s.obj 0x4109 n) ++ leBytes 4 (clampI 0 100000 (divRne (s.cell n).capZ 10000000))
    ++ leBytes 4 ((s.cell n).learnedAt : Int) ++ leBytes 2 (s.obj 0x410A n) ++ [0#8, 0#8]
  let keep := s.cells.caps.filter (fun c => !(c.pos == n && c.slot == slot))
  let s := { s with cells := { s.cells with caps := keep ++ [(⟨n, slot, seq, b ++ leBytes 4 (crc32c b : Nat)⟩ : CapSlot)] } }
  s.bump 0x2080 1

/-- Restores every learned capacity at start; where no slot is valid the rated capacity stands in (R163). -/
def restoreCapacities (s : State) : State :=
  (List.range s.cellCount).foldl (fun s i =>
    let n := i + 1
    match capNewest s n with
    | some c =>
      let s := s.setObjs 0x4108 [(n, (getLe c.bytes 8 4 : Nat))]
      let s := (s.setObj 0x4109 n (getLe c.bytes 12 4 : Nat)).setObj 0x410A n (getLe c.bytes 24 2 : Nat)
      s.setCell n { s.cell n with learnedAt := getLe c.bytes 20 4 }
    | none =>
      let had := s.cells.caps.any (fun c => c.pos == n)
      let s := ((s.setObj 0x4108 n 0).setObj 0x4109 n 0).setObj 0x410A n 0
      if had then raise s 0x050D 3 [d32 n] else s) s

/-- A request of lane 43 may start: none after the power-fail warning; a capacity commit waits while the die temperature
inhibits nonvolatile writes (R163, R176, R255, R426). -/
def commitAllowed (s : State) (e : Elem) : Bool :=
  !s.pwr.warning && (match e with | .nums (6 :: _) => !(s.objB 0x6040 2) | _ => true)

/-- The oldest request that may start, and the others. -/
def takeCommit (s : State) : List Elem → Option (Elem × List Elem)
  | [] => none
  | e :: r => if commitAllowed s e then some (e, r) else (takeCommit s r).map (fun p => (p.1, e :: p.2))

/-- HK takes a request from lane 43 and writes its record; `readback` tells whether the record read back right, at the latest
the second time. -/
def execNvCommit (readback : Bool) (s : State) : Out :=
  onHost s fun s =>
    match takeCommit s (s.lane 43).elems with
    | none => s
    | some (e, rest) =>
      let l := s.lane 43
      let s := s.setLane 43 { l with elems := rest ++ l.waiting.take 1, waiting := l.waiting.drop 1 }
      match e with
      | .nums [6, n] => if readback then writeCapacity s n.toNat else commitFailed s 6 n
      | .nums [7, k] => if readback then writeSlice s k.toNat else commitFailed s 7 k
      | _ => s

/-! ### The state block (R151) -/

/-- The 32 bytes of one cell; U is the half-width 0x4103:n, the whole range while it has no estimate. -/
def cellBlock (s : State) (n : Nat) : List Byte :=
  let x := s.cell n
  let b := leBytes 8 x.z ++ leBytes 8 x.zd ++ leBytes 4 (if x.est then roundRne (halfWidth x * 100000) else 100000) ++ leBytes 2 (x.s : Int)
    ++ leBytes 2 (identDigest (s.objN (0x3100 + slotOf s n) 6) : Nat) ++ leBytes 2 (s.obj 0x4105 n) ++ [0#8, 0#8]
  b ++ leBytes 4 (crc32c b : Nat)

/-- A state block is written over the copy that is not the newest; origin 1 periodic, 2 orderly, 3 power-fail. -/
def writeState (s : State) (origin : Nat) : State :=
  let s := countOp s
  let newest := newestBlock s
  let keep : List StateBlock := newest.toList
  let seq : Nat := match newest with | some b => (b.seq + 1) % 4294967296 | none => 1
  let n := s.cellCount
  let h := leBytes 2 0x5B01 ++ leBytes 2 (n : Int) ++ leBytes 4 (seq : Int) ++ [BitVec.ofNat 8 origin, 0#8, 0#8, 0#8]
    ++ leBytes 4 (s.obj 0x2060 4) ++ d80 (time80 s.now) ++ [0#8, 0#8]
  let b := h ++ leBytes 4 (crc32c h : Nat) ++ (List.range n).flatMap (fun i => cellBlock s (i + 1))
  ({ s with cells := { s.cells with blocks := keep ++ [(⟨seq, origin, b⟩ : StateBlock)] } }).bump 0x2080 1

/-- Every 60 s. -/
def execStateBlockWrite (s : State) : Out := onHost s fun s => if s.pwr.warning then s else writeState s 1

/-! ### Results at the seal (R140, R168) -/

/-- An unsigned 32-bit object from a rational. -/
def u32Of (q : Rat) : Int := clampI 0 4294967295 (roundRne q)

/-- The objects of a cell that has been advanced to the frame. -/
def cellResults (s : State) (n : Nat) : State :=
  let x := s.cell n
  let soc (z : Int) : Int := clampI 0 100000 (divRne z 10000000)
  let u := halfWidth x
  let gap : Int := if x.z < x.zd then x.zd - x.z else x.z - x.zd
  let b := bandNow s x
  let s := (((s.setObj 0x4101 n (soc x.z)).setObj 0x4102 n (soc x.zd)).setObj 0x4103 n (u32Of (u * 100000))).setObj 0x4104 n
    (u32Of ((u + (gap : Rat) / zOne) * 100000))
  let s := if x.est then s else ((s.setObj 0x4101 n 0).setObj 0x4102 n 0).setObj 0x4103 n 100000
  let s := if x.est then s else s.setObj 0x4104 n 100000
  let s := (s.setObj 0x4105 n (setBit x.stat 14 false)).setObj 0x410B n (u32Of (((x.restNs.getD 0) / 1000000000 : Int) : Rat))
  let s := (s.setObj 0x410C n (u32Of ((x.sinceNs / 1000000000 : Int) : Rat))).setObj 0x410D n (if x.est then (x.s : Int) else 0)
  let s := ((s.setObj 0x4110 n (u32Of b.rs)).setObj 0x4111 n (u32Of b.ra)).setObj 0x4112 n (u32Of b.ta)
  (s.setObj 0x4113 n (u32Of b.rb)).setObj 0x4114 n (u32Of b.tb)

/-- An engine has not finished: its cells keep their values with STALE, and the frame with all it gives them is still to be taken
(R140, R169). -/
def fallBehind (s : State) (r : Nat) : State :=
  let cs := (allCells s).filter (fun p => slotRing s p.2.1 = r)
  let ns := cs.map (·.1)
  if ns = [] then s else
  let s := cs.foldl (fun s p => s.setCell p.1 (cellTemp s p.2.1 p.1 (s.cell p.1))) s
  let b : Behind := { frameIn s with cells := cs.map (fun p => cellIn s p.2.1 p.2.2 p.1) }
  let l := storeGet (fun _ => []) s.cells.behind r ++ [b]
  let s := { s with cells := { s.cells with behind := storePut (fun _ => []) s.cells.behind r l } }
  ns.foldl (fun s n => s.setObj 0x4105 n (setBit (s.obj 0x4105 n) 14 true)) s

/-- ESTIMATOR_BACKLOG, once per onset. -/
def backlogCheck (s : State) : State :=
  let m := s.cells.behind.foldl (fun m p => if m < p.2.length then p.2.length else m) 0
  let above := decide (16 < m)
  let s := if above ∧ s.cells.backlogFlag = false then raiseEe s 0 0x0510 [d32 m] else s
  { s with cells := { s.cells with backlogFlag := above } }

/-- FIRST_SOC. -/
def firstSoc (s : State) : State :=
  if s.cells.firsts = [] then s else
  let s := raise s 0x0507 3 (s.cells.firsts.map (fun (n : Nat) => d32 n))
  { s with cells := { s.cells with firsts := [] } }

/-! ### The rest window (R147) -/

/-- REST_WINDOW: 1 request, 2 scheduled, 3 declined, 4 qualified, 5 failed, with a frame number. -/
def raiseWindow (s : State) (what frame : Nat) : State := raise s 0x0506 3 [d32 what, d32 frame]

/-- The positions that are rest-starved. -/
def starvedCells (s : State) : List Nat :=
  (List.range s.cellCount).filterMap (fun i => if statBit (s.cell (i + 1)) 13 then some (i + 1) else none)

/-- A rest window is requested. -/
def requestWindow (s : State) : State :=
  let t := s.obj 0x4010 2 + 300
  let len : Int := if s.objB 0x4010 3 then 900 else if t < 65536 then t else (Config.countBeyond t.toNat : Nat)
  let s := (s.setB 0x4012 1 true).setObj 0x4012 2 len
  raiseWindow { s with cells := { s.cells with window := 1 } } 1 s.frameNo

/-- The request stands while any cell is starved. -/
def windowSeal (s : State) : State :=
  let n := (starvedCells s).length
  let s := s.setObj 0x4012 6 n
  if n = 0 then
    if s.cells.window = 1 ∨ s.cells.window = 3 then { s.setB 0x4012 1 false with cells := { s.cells with window := 0 } }
    else if s.cells.window = 2 then s.setB 0x4012 1 false else s
  else if s.cells.window = 0 then requestWindow s else s

/-- A write of 1 to 0x4012:4 while the request stands. -/
def execRestWindowSchedule (s : State) : Out :=
  onHost s fun s => hostWrite s 0x4012 4 (if s.cells.window = 1 then errOk else errState) fun s =>
    let s := { s.setObj 0x4012 7 1 with
      cells := { s.cells with window := 2, windowLeft := starvedCells s, windowCross := none } }
    raiseWindow s 2 s.frameNo

/-- A write of 2 to 0x4012:4 while the request stands. -/
def execRestWindowDecline (s : State) : Out :=
  onHost s fun s => hostWrite s 0x4012 4 (if s.cells.window = 1 then errOk else errState) fun s =>
    raiseWindow { s.setB 0x4012 1 false with cells := { s.cells with window := 3 } } 3 s.frameNo

/-- The 24 h of a decline end. -/
def execRestWindowDeclineExpiry (s : State) : Out :=
  onHost s fun s =>
    if s.cells.window ≠ 3 then s
    else if starvedCells s = [] then { s with cells := { s.cells with window := 0 } } else requestWindow s

/-- The scheduled window ends: 2 qualified where every cell starved at its scheduling has qualified, else 3 failed. -/
def execRestWindowEnd (s : State) : Out :=
  onHost s fun s =>
    if s.cells.window ≠ 2 then s else
    let ok := decide (s.cells.windowLeft = [])
    let f := s.cells.windowCross.getD s.frameNo
    let s := { s.setObj 0x4012 7 (if ok then 2 else 3) with
      cells := { s.cells with window := 0, windowLeft := [], windowCross := none } }
    let s := raiseWindow s (if ok then 4 else 5) f
    if starvedCells s = [] then s.setB 0x4012 1 false else requestWindow s

/-! ### The capacity walk (R161) -/

/-- A walk is requested: a cell has never learned, or its learning is older than the interval. -/
def walkWanted (s : State) : Bool :=
  (List.range s.cellCount).any (fun i => let n := i + 1
    cellConf s n && (decide (s.obj 0x4108 n = 0)
      || decide (s.obj 0x4050 6 * 86400 < s.obj 0x2060 4 - (s.cell n).learnedAt)))

/-- The state of the walk. -/
def walkState (s : State) : Int :=
  let ws := (List.range s.cellCount).filterMap (fun i => ((s.cell (i + 1)).walk).map (fun w => (i + 1, w)))
  if ws ≠ [] then
    if ws.all (fun p => !p.2.left) then 3
    else if s.cells.stringRest && ws.any (fun p => p.2.left && decide ((s.cell p.1).z ≤ s.obj 0x4050 2 * 10000000)) then 5
    else 4
  else if s.cells.walkEnd ≠ 0 then s.cells.walkEnd
  else if s.cells.walkSched then 2
  else if s.objB 0x4050 7 then 1 else 0

/-- The request and the state of the walk are brought up to date, with the event of a change. -/
def walkUpdate (s : State) : State :=
  let s := s.setB 0x4050 7 (walkWanted s)
  let new := walkState s
  let old := s.obj 0x4050 9
  if new = old then s else raise (s.setObj 0x4050 9 new) 0x050B 3 [d8 old, d8 new]

/-- The host has written a start time to 0x4050:8. -/
def walkScheduled (s : State) : State :=
  walkUpdate { s with cells := { s.cells with walkEnd := 0, walkSched := decide (s.obj 0x4050 8 ≠ 0) } }

/-! ### Dispatch alignment (R158) -/

/-- A write of 1 to 0x4040:2 while the string is idle. -/
def execAlignDispatch (s : State) : Out :=
  onHost s fun s =>
    hostWrite s 0x4040 2 (if absR (srcCurrent s) < restAmps s then errOk else errState) fun s =>
      { s with cells := { s.cells with align := true } }

/-- z_d = z for every cell at the boundary. -/
def alignBoundary (s : State) : State :=
  if s.cells.align = false then s else
  let ns := (List.range s.cellCount).filterMap (fun i => if (s.cell (i + 1)).est then some (i + 1) else none)
  let gap := ns.foldl (fun m n =>
    let x := s.cell n
    let g := if x.z < x.zd then x.zd - x.z else x.z - x.zd
    if m < g then g else m) 0
  let s := ns.foldl (fun s n => let x := s.cell n; s.setCell n { x with zd := x.z }) s
  raise { s with cells := { s.cells with align := false } } 0x050F 3 [d32 ns.length, d32 (divRne gap 10000000)]

/-! ### The fit of the RC pairs (R165) -/

/-- A fit at its time constants: Ra and Rb in µΩ with τa and τb in ms, and the squared rms residual in V². -/
structure RcFit where
  ra : Rat
  ta : Rat
  rb : Rat
  tb : Rat
  ms : Rat

/-- The least squares of a current change `d` against the values taken, at the time constants given; none where the values do not
determine Ra and Rb. -/
def solveFit (d : Rat) (m : List (Int × Int)) (ta tb : Rat) : Option RcFit :=
  let f (t : Int) (tau : Rat) : Int := roundRne ((1 - expR (-(t : Rat) / 1000000 / tau)) * d * 1000000000000)
  let rows := m.map (fun p => (f p.1 ta, f p.1 tb, p.2))
  let dot (g h : Int × Int × Int → Int) : Int := (rows.map (fun r => g r * h r)).sum
  let a (r : Int × Int × Int) : Int := r.1
  let b (r : Int × Int × Int) : Int := r.2.1
  let y (r : Int × Int × Int) : Int := r.2.2
  let det : Rat := (dot a a * dot b b - dot a b * dot a b : Int)
  if det = 0 then none else
  let ra : Rat := (dot a y * dot b b - dot b y * dot a b : Int) / det
  let rb : Rat := (dot b y * dot a a - dot a y * dot a b : Int) / det
  let ssr : Rat := (dot y y : Rat) - ra * (dot a y : Rat) - rb * (dot b y : Rat)
  some ⟨ra * 1000000, ta, rb * 1000000, tb, ssr / (m.length : Rat) / 1000000000000000000000000⟩

/-- The better of two fits: the one of the smaller residual. -/
def betterFit (a b : Option RcFit) : Option RcFit :=
  match a, b with
  | some p, some q => if q.ms < p.ms then some q else some p
  | none, q => q
  | p, none => p

/-- The fit to the values of a cell: over τa from 0.1 to 10 s and τb from 10 s to a third of the window. The spec names no method and no
step, so the time constants are a free value of the values taken, held to those ranges and to a residual no larger than any on a grid of
five by five (DESIGN CHOICE 41). -/
def bestFit (s : State) (n : Nat) (d : Rat) (m : List (Int × Int)) : Option RcFit :=
  let top := maxR 10000 ((s.obj 0x4060 2 : Rat) * 1000 / 3)
  let tas : List Rat := [100, 300, 1000, 3000, 10000]
  let tbs : List Rat := [0, 1, 2, 3, 4].map (fun k => 10000 + (top - 10000) * k / 4)
  let grid := (tas.flatMap (fun ta => tbs.map (fun tb => solveFit d m ta tb))).foldl betterFit none
  let given := (n : Int) :: m.flatMap (fun p => [p.1, p.2])
  let free (t : Nat) : Rat := (Config.freeReal t given : Rat) / 1000
  betterFit (solveFit d m (clampR 100 10000 (free 1652)) (clampR 10000 top (free 1654))) grid

/-- One cell's fit, taken where its rms residual is within 0x4060:3. -/
def fitCell (s : State) (n : Nat) (d : Rat) : State :=
  let x := { s.cell n with fit := none }
  let s1 := s.setCell n x
  match (s.cell n).fit.bind (bestFit s n d) with
  | none => s1
  | some m =>
    let lim : Rat := (s.obj 0x4060 3 : Rat) / 1000000
    if lim * lim < m.ms then s1
    else s.setCell n (updateBand s x (fun o => { o with ra := m.ra, ta := m.ta, rb := m.rb, tb := m.tb }))

/-- The current has stayed settled for the fit window since a step. -/
def execRcFit (s : State) : Out :=
  onHost s fun s =>
    if s.runs = false then s else
    match s.cells.step with
    | none => s
    | some (c, _, d) =>
      if stepsAllowed s = false ∨ elapsedNs s.clk c s.clk.c < s.obj 0x4060 2 * 1000000000 then s else
      let s := { s with cells := { s.cells with step := none } }
      (allCells s).foldl (fun s p => fitCell s p.1 d) s

/-! ### The seal -/

/-- The results of the estimator and the records of a frame (R140, R169); of the frames of Park only of an active one. -/
def sealCells (s : State) : State :=
  let f := s.cells.imageFrame
  if s.cells.sealFrame = some f ∨ (wasPark s ∧ s.rings.active ≠ some f) then s else
  let s := countOp (estCommon s)
  let done (r : Nat) : Bool := s.cells.estDone.testBit r && !(s.frame.lost.contains 3)
  let s := [0, 1, 2, 3].foldl (fun s r => if done r || s.runs == false then s else fallBehind s r) s
  let s := (allCells s).foldl (fun s p =>
    let (n, k, c) := p
    if done (slotRing s k) then recObjs (recFrame (cellResults s n) (frameIn s) (cellIn s k c n)) n else s) s
  let s := sealRecords (resetRecords (walkUpdate (windowSeal (firstSoc (backlogCheck s)))))
  { s with cells := { s.cells with sealFrame := some f, parkC := if wasPark s then s.frame.boundaryC else s.cells.parkC } }

/-! ### DOMAIN values (R165, R166, R180) -/

/-- 0x4115:n: eight bands of five U32. -/
def bandBytes (s : State) (n : Nat) : List Byte :=
  (List.range 8).flatMap (fun i =>
    let b := bandAt s (s.cell n) i
    [b.rs, b.ra, b.ta, b.rb, b.tb].flatMap (fun q => leBytes 4 (u32Of q)))

/-- 0x4120:n: 16 bins, the valid mask and the frame number. -/
def spectrumBytes (s : State) (n : Nat) : List Byte :=
  let x := s.cell n
  let z (k : Nat) : Int × Int := storeGet (fun _ => (0, 0)) x.spec (k + 1)
  let m := x.spec.foldl (fun m p => m + 2 ^ (p.1 - 1)) 0
  (List.range 16).flatMap (fun k => leBytes 4 (z k).1 ++ leBytes 4 (z k).2) ++ leBytes 2 (m : Int) ++ leBytes 4 (x.specFrame : Int)

end Sys2Proof.Machine
end

