-- ==== Sys2Proof/Machine/Balance.lean ====
section
/-!
DEFINITION. Balancing (R181 to R189): when it runs, targets from state of charge, masks at the seal and BAL at the release.
Marks (notes/assumptions): DEDUCED 46.
-/
namespace Sys2Proof.Machine

/-- The string's direction: 0 idle, 1 charging, 2 discharging (R157). -/
def direction (s : State) : Nat :=
  let i := srcCurrent s
  if restAmps s ≤ i ∧ 0 < i then 1 else if i ≤ -restAmps s ∧ i < 0 then 2 else 0

/-- Balancing state 0x4601:0: 0 off, 1 profile, 2 direction, 3 active (R181). -/
def balanceNow (s : State) : Int :=
  if s.obj 0x4600 1 = 0 then 0
  else if s.profile ≠ 0 ∧ s.profile ≠ 1 ∧ s.profile ≠ 5 then 1
  else if bitOf (s.obj 0x4600 6) (direction s) = false then 2 else 3

/-- The state is brought up to date, with BALANCE_STATE on a change. -/
def balanceState (s : State) : State :=
  let old := s.obj 0x4601 0
  let new := balanceNow s
  if old = new then s else raise (s.setObj 0x4601 0 new) 0x0610 3 [d8 old, d8 new]

/-- A cell is eligible (R183). -/
def eligible (s : State) (n : Nat) : Bool :=
  let st := s.obj 0x4105 n
  bitOf st 0 && !(bitOf st 14) && !(bitOf st 12) && !(bitOf st 15) && decide (s.obj 0x4103 n ≤ s.obj 0x4600 3)
    && !(cellBit s n 11) && !(cellBit s n 3)

/-- The metric of a cell: a fraction in mode 1, Ah in modes 2 and 3 (R182). -/
def metric (s : State) (mode : Int) (room : Rat) (n : Nat) : Rat :=
  let z : Rat := ((s.cell n).z : Rat) / zOne
  let q := capacity s n
  if mode = 1 then z else if mode = 2 then room - (1 - z) * q else z * q

/-- Target of one cell: excess and bleed-to-go. -/
def targetCell (s : State) (mode : Int) (room ref : Rat) (n : Nat) : State :=
  let x := s.cell n
  if eligible s n = false then
    ((s.setCell n { x with imbalance := false, togoRest := 0 }).setObj 0x4610 n 0).setObj 0x4613 n 0
  else
    let q := capacity s n
    let e := metric s mode room n - ref
    let e := if mode = 1 then e else e / q
    let band : Rat := (s.obj 0x4600 2 : Rat) / 100000
    let ex := u32Of (e * 100000)
    let high := decide ((s.obj 0x4600 11 : Rat) / 100000 < e)
    let s := s.setObj 0x4613 n ex
    let s := if high ∧ x.imbalance = false then raise s 0x0614 3 [d32 n, d32 ex] else s
    let s := s.setCell n { x with imbalance := high }
    if band < e then
      (s.setCell n { s.cell n with togoRest := 0 }).setObj 0x4610 n (u32Of ((e - band / 2) * q * 3600000))
    else if e < band / 2 then (s.setCell n { s.cell n with togoRest := 0 }).setObj 0x4610 n 0
    else s

/-- Every 0x4600:5 seconds: metrics, excesses and bleed-to-go. -/
def execBalanceTargets (s : State) : Out :=
  onHost s fun s =>
    let mode := s.obj 0x4600 1
    if mode = 0 then s else
    let all := (List.range s.cellCount).map (· + 1)
    let el := all.filter (eligible s)
    let room := el.foldl (fun m n => maxR m ((1 - ((s.cell n).z : Rat) / zOne) * capacity s n)) 0
    let ms := el.map (metric s mode room)
    let ref := ms.foldl minR (ms.headD 0)
    all.foldl (fun s n => targetCell s mode room ref n) s

/-- The bleed of the frame comes off the bleed-to-go (R186). -/
def bleedOff (s : State) (n : Nat) : State :=
  let x := s.cell n
  let t := x.togoRest + x.ib * frameNs s / 1000
  let k := t / 1000000000
  let left := s.obj 0x4610 n - k
  (s.setCell n { x with togoRest := if left ≤ 0 then 0 else t % 1000000000 }).setObj 0x4610 n (if left < 0 then 0 else left)

/-- Largest number of channels a unit may bleed at once, its reduction by thermal cap included (R185, R187). -/
def channelLimit (s : State) (k : Nat) : Nat :=
  let m := channelBase s k
  let low := (s.wire k).kLow
  if low = 0 then m else if m ≤ low then (if m = 0 then 0 else 1) else m - low

/-- The die limit of a unit, with 5 °C of hysteresis. -/
def dieLimit (s : State) (k : Nat) : State :=
  let w := s.wire k
  let lim := s.obj 0x4600 8 * 16
  match w.die with
  | none => s
  | some t =>
    if w.dieHot = false ∧ lim < t then raise (s.setWire k { w with dieHot := true }) 0x0613 3 [d32 k, d16 t]
    else if w.dieHot ∧ t ≤ lim - 80 then s.setWire k { w with dieHot := false }
    else s

/-- The frame value is high enough to bleed (R183). -/
def bleedVolts (s : State) (n : Nat) : Bool :=
  let v := s.obj 0x3800 n
  decide (16000000 ≤ v) && decide (s.obj 0x4600 7 * 8000 ≤ v)

/-- The mask of a unit: the channels with the largest bleed-to-go that may bleed, ties to the lower channel. -/
def unitMask (s : State) (k : Nat) : List Nat :=
  let c := (slotCells s k).filter (fun p => decide (s.obj 0x4610 p.2 ≠ 0) && eligible s p.2 && bleedVolts s p.2)
  let srt := c.mergeSort (fun a b => decide (s.obj 0x4610 b.2 < s.obj 0x4610 a.2)
    || (decide (s.obj 0x4610 b.2 = s.obj 0x4610 a.2) && decide (a.1 ≤ b.1)))
  (srt.take (channelLimit s k)).map (·.1)

/-- Balance status of a cell of a unit (0x4612). -/
def balStatus (s : State) (k c n : Nat) (mask : List Nat) : Int :=
  if testPauses (s.wire k) c s.cells.imageFrame then 5
  else if s.obj 0x4601 0 ≠ 3 then 8
  else if eligible s n = false then 3
  else if (s.wire k).dieHot then 7
  else if s.obj 0x4610 n = 0 then 0
  else if bleedVolts s n = false then 4
  else if mask.contains c then (if (s.wire k).cap.1 then 6 else 1)
  else 2

/-- The command of a unit for the next release. A cell that is not eligible has nothing to bleed (R183). -/
def sealUnit (s : State) (k : Nat) : State :=
  let s := (slotCells s k).foldl (fun s p =>
    if eligible s p.2 then s else (s.setCell p.2 { s.cell p.2 with togoRest := 0 }).setObj 0x4610 p.2 0) s
  let s := dieLimit s k
  let w := s.wire k
  let mask := if s.obj 0x4601 0 ≠ 3 ∨ w.dieHot then [] else unitMask s k
  let m := mask.foldl (fun m c => m + 2 ^ c) 0
  let s := s.setWire k { w with balNext := (m, bleedMax s) }
  (slotCells s k).foldl (fun s p => s.setObj 0x4612 p.2 (balStatus s k p.1 p.2 mask)) s

/-- Balancing at the seal of a frame; an overrun of window 4 leaves the commands as they were (R38). -/
def sealBalance (s : State) : State :=
  let s := balanceState s
  let s := (allCells s).foldl (fun s p => bleedOff s p.1) s
  if windowLate s 4 then s else ((List.range 40).filter (slotUsed s)).foldl sealUnit s

/-- BAL and the open-wire orders at the release, with every mask zero where balancing has stopped since the seal (R128, R181, R186); in
Park the rings sleep. -/
def releaseRings (s : State) : State :=
  if s.profile = 3 then s else
  let s := balanceState s
  let on := decide (s.obj 0x4601 0 = 3)
  [0, 1, 2, 3].foldl (fun s r =>
    sendOwt (if ringSt s r < 2 then s else sendBal s r (fun k => let p := (s.wire k).balNext; (if on then p.1 else 0, p.2))) r) s

end Sys2Proof.Machine
end

