-- ==== Sys2Proof/Machine/Contact.lean ====
section
/-!
DEFINITION. The contactors (R284, R285, R463): drivers 1 K1 main positive, 2 K2 main negative, 3 K3 precharge,
4 K4 auxiliary, each in bit k − 1 of a word.
Marks (notes/assumptions): DEDUCED 60; DESIGN CHOICE 127.
-/
namespace Sys2Proof.Machine

/-- Changes the contactors. -/
def State.mapCon (s : State) (f : Contact → Contact) : State := { s with safe := { s.safe with con := f s.safe.con } }

/-- Contactor driver k is commanded on at its low side. -/
def lowOn (s : State) (k : Nat) : Bool := s.safe.con.low.testBit (k - 1)

/-- |V_S − V_L|, V. -/
def linkGap (s : State) : Rat := absR (s.objF 0x3430 3 - s.objF 0x3440 3)

/-- A low-side switch closes: its coil is driven at full voltage (R284). -/
def closeDriver (s : State) (k : Nat) : State :=
  s.mapCon fun c =>
    { c with low := c.low ||| 2 ^ (k - 1)
             held := c.held - (c.held &&& 2 ^ (k - 1))
             closedC := c.closedC.filter (fun p => p.1 != k) ++ [(k, s.clk.c)] }

/-- A low-side switch opens. -/
def openDriver (s : State) (k : Nat) : State :=
  s.mapCon fun c =>
    { c with low := c.low - (c.low &&& 2 ^ (k - 1))
             held := c.held - (c.held &&& 2 ^ (k - 1))
             closedC := c.closedC.filter (fun p => p.1 != k) }

/-- Every driver is commanded off, main positive and main negative first, then precharge and auxiliary; one step holds the whole
release instant (R262; DESIGN CHOICE 127). With the main contactors closed before, the check for a weld begins (R285). -/
def openDrivers (s : State) : State :=
  let mains := lowOn s 1 && lowOn s 2
  let s := [1, 2, 3, 4].foldl openDriver (s.setObj 0x6880 4 0)
  s.mapCon fun c =>
    { c with low := 0, held := 0, closedC := [], opening := false, closing := false, standby := false
             weld := if mains then some 0 else c.weld, atZero := false }

/-- Percent of its full voltage a coil is driven at (R284). -/
def coilPercent (s : State) (k : Nat) : Int :=
  if lowOn s k && s.safe.bol.high then (if s.safe.con.held.testBit (k - 1) then s.obj 0x6880 6 else 100) else 0

/-- A weld is suspected on a main contactor (R285). -/
def weldSuspected (s : State) : Bool := bitOf (s.obj 0x6880 5) 3 || bitOf (s.obj 0x6880 5) 7

/-- The closing sequence begins: main negative closes (R284). -/
def startClosing (s : State) : State := closeDriver (s.setObj 0x6880 4 1) 2

/-- A close command acts (R284, R267, R444). -/
def mayClose (s : State) : Bool :=
  decide (s.obj 0x6800 1 = 0) && decide (s.profile ≠ 3) && !(bitOf (s.obj 0x6000 1) 4) && !(weldSuspected s)
    && decide (s.obj 0x2040 1 ≠ 0) && decide (s.obj 0x2040 1 ≠ 4)

/-- The contactor command becomes 1: on a change from 0 the sequence begins at the release instant (R35, R284); a check for a
weld still counting ends (R285). -/
def commandClose (s : State) : State :=
  let was := s.obj 0x6880 1
  (s.setObj 0x6880 1 1).mapCon fun c => if was = 0 ∧ c.rearm then { c with weld := none, closing := true } else c

/-- The contactor command becomes 0: the contactors open at the release instant; standby is asked of the converter until
then (R221, R284). -/
def commandOpen (s : State) : State :=
  let s := s.setObj 0x6880 1 0
  s.mapCon fun c => { c with atZero := false, opening := decide (s.obj 0x6880 4 ≠ 0), closing := false
                             standby := c.standby || decide (s.obj 0x6880 4 ≠ 0)
                             rearm := c.rearm || decide (s.obj 0x6801 0 = 0) }

/-- A write of 1 to 0x6880:1, refused and not stored while any condition fails (R284, R285). -/
def execContactorClose (s : State) : Out :=
  onHost s fun s => hostWrite s 0x6880 1 (if mayClose s then errOk else errState) commandClose

/-- A write of 0 to 0x6880:1. -/
def execContactorOpen (s : State) : Out := onHost s fun s => hostWrite s 0x6880 1 errOk commandOpen

/-- An opening that is due acts: one that Park asks for waits for zero current (R27). -/
def openingActs (s : State) : Bool := s.safe.con.opening && (!s.safe.con.atZero || s.frame.restFrom.isSome)

/-- Contactors at the release instant (R35, R284): an opening, then a closing asked for since, if it may still act. -/
def releaseContactors (s : State) : State :=
  let again := s.safe.con.closing
  let s := if openingActs s then openDrivers s else s
  let s := s.mapCon fun c => { c with closing := false }
  if again ∧ mayClose s ∧ s.obj 0x6880 4 = 0 then startClosing s else s

/-- 50 ms of step 1 or 3 have passed (R284): precharge closes, or it opens and the auxiliary contactor closes. -/
def execContactorStepTimer (s : State) : Out :=
  onString s fun s =>
    if s.obj 0x6880 4 = 1 then closeDriver (s.setObj 0x6880 4 2) 3
    else if s.obj 0x6880 4 = 3 then closeDriver (openDriver (s.setObj 0x6880 4 5) 3) 4
    else s

/-- |V_S − V_L| is within the precharge difference: main positive closes (R284). -/
def execPrechargeReached (s : State) : Out :=
  onString s fun s => if s.obj 0x6880 4 = 2 then closeDriver (s.setObj 0x6880 4 3) 1 else s

/-- Precharge does not complete in time: every driver opens and the command returns to 0; no trip follows (R284). -/
def execPrechargeTimeout (s : State) : Out :=
  onString s fun s =>
    if s.obj 0x6880 4 = 2 then
      let gap := linkGap s
      raise (guardWrite (openDrivers s) 0x6880 1 0) 0x0A0F 10 [dF gap]
    else s

/-- 200 ms after it closed a coil goes to its hold (R284). -/
def execEconomiserHold (driver : Fin 4) (s : State) : Out :=
  onString s fun s =>
    if lowOn s (driver.val + 1) then s.mapCon fun c => { c with held := c.held ||| 2 ^ driver.val } else s

/-! ### The weld check (R285) -/

/-- A frame of the check: counted while the link is up and the converter shows standby; it passes once the voltages part. -/
def weldFrame (s : State) : State :=
  match s.safe.con.weld with
  | none => s
  | some n =>
    if s.obj 0x5600 7 = 1 ∧ bitOf (s.obj 0x5600 10) 4 then
      s.mapCon fun c => { c with weld := if s.objF 0x6880 2 < linkGap s then none else some (n + 1) }
    else s

/-- The frames have added up to 1 s without passing: a weld of either main contactor is suspected. -/
def execWeldCheckTimeout (s : State) : Out :=
  onString s fun s =>
    match s.safe.con.weld with
    | none => s
    | some _ =>
      let s := s.mapCon fun c => { c with weld := none }
      raise ((s.setObjBit 0x6880 5 3 true).setObjBit 0x6880 5 7 true) 0x0A10 10 [d32 0, d32 3]

/-- A write of 1 to 0x6880:7. -/
def execWeldAcknowledge (s : State) : Out :=
  onHost s fun s => hostWrite s 0x6880 7 errOk fun s => (s.setObjBit 0x6880 5 3 false).setObjBit 0x6880 5 7 false

end Sys2Proof.Machine
end

