-- ==== Sys2Proof/Machine/Flags.lean ====
section
/-!
DEFINITION. Section arithmetic and its saturation flags (R190, R191, R195 to R198).
Marks (notes/assumptions): DEDUCED 50.
-/
namespace Sys2Proof.Machine

/-- Saturation to −2^23 to 2^23 − 1, and whether it acted. -/
def sat24 (v : Int) : Int × Bool := (clampI (-8388608) 8388607 v, decide (v < -8388608) || decide (8388607 < v))

/-- The mantissa in bits [31:8] of a word. -/
def mant (w : Nat) : Int := toS 24 (w / 256)

/-- A mantissa as a word. -/
def mantWord (m : Int) : Nat := (toU 24 m).toNat * 256

/-- An accumulator requantised `k` bits to the right, to nearest, ties to even; a negative `k` shifts left exactly (R197). -/
def requant (acc k : Int) : Int := if 0 ≤ k then shiftRne acc k.toNat else acc * ((2 ^ (-k).toNat : Nat) : Int)

/-- What a section gives at a sample: output, states and their saturation. -/
structure SecOut where
  y : Int
  s1 : Int
  s2 : Int
  ySat : Bool
  s1Sat : Bool
  s2Sat : Bool
  deriving DecidableEq, Repr

/-- A section's exponent e. -/
def secExp (w : List Nat) : Int := bfpExp (w.getD 0 0)

/-- A section at a sample (R196, R197): words 0 to 4, states, input. -/
def sectionRun (w : List Nat) (s1 s2 x : Int) : SecOut :=
  let b0 := bfpMant (w.getD 0 0)
  let b1 := mant (w.getD 1 0)
  let b2 := mant (w.getD 2 0)
  let a1 := mant (w.getD 3 0)
  let a2 := mant (w.getD 4 0)
  let y := sat24 (requant (b0 * x + s1 * 8388608) (23 - secExp w))
  let n1 := sat24 (requant (b1 * x - a1 * y.1 + s2 * 8388608) 23)
  let n2 := sat24 (requant (b2 * x - a2 * y.1) 23)
  ⟨y.1, n1.1, n2.1, y.2, n1.2, n2.2⟩

/-- The section flags a sample sets: YSAT, and where the states were written S1SAT and S2SAT (R198). -/
def secFlags (o : SecOut) (states : Bool) : Nat :=
  (if o.ySat then 1 else 0) + (if states && o.s1Sat then 2 else 0) + (if states && o.s2Sat then 4 else 0)

/-- Loop flag bits (R198). -/
def flSect : Nat := 0
def flDet : Nat := 1
def flHi : Nat := 2
def flLo : Nat := 3
def flErr : Nat := 4
def flOsc : Nat := 5
def flFallback : Nat := 6
def flLate : Nat := 7
def flInj : Nat := 8

/-- A value as a loop fraction of the scale, and whether it saturated (R191). -/
def toLoopFrac (v scale : Rat) : Int × Bool := sat24 (roundRne (v / scale * 8388608))

/-- An output fraction as an engineering value (R191). -/
def fromFrac (y : Int) (scale : Rat) : Rat := (y : Rat) / 8388608 * scale

/-- The rescale factor FS_c / Y_FS as mantissa and exponent, none where it is 1 (R191). -/
def rescaleFactor (fs ys : Rat) : Option (Int × Int) :=
  if fs = ys then none
  else if fs ≤ 0 ∨ ys ≤ 0 then some (0, 0)
  else
    let q := fs / ys
    let e := clampI (-32) 31 (log2R q + 1)
    some ((sat24 (roundRne (q * pow2R (23 - e)))).1, e)

/-- A fraction of a channel's own full scale as a fraction of the loop's (R191). -/
def rescale (f : Option (Int × Int)) (v : Int) : Int × Bool :=
  match f with
  | none => (v, false)
  | some (m, e) => sat24 (requant (m * v) (23 - e))

end Sys2Proof.Machine
end

