-- ==== Sys2Proof/Machine/Operands.lean ====
section
/-!
DEFINITION. What a loop takes and what bounds it: loops and sections as they stand, the sources of R200 and the effective
limits of R205.
Marks (notes/assumptions): DEDUCED 48, 49, 50, 170; DESIGN CHOICE 140.
-/
namespace Sys2Proof.Machine

/-! ### Loops and sections -/

/-- Loop L. -/
def State.loop (s : State) (l : Nat) : Loop := storeGet (fun _ => {}) s.av.loops l

/-- Stores loop L. -/
def State.setLoop (s : State) (l : Nat) (x : Loop) : State :=
  { s with av := { s.av with loops := storePut (fun _ => {}) s.av.loops l x } }

/-- Y_FS. -/
def yScale (s : State) (l : Nat) : Rat := s.objF (loopIx l) 10

/-- U_FS. -/
def uScale (s : State) (l : Nat) : Rat := s.objF (loopIx l) 11

/-- A loop's output as an engineering value. -/
def loopOut (s : State) (l : Nat) : Rat := fromFrac (s.loop l).y (uScale s l)

/-- The loop evaluates its sections: running, or on the fallback set-point (R203). -/
def loopRuns (s : State) (l : Nat) : Bool :=
  decide (s.obj (loopIx l) 20 = 1) || (decide (s.obj (loopIx l) 20 = 5) && (s.loop l).fall.1)

/-- The sections of a bank word, in order (R193). -/
def bankSections (w : Nat) : List Nat := ((List.range (w % 256)).map (fun k => w / 256 + k)).filter (fun q => decide (q < 96))

/-- Sub-index of the bank object of a rate. -/
def bankSub (m : Nat) : Nat := if m = 1 then 3 else if m = 2 then 4 else if m = 4 then 5 else 6

/-- The four banks of a loop. -/
def banksOf (s : State) (l : Nat) : List Nat := [3, 4, 5, 6].map (s.objN (loopIx l))

/-- The active words 0 to 4 of section q. -/
def activeWords (s : State) (q : Nat) : List Nat := [6, 7, 8, 9, 10].map (s.objN (0x5200 + q))

/-- The shadow words 0 to 4 at an index, as they are read (R195). -/
def shadowWords (s : State) (i : Nat) : List Nat :=
  bfpStored (s.objN i 1) :: [2, 3, 4, 5].map (fun k => s.objN i k / 256 * 256)

/-- A section is recursive: a1 or a2 is not zero (R199). -/
def recursive (w : List Nat) : Bool := decide (mant (w.getD 3 0) ≠ 0) || decide (mant (w.getD 4 0) ≠ 0)

/-- The dispatch loop (R201). -/
def dispatchLoop (s : State) : Option Nat := if s.obj 0x5000 2 < 16 then some (s.objN 0x5000 2) else none

/-- Sets a flag of the loop. -/
def setLoopFlag (s : State) (l b : Nat) : State := s.setObjBit (loopIx l) 19 b true

/-- The module time of slot j of the frame in course, ns. -/
def slotNs (s : State) (j : Nat) : Int := s.frame.sAt + (j : Int) * s.tf / 8

/-! ### Sliproad as a source -/

/-- Sliproad channel c. -/
def State.slip (s : State) (c : Nat) : Slip := storeGet (fun _ => {}) s.slips c

/-- Stores Sliproad channel c. -/
def State.setSlip (s : State) (c : Nat) (x : Slip) : State :=
  { s with slips := storePut (fun _ => {}) s.slips c x }

/-- The output word of a channel: its position, or its geared speed (R227, R228). -/
def slipOut (x : Slip) : Rat :=
  match x.gear with
  | some g => g.w
  | none => x.pos

/-! ### Effective limits (R205) -/

/-- The effective charge or discharge limit, A. -/
def effLimit (s : State) (charge : Bool) : Rat :=
  let c := f32Value (if charge then s.av.cfg.1 else s.av.cfg.2)
  match imposedOn s charge with
  | none => c
  | some v => minR c v

/-- The effective lower and upper limit of a loop, in its output unit: its own limits, held for the owner of the converter
set-point within −(discharge limit) to +(charge limit). -/
def loopLimits (s : State) (l : Nat) : Rat × Rat :=
  if ownerLoop s = some l then
    let bound := clampR (-(effLimit s false)) (effLimit s true)
    (bound (f32Value s.av.own.2), bound (f32Value s.av.own.1))
  else (s.objF (loopIx l) 13, s.objF (loopIx l) 12)

/-! ### Sources (R200, R201, R203) -/

/-- What a source gives: a loop fraction, whether it is valid, whether the rescale saturated. -/
structure SrcVal where
  v : Int
  ok : Bool
  sat : Bool
  deriving DecidableEq, Repr

/-- An engineering value as a source. -/
def srcOf (s : State) (l : Nat) (v : Option Rat) : SrcVal :=
  match v with
  | some x =>
    let f := toLoopFrac x (yScale s l)
    ⟨f.1, true, f.2⟩
  | none => ⟨0, false, false⟩

/-- The full scale of lane-13 channel c, or of the converter current (4), as the last commit took it (R191). -/
def avenueScale (s : State) (c : Nat) : Rat :=
  if s.av.fs = [] then (if c < 4 then fullScale s c else s.objF 0x5600 15) else s.av.fs.getD c 0

/-- A CMU temperature channel, °C, none where it is not valid. -/
def cmuTemp (s : State) (t : Nat) : Option Rat :=
  if s.obj 0x3811 t ≠ 0 then none else some ((s.obj 0x3810 t : Rat) / 16)

/-- A source as loop L takes it at the slot. -/
def sourceValue (s : State) (l code : Nat) : SrcVal :=
  let k := code % 256
  match code / 256 with
  | 0 => ⟨0, true, false⟩
  | 1 =>
    let f := rescale (rescaleFactor (avenueScale s k) (yScale s l)) (s.av.lane13.1.getD k 0)
    ⟨f.1, s.av.lane13.2.testBit k, f.2⟩
  | 2 =>
    match s.av.conv.frac with
    | some v =>
      let f := rescale (rescaleFactor (avenueScale s 4) (yScale s l)) v
      ⟨f.1, decide (s.obj 0x5600 7 = 1), f.2⟩
    | none => ⟨0, false, false⟩
  | 3 =>
    match s.av.ins[k]? with
    | some (w, ok) => srcOf s l (if ok then some (f32Value w) else none)
    | none => ⟨0, false, false⟩
  | 4 => srcOf s l (some (slipOut (s.slip k)))
  | 5 => srcOf s l (if loopRuns s k then some (loopOut s k) else none)
  | 6 => srcOf s l (some (f32Value (s.loop l).host))
  | 7 => srcOf s l (inputTemp s k)
  | 8 => srcOf s l (cmuTemp s k)
  | 9 => srcOf s l (s.loop l).src
  | _ => ⟨0, false, false⟩

/-- The set-point source of a loop: the dispatch loop takes 0x5000:3 in Response, and changes over at the slot its bank does
(R201); it takes P0 during an orderly shutdown (R262). -/
def setpointCode (s : State) (l : Nat) : Nat :=
  if dispatchLoop s = some l then
    if s.therm.takeP0 then 0x0400
    else if s.av.bankProf = 1 then s.objN 0x5000 3
    else s.objN (loopIx l) 7
  else s.objN (loopIx l) 7

end Sys2Proof.Machine
end

