-- ==== Sys2Proof/Machine/Inject.lean ====
section
/-!
DEFINITION. Test-signal injection (R214 to R217).
Marks (notes/assumptions): DEDUCED 48; DESIGN CHOICE 20, 51, 143.
-/
namespace Sys2Proof.Machine

/-- Exponents of the feedback polynomial of order n, without n itself (R214). -/
def prbsTaps (n : Nat) : List Nat :=
  match n with
  | 9 => [5, 0]
  | 10 => [7, 0]
  | 11 => [9, 0]
  | 12 => [11, 10, 4, 0]
  | 13 => [12, 11, 8, 0]
  | 14 => [13, 12, 2, 0]
  | _ => [14, 0]

/-- One bit of the sequence: the register holds n successive bits, the oldest in bit 0; the next bit is the sum of the bits
the polynomial names. -/
def prbsStep (n r : Nat) : Nat :=
  let b := ((prbsTaps n).filter (fun k => r.testBit k)).length % 2
  r / 2 + b * 2 ^ (n - 1)

/-- The injection's mode: the multisine in Survey (R217). -/
def injMode (s : State) : Nat := if s.av.inj.survey then 3 else s.objN 0x5400 2

/-- The injection's target: the loop that owns the converter set-point in Survey (R217). -/
def injTarget (s : State) : Nat := if s.av.inj.survey then (ownerLoop s).getD 16 else s.objN 0x5400 3

/-- Σ A_k·sin(2π·φ_k + θ_k) at a module time in ns (R214, R215). -/
def multisine (s : State) (t : Int) : Rat :=
  ((tonesOf s).map (fun p =>
    s.objF 0x5411 p.1 * sinTurn (tonePhase p.2 t + (s.obj 0x5412 p.1 : Rat) / 65536))).sum

/-- The phase of the swept sine after `t` seconds, in turns: the integral of f0·(f1 / f0)^(t / D) (R214). -/
def sweepPhase (f0 f1 d t : Rat) : Rat :=
  if f0 = f1 then f0 * t else
  let ln := lnR (f1 / f0)
  f0 * d / ln * (expR (ln * (t / d)) - 1)

/-- The signal at a loop sample, in the loop's units, `dt` ns after the start, at the module time `t`. -/
def signalAt (s : State) (mode : Nat) (dt t : Int) : Rat :=
  let a := s.objF 0x5400 6
  match mode with
  | 1 => if dt < s.obj 0x5400 13 * 1000000000 then a else 0
  | 2 => if s.av.inj.lfsr % 2 = 1 then a else -a
  | 3 => multisine s t
  | 4 =>
    let secs : Rat := (dt : Rat) / 1000000000
    let d : Rat := s.obj 0x5400 11
    if secs < d then a * sinTurn (sweepPhase ((s.obj 0x5400 9 : Rat) / 1000) ((s.obj 0x5400 10 : Rat) / 1000) d secs) else 0
  | _ => 0

/-- The peak of the signal (R216). -/
def injPeak (s : State) (mode : Nat) : Rat :=
  if mode = 3 then ((tonesOf s).map (fun p => absR (s.objF 0x5411 p.1))).sum else absR (s.objF 0x5400 6)

/-- The reference of the peak limit (R216). -/
def injReference (s : State) (l : Nat) : Rat := if ownerLoop s = some l then s.objF 0x5400 1 else yScale s l

/-- A frequency in mHz does not exceed 0.4 × m / T_F (R215). -/
def freqOk (s : State) (m f : Nat) : Bool :=
  decide (100 ≤ f) && decide (f ≤ 1000000) && decide ((f : Rat) / 1000 * ((s.tf : Rat) / 1000000000) ≤ 2 / 5 * (m : Rat))

/-- The bounds of a start (R215, R216). -/
def injBounds (s : State) (mode l : Nat) : Bool :=
  let m := (s.loop l).rate
  let lim : Rat := (s.obj 0x5400 5 : Rat) / 10000
  let lim := if s.profile = 2 then minR lim (1 / 200) else lim
  decide (1 ≤ mode) && decide (mode ≤ 4) && decide (l < 16) && decide (injPeak s mode ≤ lim * injReference s l)
    && (if mode = 3 then (tonesOf s).all (fun p => freqOk s m p.2)
        else if mode = 4 then freqOk s m (s.objN 0x5400 9) && freqOk s m (s.objN 0x5400 10) else true)

/-- The injection state changes; causes: 1 write, 2 schedule, 3 end of the duration, 4 profile, 5 Guarded entry, 6 detector,
7 trip, 8 bounds (R217). -/
def injState (s : State) (new : Int) (cause : Int) : State :=
  let old := s.obj 0x5400 17
  if old = new then s else onset (s.setObj 0x5400 17 new) 0x070B [d8 (injMode s), d8 old, d8 new, d32 cause]

/-- An injection starts (R214, R218). -/
def injBegin (s : State) (survey : Bool) (start : Option Int) (cause : Int) : State :=
  let n := s.objN 0x5400 7
  let s := { s with av := { s.av with
    inj := { s.av.inj with startNs := start, n := 0, lfsr := 2 ^ n - 1, clipped := false, survey := survey
                           byWrite := decide (cause = 1), value := 0 } } }
  triggerCapture (injState s 2 cause) 4

/-- The injection stops. -/
def injEnd (s : State) (new cause : Int) : State :=
  let s := injState s new cause
  { s with av := { s.av with inj := { s.av.inj with startNs := none, n := 0, lfsr := 0, clipped := false, value := 0 } } }

/-- Injection runs. -/
def injRuns (s : State) : Bool := decide (s.obj 0x5400 17 = 2)

/-- What ends an injection at a slot: a profile that does not allow it, as Metrology one begun by a write, a Guarded entry, a trip (R217); 0 nothing. -/
def injStopCause (s : State) : Int :=
  if s.obj 0x6801 0 ≠ 0 then 7
  else if s.profile = 4 then 5
  else if s.av.inj.survey then (if s.profile = 2 then 0 else 4)
  else if s.profile = 5 ∨ (s.profile = 0 ∧ s.av.inj.byWrite = false) then 0 else 4

/-- The injection at a slot, before any loop: it stops where the profile, Guarded or a trip stops it, and Survey starts the
multisine at its first slot (R217). -/
def injSlot (s : State) : State :=
  let c := injStopCause s
  let s := if injRuns s ∧ c ≠ 0 then injEnd s 4 c else s
  if s.profile ≠ 2 then { s with av := { s.av with inj := { s.av.inj with survey := false } } }
  else if s.av.inj.survey ∨ injRuns s then s
  else
    let s := { s with av := { s.av with inj := { s.av.inj with survey := true } } }
    if injBounds s 3 (injTarget s) then injBegin s true none 4 else injState s 3 8

/-- The injection's value at a sample of loop `l`, as a loop fraction, none where it does not run into the loop; the
sequence moves on. -/
def injSample (s : State) (l j : Nat) : Option Int × State :=
  if injRuns s ∧ injTarget s = l then
    let t := slotNs s j
    let i := s.av.inj
    let t0 := i.startNs.getD t
    let len := if s.objN 0x5400 8 = 0 then 1 else s.objN 0x5400 8
    let r := if injMode s = 2 ∧ i.n ≠ 0 ∧ i.n % len = 0 then prbsStep (s.objN 0x5400 7) i.lfsr else i.lfsr
    let s := { s with av := { s.av with inj := { i with startNs := some t0, lfsr := r } } }
    let v := signalAt s (injMode s) (t - t0) t
    let s := { s with av := { s.av with inj := { s.av.inj with n := i.n + 1, value := v } } }
    (some (toLoopFrac v (yScale s l)).1, s)
  else (none, s)

/-- The time of day of a schedule, ns. -/
def scheduleNs (s : State) : Int := time80Ns (s.obj 0x5400 12)

/-- The first start of a schedule that begins at `t0` and repeats every `rep` s, 0 once, after the module time `t`, ns (R217). -/
def startAfter (t0 rep t : Int) : Option Int :=
  let p := rep * 1000000000
  if t < t0 then some t0
  else if t0 = 0 ∨ p = 0 then none
  else some (t0 + p * ((t - t0) / p + 1))

/-- The start of the schedule that comes next is noted. -/
def setStart (s : State) (start : Option Int) : State :=
  { s with av := { s.av with inj := { s.av.inj with sched := start.isSome, dueNs := start.getD s.av.inj.dueNs } } }

/-- The schedule of 0x5400:12 and :14 is taken, at a write of :12 and as a start restores it (R217): while no injection runs
the state shows whether a start is ahead. -/
def scheduleWritten (s : State) : State :=
  let s := setStart s (startAfter (scheduleNs s) (s.obj 0x5400 14) (s.now / 65536))
  if injRuns s then s
  else if s.av.inj.sched then injState s 1 2
  else if s.obj 0x5400 17 = 1 then injState s 0 2 else s

/-- The start in force is over: the next one, where the schedule repeats. -/
def nextStart (s : State) : State := setStart s (startAfter s.av.inj.dueNs (s.obj 0x5400 14) (s.now / 65536))

/-- A start that is ahead is given up: the one after it, where the schedule repeats. -/
def dropStart (s : State) : State :=
  let p := s.obj 0x5400 14 * 1000000000
  setStart s (if p = 0 then none else some (s.av.inj.dueNs + p))

/-- A write of 1 to 0x5400:15: in Service only, within the bounds (R216, R217). -/
def execInjectionStartNow (s : State) : Out :=
  onHost s fun s =>
    if s.profile ≠ 5 ∨ injRuns s then hostWrite s 0x5400 15 errState id
    else if injBounds s (injMode s) (injTarget s) then hostWrite s 0x5400 15 errOk (fun s => injBegin s false none 1)
    else settle (injState s 3 8) 0x5400 15 errRange

/-- A write of 1 to 0x5400:16. -/
def execInjectionStop (s : State) : Out :=
  onHost s fun s => hostWrite s 0x5400 16 errOk fun s =>
    if injRuns s then injEnd s 4 1
    else if s.obj 0x5400 17 = 1 then injEnd (dropStart s) 4 1 else s

/-- The scheduled start arrives (R217): the next one is noted, and the injection starts where none runs, the profile and the
bounds admit it and its duration is not over. -/
def execInjectionScheduleStart (s : State) : Out :=
  onString s fun s =>
    let due := s.av.inj.dueNs
    if s.av.inj.sched ∧ due ≤ s.now / 65536 then
      let s := nextStart s
      if injRuns s then s
      else if due + s.obj 0x5400 13 * 1000000000 ≤ s.now / 65536 then injState s (if s.av.inj.sched then 1 else 0) 2
      else if s.profile = 0 ∨ s.profile = 5 then
        if injBounds s (injMode s) (injTarget s) then injBegin s false (some due) 2 else injState s 3 8
      else injState s 3 4
    else s

/-- The duration ends: where a start is ahead, the injection is scheduled (R217). -/
def execInjectionDurationEnd (s : State) : Out :=
  onString s fun s =>
    let i := s.av.inj
    match i.startNs with
    | some t0 =>
      if injRuns s ∧ i.survey = false ∧ t0 + s.obj 0x5400 13 * 1000000000 ≤ s.now / 65536 then
        injEnd s (if i.sched then 1 else 0) 3
      else s
    | none => s

end Sys2Proof.Machine
end

