-- ==== Sys2Proof/Machine/Capture.lean ====
section
/-!
DEFINITION. The tuning capture and the fault snapshot (R218, R219).
Marks (notes/assumptions): DESIGN CHOICE 52.
-/
namespace Sys2Proof.Machine

/-- A mantissa object's value. -/
def mantObj (s : State) (i sub : Nat) : Int := mant (s.objN i sub)

/-- The fraction a channel selector names: loop in [15:8], signal in [7:0]; 0xFF a lane-13 channel (R218). -/
def signalOf (s : State) (sel : Nat) : Int :=
  let l := sel / 256
  let k := sel % 256
  if l = 255 then s.av.lane13.1.getD k 0
  else
    let x := s.loop l
    if k = 0 then x.r
    else if k = 1 then x.f
    else if k = 2 then x.x
    else if k ≤ 10 then
      match (bankSections x.bank)[k - 3]? with
      | some q => mantObj s (0x5200 + q) 14
      | none => 0
    else if k = 11 then x.y
    else if k = 12 then x.det.bp
    else 0

/-- The unit one full fraction of a selector stands for. -/
def signalScale (s : State) (sel : Nat) : Rat :=
  if sel / 256 = 255 then avenueScale s (sel % 256)
  else if sel % 256 = 11 then uScale s (sel / 256) else yScale s (sel / 256)

/-- A sample word: the fraction in [31:8]; bit 0 clamp, bit 1 any sticky flag set, bit 2 injection active, bit 3 late. -/
def sampleWord (s : State) (late : Bool) (sel : Nat) : Int :=
  let l := sel / 256
  let x := s.loop l
  let isLoop := decide (l < 16)
  let b : Nat := (if isLoop && decide (x.clamp ≠ 0) then 1 else 0) + (if isLoop && decide (s.obj (loopIx l) 19 ≠ 0) then 2 else 0)
    + (if isLoop && x.injected then 4 else 0) + (if late then 8 else 0)
  ((mantWord (signalOf s sel) + b : Nat) : Int)

/-- The channel selectors of a tuning capture. -/
def captureSels (s : State) : List Nat := (List.range (s.objN 0x5440 1)).map (fun c => s.objN 0x5441 (c + 1))

/-- The selectors of a fault snapshot (R219). -/
def snapshotSels (s : State) : List Nat :=
  let d := (dispatchLoop s).getD 16
  [0xFF00, 0xFF01, 0xFF02, 0xFF03, d * 256, d * 256 + 1, d * 256 + 2, d * 256 + 11]

/-- Samples per channel, and those before the trigger. -/
def captureLen (s : State) : Nat × Nat :=
  let n := 2097152 / (4 * (if s.objN 0x5440 1 = 0 then 1 else s.objN 0x5440 1))
  (n, n * s.objN 0x5440 3 / 100)

/-- A snapshot holds 65,536 samples, 49,152 of them before the trigger. -/
def snapshotPre : Nat := 49152
/-- Samples of a snapshot after its trigger. -/
def snapshotPost : Nat := 16384

/-- One more sample after the trigger, while fewer than `post` stand. -/
def pushAfter (c : Capture) (post : Nat) (row : List Int) : Capture :=
  match c.after with
  | some k => if k < post then { c with rows := row :: c.rows, after := some (k + 1) } else c
  | none => c

/-- The level of the trigger is crossed between two samples in the edge direction of 0x5440:12. -/
def levelCrossed (s : State) (old new : Int) : Bool :=
  let c := s.objN 0x5440 5
  let k := signalScale s (s.objN 0x5441 c)
  let lv := s.objF 0x5440 6
  let a := fromFrac (mant old.toNat) k
  let b := fromFrac (mant new.toNat) k
  let up := decide (a < lv) && decide (lv ≤ b)
  let down := decide (lv ≤ a) && decide (b < lv)
  if s.obj 0x5440 12 = 0 then up else if s.obj 0x5440 12 = 1 then down else up || down

/-- The tuning capture takes a sample. -/
def tuningSample (s : State) (row : List Int) : State :=
  let c := s.av.cap
  let k := s.objN 0x5440 5 - 1
  let cross := match c.prev with
    | some old => s.obj 0x5440 4 == 1 && levelCrossed s (old.getD k 0) (row.getD k 0)
    | none => false
  let s := if cross then triggerCapture s 1 else s
  let (n, pre) := captureLen s
  if s.obj 0x5440 8 = 1 then
    { s with av := { s.av with cap := { s.av.cap with rows := (row :: s.av.cap.rows).take pre, prev := some row } } }
  else { s with av := { s.av with cap := pushAfter s.av.cap (n - pre) row } }

/-- The captures at the end of a slot: the pre-trigger record of the snapshot is always taken; a tuning capture takes the
slots of its rate (R218, R219). -/
def captureSlot (s : State) (j : Nat) (late : Bool) : State :=
  let row := (snapshotSels s).map (sampleWord s late)
  let s := { s with av := { s.av with
    pre := (row :: s.av.pre).take snapshotPre
    snap := s.av.snap.map (fun c => pushAfter c snapshotPost row) } }
  let src := s.objN 0x5440 2
  let m := (s.loop src).rate
  let due := decide (16 ≤ src) || (decide (m ≠ 0) && decide (j * m % 8 = 0))
  if (s.obj 0x5440 8 = 1 ∨ s.obj 0x5440 8 = 2) ∧ due then tuningSample s ((captureSels s).map (sampleWord s late)) else s

/-- The capture record as 0x5442:0 returns it. -/
def captureRecord (c : Capture) (sels : List Nat) (rate : Nat) : List Byte :=
  let rows := c.rows.reverse
  let trig := rows.length - c.after.getD 0
  let head := leBytes 2 0x7C01 ++ leBytes 2 (sels.length : Nat) ++ leBytes 4 (rows.length : Nat) ++ leBytes 4 (trig : Nat)
    ++ d80 (c.at_ / 1000000000 * 4294967296 + c.at_ % 1000000000) ++ leBytes 2 (rate : Nat) ++ leBytes 4 0
  let names := (sels.map (fun x => leBytes 2 (x : Nat))).flatten
  head ++ leBytes 4 (crc32c head : Nat) ++ padTo 16 names ++ (rows.map (fun r => (r.map (leBytes 4)).flatten)).flatten

/-- The rate a tuning capture runs at, as a multiple of the frame rate. -/
def captureRate (s : State) : Nat := if s.objN 0x5440 2 < 16 then (s.loop (s.objN 0x5440 2)).rate else 8

/-- A write of 1 to 0x5440:7 (R218, R219). -/
def execCaptureArm (s : State) : Out :=
  onHost s fun s =>
    hostWrite s 0x5440 7 (if s.obj 0x5440 8 = 5 ∨ s.av.snap.isSome then errState else errOk) fun s =>
      { (s.setObj 0x5440 8 1).setDom 0x5442 0 [] with av := { s.av with cap := {} } }

/-- A write of 2 to 0x5440:7. -/
def execCaptureDisarm (s : State) : Out :=
  onHost s fun s => hostWrite s 0x5440 7 errOk fun s =>
    if s.obj 0x5440 8 = 1 ∨ s.obj 0x5440 8 = 2 then
      { s.setObj 0x5440 8 0 with av := { s.av with cap := {} } }
    else s

/-- A write of 3 to 0x5440:7: the trigger of source 0. -/
def execCaptureTrigger (s : State) : Out := onHost s fun s => hostWrite s 0x5440 7 errOk fun s => triggerCapture s 0

/-- A capture or a snapshot has its samples after the trigger (R218, R219). -/
def execCaptureComplete (s : State) : Out :=
  onString s fun s =>
    let s := match s.av.snap with
      | some c =>
        if c.after = some snapshotPost then
          let s := (s.setDom 0x5442 0 (captureRecord c (snapshotSels s) 8)).setObj 0x5440 8 5
          onset { s with av := { s.av with snap := none } } 0x070F [d32 c.cause]
        else s
      | none => s
    let (n, pre) := captureLen s
    let c := s.av.cap
    if s.obj 0x5440 8 = 2 ∧ c.after = some (n - pre) then
      let s := (s.setDom 0x5442 0 (captureRecord c (captureSels s) (captureRate s))).setObj 0x5440 8 3
      onset { s with av := { s.av with cap := {} } } 0x070D [d32 c.rows.length, d32 ((c.rows.length - (n - pre) : Nat) : Int)]
    else s

/-- A held snapshot is released (R219). -/
def releaseSnapshot (s : State) : State := if s.obj 0x5440 8 = 5 then s.setObj 0x5440 8 0 else s

/-- A write of 1 to 0x5440:8. -/
def execSnapshotRelease (s : State) : Out := onHost s fun s => hostWrite s 0x5440 8 errOk releaseSnapshot

end Sys2Proof.Machine
end

