-- ==== Sys2Proof/Machine/Mirror.lean ====
section
/-!
DEFINITION. What a card holds of its own control state for the mirror, and the corrections of Avenue and of the retained pages
that a mirror brings (R306 to R308, R310). Layouts inside a part that the spec does not give are the model's own.
Marks (notes/assumptions): DESIGN CHOICE 74.
-/
namespace Sys2Proof.Machine

/-! ### Binary64 (R308) -/

/-- A rational as a binary64 word, rounded to nearest, ties to even. -/
def f64Word (q : Rat) : Nat :=
  if q = 0 then 0 else
  let s := if q < 0 then 9223372036854775808 else 0
  let a := absR q
  let e := log2R a
  let ex := if e < -1022 then -1022 else e
  let m := (roundRne (a * pow2R (52 - ex))).toNat
  let inf := s + 9218868437227405312
  if ex > 1023 then inf
  else if m < 4503599627370496 then s + m
  else if m = 9007199254740992 then (if ex = 1023 then inf else s + (ex + 1024).toNat * 4503599627370496)
  else s + (ex + 1023).toNat * 4503599627370496 + (m - 4503599627370496)

/-- The rational a binary64 word stands for; infinity and NaN read as 2^1024 with their sign. -/
def f64Value (w : Nat) : Rat :=
  let e := w / 4503599627370496 % 2048
  let f := w % 4503599627370496
  let a : Rat := if e = 0 then (f : Rat) * pow2R (-1074)
    else if e = 2047 then pow2R 1024
    else ((4503599627370496 + f : Nat) : Rat) * pow2R ((e : Int) - 1075)
  if w / 9223372036854775808 % 2 = 1 then -a else a

/-- A signed little-endian field. -/
def getSle (l : List Byte) (o n : Nat) : Int := toS (8 * n) (getLe l o n)

/-! ### The snapshot after slot j_s (R307, R310) -/

/-- Slot j_s of the snapshot. -/
def snapSlot (s : State) : Nat := if s.obj 0x2011 0 < 250 then 6 else 7

/-- Conversion is permitted: the safety verdict, the main contactors, the owning loop, no shutdown past step 1 (R221, R262). -/
def convEnable (s : State) : Bool :=
  decide (s.obj 0x6800 1 = 0) && decide (s.obj 0x6880 4 = 5) && !s.av.conv.off
    && (match ownerLoop s with
      | some l => loopRuns s l
      | none => false)

/-- Standby is requested (R221). -/
def convStandby (s : State) : Bool := decide (s.profile = 3) || s.safe.con.standby

/-- A limit in 0.1 A as commands carry it (R221). -/
def deciAmp (q : Rat) : Int := clampI 0 65535 (roundRne (q * 10))

/-- The control state as it stands. -/
def slotSnap (s : State) : SlotSnap :=
  { frame := s.frameNo
    secs := (List.range 96).flatMap (fun q => [mantObj s (0x5200 + q) 11, mantObj s (0x5200 + q) 12])
    outs := (List.range 16).map (fun l => (s.loop l).y)
    slips := (List.range 4).map (fun c => match (s.slip c).gear with
      | some g => (g.q, g.w)
      | none => ((s.slip c).pos, (s.slip c).vel))
    conv := [s.av.conv.next, deciAmp (effLimit s true), deciAmp (effLimit s false),
      (if convEnable s then 1 else 0), (if convStandby s then 1 else 0)] }

/-- In a pair the control state is recorded after slot j_s. -/
def takeSnap (s : State) (j : Nat) : State :=
  if s.pairOn ∧ j = snapSlot s then { s with duplex := { s.duplex with snap := some (slotSnap s) } } else s

/-! ### Kind 1: Avenue (R308, R310) -/

/-- Detector window state, 16 bytes: sign changes, last sign, action that holds, sum of squares, samples, action due. -/
def detBytes (d : Det) : List Byte :=
  let n := d.win.foldl (fun a p => a + p.2.1) (0 : Nat)
  let m := d.win.foldl (fun a p => a + p.2.2.2) (0 : Nat)
  let q := d.win.foldl (fun a p => a + p.2.2.1) (0 : Rat)
  leBytes 2 (n : Int) ++ leBytes 1 d.last ++ leBytes 1 (d.hold : Int) ++ leBytes 4 (f32Word q : Nat) ++ leBytes 4 (m : Int)
    ++ leBytes 4 (d.next : Int)

/-- The content of kind 1. -/
def avenuePart (s : State) (x : SlotSnap) : List Byte :=
  x.secs.flatMap (fun v => leBytes 4 (mantWord v : Nat)) ++ x.outs.flatMap (leBytes 4)
    ++ (List.range 16).flatMap (fun l => detBytes (s.loop l).det)

/-- The detector takes the mirrored window in place of its own; it stands in the frame before. -/
def takeDet (d : Det) (frame : Nat) (b : List Byte) : Det :=
  let w := (frame, getLe b 0 2, f32Value (getLe b 4 4), getLe b 8 4)
  { d with last := getSle b 2 1, hold := getLe b 3 1, next := getLe b 12 4,
           win := if w.2.1 = 0 ∧ w.2.2.2 = 0 then [] else [w] }

/-- The correction of a value: the difference of the mirrored and the recorded one, or the mirrored one where none was
recorded. -/
def corrected (now : Int) (rec_ : Option Int) (mir : Int) : Int :=
  match rec_ with
  | some r => now + (mir - r)
  | none => mir

/-- The values recorded in the frame a part arrived in. -/
def snapOf (s : State) (p : MirPart) : Option SlotSnap :=
  match s.duplex.snap with
  | some x => if x.frame = p.frame then some x else none
  | none => none

/-- Section states and loop outputs take their corrections, saturated as R197; detectors are replaced (R310). -/
def applyAvenue (s : State) (p : MirPart) : State :=
  let x := snapOf s p
  let word (k : Nat) : Int := mant (getLe p.body (4 * k) 4)
  let s := (List.range 96).foldl (fun s q =>
    let fix (s : State) (k sub : Nat) : State :=
      let v := corrected (mantObj s (0x5200 + q) sub) (x.map (fun y => y.secs.getD k 0)) (word k)
      s.setObj (0x5200 + q) sub (mantWord (sat24 v).1 : Nat)
    fix (fix s (2 * q) 11) (2 * q + 1) 12) s
  (List.range 16).foldl (fun s l =>
    let y := s.loop l
    let v := corrected y.y (x.map (fun z => z.outs.getD l 0)) (getSle p.body (768 + 4 * l) 4)
    s.setLoop l { y with y := (sat24 v).1, det := takeDet y.det p.frame (sliceAt p.body (832 + 16 * l) 16) }) s

/-- Parts of a kind that wait, and the state without them. -/
def takeParts (s : State) (kind : Nat) : List MirPart × State :=
  (s.duplex.parts.filter (fun p => p.kind == kind),
    { s with duplex := { s.duplex with parts := s.duplex.parts.filter (fun p => p.kind != kind) } })

/-- Before slot 0 of a frame the corrections of the mirror received in the frame before it are applied (R310). -/
def avenueMirror (s : State) : State :=
  let (l, s) := takeParts s 1
  l.foldl (fun s p => if p.frame = s.frameNo then { s with duplex := { s.duplex with parts := s.duplex.parts ++ [p] } }
    else applyAvenue s p) s

/-! ### Kind 5: retained pages (R308) -/

/-- A retained page of 128 bytes. -/
def pageAt (l : List Byte) (k : Nat) : List Byte := sliceAt l (128 * k) 128

/-- Bytes written over a region at an offset, no further than its end. -/
def putBytes (l : List Byte) (o : Nat) (b : List Byte) : List Byte := ((l.take o ++ b) ++ l.drop (o + b.length)).take l.length

/-- The pages of a list: page number, zero and 128 bytes each. -/
def pagePart (l : List Byte) (ks : List Nat) : List Byte :=
  ks.flatMap (fun (k : Nat) => leBytes 2 (k : Int) ++ [0#8, 0#8] ++ pageAt l k)

/-- The pages a part of `n` pages carries are installed. -/
def installPages : Nat → List Byte → List Byte → List Byte
  | 0, _, r => r
  | n + 1, b, r => installPages n (b.drop 132) (putBytes r (128 * getLe b 0 2) (sliceAt b 4 128))

/-- Mirrored pages replace the card's own at the start of its next fast task (R310). -/
def pagesMirror (s : State) : State :=
  let (l, s) := takeParts s 5
  l.foldl (fun s p => { s with prog := { s.prog with
    retained := installPages (p.body.length / 132) p.body s.prog.retained } }) s

/-- The pages in which two regions differ, rising. -/
def changedPages (old new : List Byte) : List Nat :=
  (List.range ((new.length + 127) / 128)).filter (fun k => pageAt old k != pageAt new k)

end Sys2Proof.Machine
end

