-- ==== Sys2Proof/Machine/Program.lean ====
section
/-!
DEFINITION. The cyclic program (R327 to R337, R342, R346 to R352): its image and the checks of it, starts and stops, the runs of
its tasks, online change, forcing and the retained data. What a run's own code computes comes with the command that ends it.
Marks (notes/assumptions): DEDUCED 84, 85, 86, 87, 88, 95, 158; PRESUMED 161; DESIGN CHOICE 20, 47, 131, 132, 151, 162.
-/
namespace Sys2Proof.Machine

/-! ### The image (R327 to R330) -/

/-- Length of the output image (R340). -/
def outLen : Nat := 1288

/-- The next multiple of 16. -/
def align16 (n : Nat) : Nat := (n + 15) / 16 * 16

/-- Offset and length of the seven sections: code, constants, initial data, initial retained values, symbols, stations, object
outputs. -/
def imageSections (b : List Byte) : List (Nat × Nat) :=
  let lens := [getLe b 24 4, getLe b 36 4, getLe b 28 4, getLe b 32 4, 48 * getLe b 40 2, 32 * getLe b 42 1, 16 * getLe b 43 1]
  (lens.foldl (fun (acc : Nat × List (Nat × Nat)) n =>
    let o := align16 acc.1
    (o + n, acc.2 ++ [(o, n)])) (128, ([] : List (Nat × Nat)))).2

/-- Bytes of a section. -/
def sectionBytes (b : List Byte) (k : Nat) : List Byte :=
  let p := (imageSections b).getD k (0, 0)
  (b.drop p.1).take p.2

/-- Where the last section ends. -/
def imageEnd (b : List Byte) : Nat :=
  let p := (imageSections b).getD 6 (0, 0)
  p.1 + p.2

/-- A symbol entry (R328). -/
def parseSymbol (e : List Byte) : Symbol :=
  ⟨getLe e 0 2, getLe e 2 2, getLe e 4 1, getLe e 5 1, getLe e 6 2, getLe e 8 1, getLe e 9 1, getLe e 10 2, getLe e 12 4,
    sliceAt e 16 32⟩

/-- A CAN station entry (R329). -/
def parseStation (e : List Byte) : Station :=
  { num := getLe e 0 1, bus := getLe e 1 1, flags := getLe e 2 1, failCount := getLe e 3 1, rxId := getLe e 4 4,
    rxLen := getLe e 8 1, txLen := getLe e 9 1, rxTimeout := getLe e 10 2, txId := getLe e 12 4, txPeriod := getLe e 16 2,
    failOff := getLe e 20 4, safeOff := getLe e 24 4 }

/-- An object output entry (R329). -/
def parseOut (e : List Byte) : ObjOut :=
  let ty := getLe e 4 1
  let t := typeOfCode ty
  ⟨getLe e 0 2, getLe e 2 2, ty, getLe e 5 1, decodeVal t (sliceAt e 8 (typeSize t))⟩

/-- The entries of a table of `w`-byte entries. -/
def entries (l : List Byte) (w : Nat) : List (List Byte) := (List.range (l.length / w)).map (fun k => sliceAt l (w * k) w)

/-- An image as its header and tables give it. -/
def parseImage (b : List Byte) : ProgImage :=
  let syms := sectionBytes b 4
  { version := getLe b 8 4, buildTime := decodeVal .time80 (sliceAt b 12 10), code := sectionBytes b 0,
    consts := sectionBytes b 1, initData := sectionBytes b 2, initRetained := sectionBytes b 3,
    symbols := (entries syms 48).map parseSymbol, stations := (entries (sectionBytes b 5) 32).map parseStation,
    outputs := (entries (sectionBytes b 6) 16).map parseOut, mfMask := getLe b 44 1, mfSafe := getLe b 45 1,
    fastEntry := getLe b 48 4, backEntry := getLe b 52 4,
    slow := (List.range (min 4 (getLe b 46 1))).map (fun k =>
      (getLe b (56 + 8 * k) 4, getLe b (60 + 8 * k) 2, getLe b (62 + 8 * k) 2)),
    ifCrc := getLe b 88 4, retCrc := getLe b 92 4, imgCrc := getLe b (b.length - 4) 4, table := syms, raw := b }

/-- The position of the first element of a list that a test names. -/
def firstIx {α : Type} (f : α → Bool) (l : List α) : Option Nat := l.findIdx? f

/-- The elements of a list with those before each. -/
def withEarlier {α : Type} : List α → List α → List (List α × α)
  | _, [] => []
  | done, x :: r => (done, x) :: withEarlier (done ++ [x]) r

/-- Two half-open ranges meet. -/
def meet (a n b m : Nat) : Bool := decide (a < b + m) && decide (b < a + n)

/-- A symbol entry breaks a rule of reason 6 (R330). -/
def symbolBad (earlier : List Symbol) (y : Symbol) : Bool :=
  decide (y.index < 0x9000) || decide (0x9FFF < y.index)
    || earlier.any (fun x => (x.index == y.index && meet x.sub x.count y.sub y.count)
      || (x.region == 4 && y.region == 4 && x.owner != y.owner && meet x.off (x.size * x.count) y.off (y.size * y.count)))

/-- An object output breaks a rule of reason 7 (R330). -/
def outBad (s : State) (earlier : List ObjOut) (o : ObjOut) : Bool :=
  (decide (0x9000 ≤ o.index) && decide (o.index < 0xA100))
    || (match objInfo s o.index o.sub with
      | none => true
      | some r => r.access != .rw || typeCode r.ty != o.ty)
    || earlier.any (fun x => x.index == o.index && x.sub == o.sub)

/-- A length, count or period lies outside the header table (R327, R330); the field's offset. -/
def headerBad (b : List Byte) : Option Nat :=
  let slow := (List.range 4).find? (fun k => decide (k < getLe b 46 1) &&
    (decide (getLe b (60 + 8 * k) 2 < 2) || decide (4096 < getLe b (60 + 8 * k) 2)
      || decide (getLe b (60 + 8 * k) 2 ≤ getLe b (62 + 8 * k) 2)))
  if getLe b 2 2 ≠ 128 then some 2
  else if getLe b 24 4 < 4 ∨ 1572864 < getLe b 24 4 then some 24
  else if 524288 < getLe b 36 4 + getLe b 28 4 then some 28
  else if 65536 < getLe b 32 4 ∨ getLe b 32 4 % 128 ≠ 0 then some 32
  else if 4096 < getLe b 40 2 then some 40
  else if 16 < getLe b 42 1 then some 42
  else if 32 < getLe b 43 1 then some 43
  else if 4 < getLe b 46 1 then some 46
  else match slow with
    | some k => some (60 + 8 * k)
    | none => if imageEnd b + 100 ≠ b.length then some (imageEnd b) else none

/-- The trailer of an image: its CRC, its SHA-256, its signature where one is required (R327, R330, R333). -/
def trailerCrc (b : List Byte) : Bool :=
  decide (228 ≤ b.length) && crc32c (b.take (b.length - 4)) == getLe b (b.length - 4) 4

/-- The SHA-256 of its trailer. -/
def trailerSha (b : List Byte) : Bool := sha256 (b.take (b.length - 100)) == sliceAt b (b.length - 100) 32

/-- The signature of its trailer, where 0xA011:4 asks for one. -/
def trailerSigned (s : State) (b : List Byte) : Bool :=
  !s.objB 0xA011 4 || ecdsaValid (s.dom 0xA012 0) (sliceAt b (b.length - 100) 32) (sliceAt b (b.length - 68) 64)

/-- A stored image is valid: its trailer holds (R333). -/
def imageHolds (s : State) (b : List Byte) : Bool := trailerCrc b && trailerSha b && trailerSigned s b

/-- The first check an image fails: reason and byte offset (R330). -/
def imageBad (s : State) (b : List Byte) : Option (Nat × Nat) :=
  let n := b.length
  let sec (k : Nat) : Nat := ((imageSections b).getD k (0, 0)).1
  if trailerCrc b = false then some (1, n - 4)
  else if crc32c (b.take 124) ≠ getLe b 124 4 then some (1, 124)
  else if trailerSha b = false then some (2, n - 100)
  else if trailerSigned s b = false then some (3, n - 68)
  else if getLe b 0 2 ≠ 0x9A01 then some (4, 0)
  else if getLe b 4 2 ≠ 1 then some (4, 4)
  else if getLe b 6 2 ≠ 0x0240 then some (4, 6)
  else match headerBad b with
  | some o => some (5, o)
  | none =>
    let im := parseImage b
    match firstIx (fun p => symbolBad p.1 p.2) (withEarlier [] im.symbols) with
    | some k => some (6, sec 4 + 48 * k)
    | none =>
      match firstIx (fun p => outBad s p.1 p.2) (withEarlier [] im.outputs) with
      | some k => some (7, sec 6 + 16 * k)
      | none =>
        match firstIx (fun (p : List Station × Station) => p.1.any (fun x => x.num == p.2.num) || decide (64 < p.2.rxLen)
            || decide (64 < p.2.txLen)) (withEarlier [] im.stations) with
        | some k => some (8, sec 5 + 32 * k)
        | none =>
          if crc32c im.table ≠ im.ifCrc then some (9, 88)
          else if crc32c ((entries im.table 48).filter (fun e => (getLe e 5 1).testBit 0)).flatten ≠ im.retCrc then some (9, 92)
          else none

/-- An event of the program. -/
def raiseProg (s : State) (code : Nat) (flds : List Fld) : State := raise s code 3 flds

/-- A staged image is checked (R330, R331): one that passes is ready at once on a single module; in a pair it reads state 2 until the
first of its blocks leaves for the partner, and 4 from then on. -/
def checkStaged (s : State) (b : List Byte) : State :=
  match imageBad s b with
  | some (r, o) =>
    let s := s.mapProg fun p => { p with staged := [], checked := none, fwd := none }
    raiseProg (s.setObjs 0xA011 [(1, 3), (2, r)]) 0x0C02 [d8 r, d32 o]
  | none =>
    let s := s.setObjs 0xA011 [(1, if s.pairOn then 2 else 5), (2, 0)]
    s.mapProg fun p => { p with staged := b, checked := some (parseImage b), fwd := if s.pairOn then some (b, 0) else none }

/-- The transfer of 0xA010:0 ends (R330). -/
def execImageCheck (image : List Byte) (s : State) : Out :=
  onHost s fun s => settle (checkStaged s image) 0xA010 0 errOk

/-- The number of data blocks of a length (R323, R331). -/
def blocksOf (n : Nat) : Nat := (n + 4063) / 4064

/-- The partner has installed every block of the image (R331). -/
def execImageForwardComplete (s : State) : Out :=
  onHost s fun s =>
    match s.prog.fwd with
    | some (b, k) =>
      if s.obj 0xA011 1 = 4 ∧ blocksOf b.length ≤ k then (s.mapProg fun p => { p with fwd := none }).setObj 0xA011 1 5 else s
    | none => s

/-! ### Regions and symbols -/

/-- A region takes bytes. -/
def putRegion (s : State) (r off : Nat) (b : List Byte) : State :=
  match r with
  | 0 => s.mapProg fun p => { p with consts := putBytes p.consts off b }
  | 1 => s.mapProg fun p => { p with data := putBytes p.data off b }
  | 2 => s.mapProg fun p =>
      let new := putBytes p.retained off b
      { p with retained := new, dirty := (List.range 512).filter (fun k =>
          p.dirty.contains k || (changedPages p.retained new).contains k) }
  | 3 => s
  | _ => s.mapProg fun p => { p with outVec := putBytes p.outVec off b }

/-- The offset of an element of a symbol. -/
def elemOff (y : Symbol) (sub : Nat) : Nat := y.off + (sub - y.sub) * y.size

/-- The tasks of the image. -/
def imageTasks (s : State) : List Nat :=
  match s.prog.image with
  | some im =>
    (if im.fastEntry = 0xFFFFFFFF then [] else [0]) ++ (List.range im.slow.length).map (· + 1)
      ++ (if im.backEntry = 0xFFFFFFFF then [] else [5])
  | none => []

/-- The tasks a symbol belongs to: its owner, or for a shared one every task of the image (R328). -/
def ownerTasks (s : State) (y : Symbol) : List Nat := if y.owner < 6 then [y.owner] else imageTasks s

/-- A task as it stands. -/
def State.task (s : State) (k : Nat) : Task := storeGet (fun _ => {}) s.prog.tasks k

/-- Stores a task. -/
def State.setTask (s : State) (k : Nat) (x : Task) : State :=
  s.mapProg fun p => { p with tasks := storePut (fun _ => {}) p.tasks k x }

/-! ### Forces (R349 to R351) -/

/-- The bytes of a forced value, for an element of `n` bytes. -/
def forceBytes (v n : Nat) : List Byte := padTo n (leBytes 8 (v : Int))

/-- The value a force has in a task, where it is in force there. -/
def Force.at (f : Force) (k : Nat) : Option Nat := (f.views.find? (fun p => p.1 == k)).map (·.2)

/-- A 48-byte entry of the force table. -/
def forceEntry (s : State) (f : Force) : List Byte :=
  let n := match symbolAt s f.index f.sub with | some y => y.size | none => 0
  padTo 32 f.name ++ [BitVec.ofNat 8 f.ty, BitVec.ofNat 8 n, 0#8, 0#8] ++ leBytes 2 (f.index : Int) ++ leBytes 2 (f.sub : Int)
    ++ leBytes 8 (f.value : Int)

/-- The force table takes its entries, with the objects that show it. -/
def setForces (s : State) (l : List Force) : State :=
  let s := s.mapProg fun p => { p with forces := l }
  (s.setObj 0xA042 0 l.length).setDom 0xA040 0 (l.flatMap (forceEntry s))

/-- The forced variables of task k take their values (R350). -/
def forceVars (s : State) (k : Nat) : State :=
  s.prog.forces.foldl (fun s x =>
    match symbolAt s x.index x.sub, x.at k with
    | some y, some v =>
      if (y.region = 1 ∨ y.region = 2) ∧ y.owner = k then putRegion s y.region (elemOff y x.sub) (forceBytes v y.size) else s
    | _, _ => s) s

/-- Forced outputs are written into the output vector, each as its owner's force stands (R350). -/
def forceOuts (s : State) : State :=
  s.prog.forces.foldl (fun s x =>
    match symbolAt s x.index x.sub with
    | some y => match x.at y.owner with
      | some v => if y.region = 4 then putRegion s 4 (elemOff y x.sub) (forceBytes v y.size) else s
      | none => s
    | none => s) s

/-- Forced elements of a region are written into task k's copy of it: its input image, its constants (R350). -/
def forceCopy (s : State) (k region : Nat) (b : List Byte) : List Byte :=
  s.prog.forces.foldl (fun b x =>
    match symbolAt s x.index x.sub, x.at k with
    | some y, some v => if y.region = region then putBytes b (elemOff y x.sub) (forceBytes v y.size) else b
    | _, _ => b) b

/-- The keys forced once every request under way has been applied. -/
def forcedKeys (s : State) : List Nat :=
  s.prog.forceReqs.foldl (fun ks r =>
    let k := objKey r.index r.sub
    if r.cmd = 1 then (if ks.contains k then ks else k :: ks) else if r.cmd = 2 then ks.filter (· != k) else [])
    (s.prog.forces.map (fun f => objKey f.index f.sub))

/-- Why a force request is refused over the keys forced before it: 1 not forcible, 2 table full, 3 not forced. -/
def forceReason (s : State) (ks : List Nat) (cmd i sub : Nat) : Nat :=
  let has := ks.contains (objKey i sub)
  if cmd = 1 then
    match symbolAt s i sub with
    | some y => if y.flags.testBit 5 = false then 1 else if has = false ∧ 256 ≤ ks.length then 2 else 0
    | none => 1
  else if cmd = 2 then (if has then 0 else 3) else 0

/-- A force leaves the tasks `ks`. -/
def Force.leave (f : Force) (ks : List Nat) : Force := { f with views := f.views.filter (fun p => !(ks.contains p.1)) }

/-- Forces that are in force in no task any more leave the table; a variable an online change had altered takes that value (R351). -/
def dropForces (s : State) : State :=
  let gone := s.prog.forces.filter (fun f => f.views.isEmpty)
  let s := gone.foldl (fun s f =>
    match symbolAt s f.index f.sub, f.under with
    | some y, some b => putRegion s y.region (elemOff y f.sub) b
    | _, _ => s) s
  setForces s (s.prog.forces.filter (fun f => !f.views.isEmpty))

/-- A request reaches the tasks `ks`: the force table and, with the first of them, the event (R349). -/
def applyForce (s : State) (r : ForceReq) (ks : List Nat) : State :=
  let key : Int := (objKey r.index r.sub : Nat)
  let mine (f : Force) : Bool := f.index == r.index && f.sub == r.sub
  if r.cmd = 1 then
    match symbolAt s r.index r.sub with
    | none => s
    | some y =>
      let f : Force := (s.prog.forces.find? mine).getD ⟨y.name, y.ty, r.index, r.sub, r.value, [], none⟩
      let f := f.leave ks
      let f := { f with value := r.value, views := f.views ++ ks.map (fun k => (k, r.value)) }
      let s := setForces s (s.prog.forces.filter (fun f => !(mine f)) ++ [f])
      if r.applied then s else raiseProg s 0x0C06 [d32 key, d64 r.value]
  else if r.cmd = 2 then
    let s := dropForces (setForces s (s.prog.forces.map (fun f => if mine f then f.leave ks else f)))
    if r.applied then s else raiseProg s 0x0C07 [d32 key]
  else
    let s := dropForces (setForces s (s.prog.forces.map (fun f => f.leave ks)))
    if r.applied then s else raiseProg s 0x0C07 [d32 0xFFFFFFFF]

/-- A request meets its first task boundary: applied there, or refused with its event (R349). -/
def meetForce (s : State) (r : ForceReq) (ks : List Nat) : State :=
  let e := if r.applied then 0 else forceReason s (s.prog.forces.map (fun f => objKey f.index f.sub)) r.cmd r.index r.sub
  if e = 0 then applyForce s r ks else
  let s := s.mapProg fun p => { p with forceReqs := p.forceReqs.filter (fun q =>
    !(q.applied && q.cmd == r.cmd && q.index == r.index && q.sub == r.sub && q.value == r.value)) }
  raiseProg s 0x0C08 [d32 (objKey r.index r.sub : Nat), d32 e]

/-- The program runs. -/
def progRuns (s : State) : Bool := decide (s.obj 0xA000 2 = 2)

/-- An entry of lane 45 where AC0's task is among its tasks, of lane 46 where one of AC1's is (R348). -/
def pushOwner (s : State) (tasks : List Nat) (i sub : Nat) : State :=
  let e : Elem := .nums [(i : Int), (sub : Int)]
  let s := if tasks.contains 0 then lanePush s 45 e else s
  if tasks.any (fun k => k != 0) then lanePush s 46 e else s

/-- A force request waits for its tasks' next release; while the program does not run it applies at the boundary. -/
def queueForce (s : State) (cmd i sub value : Nat) : State :=
  let tasks := if cmd = 3 then imageTasks s else match symbolAt s i sub with | some y => ownerTasks s y | none => imageTasks s
  let r : ForceReq := ⟨cmd, i, sub, value, tasks, false⟩
  if progRuns s ∧ tasks ≠ [] then
    pushOwner (s.mapProg fun p => { p with forceReqs := p.forceReqs ++ [r] }) tasks i sub
  else applyForce s r (if cmd = 1 then tasks else s.prog.forces.flatMap (fun f => f.views.map Prod.fst))

/-- A force request through 0xA041:0: refused with RANGE, or queued (R349). -/
def forceRequest (s : State) (cmd i sub value : Nat) : State :=
  let e := forceReason s (forcedKeys s) cmd i sub
  if e ≠ 0 then settle (raiseProg s 0x0C08 [d32 (objKey i sub : Nat), d32 e]) 0xA041 0 errRange
  else settle (queueForce s cmd i sub value) 0xA041 0 errOk

/-- Command 1 of 0xA041:0 (R349). -/
def execForceSetRequest (ref : ObjRef) (value : BitVec 64) (s : State) : Out :=
  onHost s fun s => forceRequest s 1 ref.index.toNat ref.sub.toNat value.toNat

/-- Command 2 of 0xA041:0 (R349). -/
def execForceClearRequest (ref : ObjRef) (s : State) : Out :=
  onHost s fun s => forceRequest s 2 ref.index.toNat ref.sub.toNat 0

/-- Command 3 of 0xA041:0 (R349). -/
def execForceClearAllRequest (s : State) : Out := onHost s fun s => forceRequest s 3 0 0 0

/-! ### Online change (R348) -/

/-- A change reaches its element: event, counts (R348); beneath a force it alters the underlying value (R351). -/
def applyChange (s : State) (c : Change) : State :=
  match symbolAt s c.index c.sub with
  | none => s
  | some y =>
    let old := symbolBytes s y c.sub
    let new := padTo y.size c.bytes
    let s := putRegion s y.region (elemOff y c.sub) new
    let s := if y.region = 1 ∨ y.region = 2 then s.mapProg fun p => { p with forces := p.forces.map (fun f =>
        if f.index = c.index ∧ f.sub = c.sub then { f with under := some new } else f) } else s
    let s := (s.bump 0xA030 1).setObj 0xA030 2 s.frameNo
    raiseProg s 0x0C05 [d32 (objKey c.index c.sub : Nat), padTo 4 old, padTo 4 new, d32 c.source]

/-- The changes that are still pending show in 0xA030:3. -/
def setChanges (s : State) (l : List Change) : State := (s.mapProg fun p => { p with changes := l }).setObj 0xA030 3 l.length

/-- A write to a symbol's object (R348): a later change of the element replaces the pending one. -/
def execOnlineChangeWrite (ref : ObjRef) (value : List Byte) (s : State) : Out :=
  onHost s fun s =>
    let i := ref.index.toNat
    let sub := ref.sub.toNat
    let src : Nat := match writeOf s i sub with | some w => logSource w.origin | none => 1
    match symbolAt s i sub with
    | none => settle s i sub errNoObject
    | some y =>
      let rest := s.prog.changes.filter (fun c => !(c.index == i && c.sub == sub))
      let tasks := ownerTasks s y
      if y.flags.testBit 4 = false then settle s i sub errAccess
      else if progRuns s = false ∨ tasks = [] then
        settle (applyChange (setChanges s rest) ⟨i, sub, value, src, [], true⟩) i sub errOk
      else if 64 ≤ rest.length then settle s i sub errBusy
      else settle (pushOwner (setChanges s (rest ++ [(⟨i, sub, value, src, tasks, false⟩ : Change)])) tasks i sub) i sub errOk

/-- What waits for a task's release is applied just before it, for that task (R348, R349). -/
def taskBoundary (s : State) (k : Nat) : State :=
  let s := (laneDrain s (if k = 0 then 45 else 46)).2
  let s := s.prog.changes.foldl (fun s c => if c.tasks.contains k ∧ c.applied = false then applyChange s c else s) s
  let s := setChanges s (s.prog.changes.filterMap (fun c =>
    if c.tasks.contains k then
      let t := c.tasks.filter (· != k)
      if t = [] then none else some { c with tasks := t, applied := true }
    else some c))
  let l := s.prog.forceReqs.filter (fun r => r.tasks.contains k)
  let s := s.mapProg fun p => { p with forceReqs := p.forceReqs.filterMap (fun r =>
    if r.tasks.contains k then
      let t := r.tasks.filter (· != k)
      if t = [] then none else some { r with tasks := t, applied := true }
    else some r) }
  l.foldl (fun s r => meetForce s r [k]) s

/-! ### State of the program (R335, R336) -/

/-- The program state changes (R335); out of RUNNING the object outputs are to take their safe values (R342). Causes: 1 command,
2 profile, 3 trap, 4 activation, 5 autostart. -/
def setProgState (s : State) (new cause : Int) : State :=
  let old := s.obj 0xA000 2
  if old = new then s else
  let s := if old = 2 then s.mapProg fun p => { p with safeDue := true } else s
  raiseProg (s.setObj 0xA000 2 new) 0x0C01 [d8 old, d8 new, d32 cause]

/-- Runs in progress are abandoned and their outputs discarded. -/
def abandonRuns (s : State) : State := s.mapProg fun p => { p with tasks := [] }

/-- Changes and force requests that waited for a release that does not come are applied (R348). -/
def flushWaiting (s : State) : State :=
  let cs := s.prog.changes
  let fs := s.prog.forceReqs
  let s := setChanges (s.mapProg fun p => { p with forceReqs := [] }) []
  fs.foldl (fun s r => meetForce s r r.tasks) (cs.foldl (fun s c => if c.applied then s else applyChange s c) s)

/-- The profile admits runs (R336). -/
def profileRuns (s : State) : Bool := !([3, 4].contains s.profile)

/-- The tasks begin: every first run is marked (R335); held by the profile, the object outputs are to take their safe values
(R336, R342). -/
def startTasks (s : State) (cause : Int) : State :=
  let s := s.mapProg fun p => { p with tasks := (List.range 6).map (fun k => (k, ({ first := true } : Task)))
                                       safeDue := p.safeDue || !profileRuns s }
  setProgState s (if profileRuns s then 2 else 3) cause

/-- A warm or a cold start (R335). -/
def startProgram (s : State) (cold : Bool) (cause : Int) : State :=
  match s.prog.image with
  | none => s
  | some im =>
    let s := abandonRuns s
    let s := s.mapProg fun p => { p with data := im.initData }
    let s := if cold then putRegion s 2 0 im.initRetained else s
    startTasks s cause

/-- Whether a start is refused (R335). -/
def startRefused (s : State) : Bool := decide (s.prog.image = none) || decide (s.obj 0xA000 2 = 4)

/-- A write of 1 to 0xA000:1 (R335). -/
def execWarmStart (s : State) : Out :=
  onHost s fun s => hostWrite s 0xA000 1 (if startRefused s then errState else errOk) fun s => startProgram s false 1

/-- A write of 2 to 0xA000:1 (R335). -/
def execColdStart (s : State) : Out :=
  onHost s fun s => hostWrite s 0xA000 1 (if startRefused s then errState else errOk) fun s => startProgram s true 1

/-- A write of 3 to 0xA000:1 (R335). -/
def execProgramStop (s : State) : Out :=
  onHost s fun s => hostWrite s 0xA000 1 errOk fun s =>
    if s.prog.image = none then s else setProgState (flushWaiting (abandonRuns s)) 1 1

/-- In Park, from its boundary on, a running program is held, as it is in Guarded from the instant of its entry; on leaving them its
tasks resume warm at the boundary (R336). -/
def heldBoundary (s : State) : State :=
  if s.obj 0xA000 2 = 2 ∧ profileRuns s = false then holdProgram s
  else if s.obj 0xA000 2 = 3 ∧ profileRuns s then startTasks s 2
  else s

/-! ### Runs (R334, R337, R340, R350, R352) -/

/-- A run of a task begins on a copy of the input image; a task still running skips the release, which for the fast task counts as
an overrun of window 1 again (R38). -/
def releaseTask (s : State) (k : Nat) : State :=
  if progRuns s = false then s else
  let x := s.task k
  if x.running then
    (if k = 5 then s else
      let s := s.bump 0xA022 (k + 1)
      if k = 0 then overrun s 1 0 else s)
  else
  let s := forceVars (taskBoundary s k) k
  let img := forceCopy s k 3 s.prog.input
  let ns := s.prog.durNs + elapsedNs s.clk s.prog.durC s.clk.c
  let s := s.mapProg fun p => { p with durNs := ns, durC := s.clk.c }
  let st := getLe img 14 2
  let img := if x.first then putBytes img 14 (leBytes 2 ((st ||| 16 : Nat) : Int)) else img
  s.setTask k { x with running := true, releaseC := s.clk.c, releaseNs := ns, image := img, imageFrame := getLe img 0 4
                       consts := forceCopy s k 0 s.prog.consts, first := false, long := false }

/-- Step 7: AC0 releases the fast task; retained pages mirrored are installed first (R334, R310). -/
def execFastTaskRelease (s : State) : Out :=
  onHost s fun s =>
    if s.runs = false then s else
    let s := pagesMirror s
    match s.prog.image with
    | some im => if im.fastEntry = 0xFFFFFFFF then s else releaseTask s 0
    | none => s

/-- AC1 releases slow task k in the frames its period and phase name (R37, R334). -/
def execSlowTaskRelease (task : Fin 4) (s : State) : Out :=
  onHost s fun s =>
    if s.runs = false then s else
    match s.prog.image with
    | some im =>
      match im.slow[task.val]? with
      | some (_, n, ph) => if s.frameNo % n = ph then releaseTask s (task.val + 1) else s
      | none => s
    | none => s

/-- The background task starts a pass when the one before has ended (R334). -/
def execBackgroundPassStart (s : State) : Out :=
  onHost s fun s =>
    if s.runs = false then s else
    match s.prog.image with
    | some im => if im.backEntry = 0xFFFFFFFF then s else releaseTask s 5
    | none => s

/-- AC0's budget for the fast task, % of T_F (R28). -/
def fastBudget (s : State) : Int := if s.profile = 1 then 50 else if s.profile = 2 then 60 else 70

/-- The length of the window of a task, ns: 1 the fast task's budget, 2 a slow task's period (R38). -/
def taskWindow (s : State) (k : Nat) : Int :=
  if k = 0 then s.tf * fastBudget s / 100
  else match s.prog.image with
    | some im => match im.slow[k - 1]? with
      | some (_, n, _) => s.tf * n
      | none => 0
    | none => 0

/-- The use a run of the fast or of a slow task made of its window (0x2112). -/
def noteTaskUse (s : State) (k : Nat) (ns : Int) : State :=
  let u := ns * 1000 / taskWindow s k
  if k = 5 then s else noteUse s (if k = 0 then 1 else 2) (if u < 65536 then u else (Config.countBeyond u.toNat : Nat))

/-- Run time in 0.1 µs, its high-water, and the objects of the fast task and of the background pass. -/
def noteRun (s : State) (k : Nat) (ns : Int) : State :=
  let t := ns / 100
  let cut (top : Int) (v : Int) : Int := if v < top then v else (Config.countBeyond v.toNat : Nat)
  let s := if s.obj 0xA021 (k + 1) < t then s.setObj 0xA021 (k + 1) (cut 4294967296 t) else s
  if k = 0 then s.setObj 0xA020 1 (cut 65536 t) else if k = 5 then s.setObj 0xA020 3 (cut 4294967296 (ns / 1000)) else s

/-- The period by which AC1 ranks its tasks: a slow task's own, and a background pass behind them all (R334). -/
def taskPeriod (s : State) (k : Nat) : Nat :=
  match s.prog.image with
  | some im => match im.slow[k - 1]? with
    | some (_, n, _) => if k = 5 then 65536 else n
    | none => 65536
  | none => 65536

/-- Task j keeps AC1 from task k (R334): it runs and has the shorter period; of two with equal period the one released first, and the
lower number of two released in one frame. -/
def keepsFrom (s : State) (j k : Nat) : Bool :=
  let a := s.task j
  let b := s.task k
  decide (j ≠ k) && a.running && (decide (taskPeriod s j < taskPeriod s k) || (decide (taskPeriod s j = taskPeriod s k)
    && (if a.imageFrame = b.imageFrame then decide (j < k) else decide (a.releaseC < b.releaseC))))

/-- A run of task k is in progress and its engine executes it: AC0 always, AC1 while no task keeps it from it (R334). -/
def executes (s : State) (k : Nat) : Bool :=
  (s.task k).running && (k == 0 || [1, 2, 3, 4, 5].all (fun j => !(keepsFrom s j k)))

/-- The memory protection grants a write: within the data region, the retained region or the output image (R337). -/
def granted (s : State) (w : RegionWrite) : Bool :=
  let room : Nat := match s.prog.image with
    | some im => (match w.region with | 1 => im.initData.length | 2 => im.initRetained.length | 4 => outLen | _ => 0)
    | none => 0
  decide (w.off + w.bytes.length ≤ room)

/-- A task faults: every task stops (R337). -/
def trapTask (s : State) (k : Nat) (cause pc : Int) : State :=
  let s := raiseProg s 0x0C04 [d32 k, d32 cause, d32 pc]
  setProgState (flushWaiting (abandonRuns s)) 4 3

/-- A run ends: what its code wrote to its data stands, forced variables are written again, and its outputs go to lane 39 or 40
for the next seal (R334, R340, R350). A write the memory protection does not grant is an access fault: what the code wrote before it
stands, the cause is RISC-V's number of a store access fault and the program counter a free value (R337; PRESUMED 161). A run that
AC1 does not execute does not end. -/
def execTaskRunEnd (task : Fin 6) (writes : List RegionWrite) (s : State) : Out :=
  onHost s fun s =>
    let k := task.val
    let x := s.task k
    if executes s k = false then s else
    let ok := writes.takeWhile (granted s)
    let s := ok.foldl (fun s w => if w.region = 1 ∨ w.region = 2 then putRegion s w.region w.off w.bytes else s) s
    if ok.length < writes.length then
      let (t, s) := s.draw
      trapTask s k 7 (Config.freeBits t % 4294967296 : Nat)
    else
    let s := forceVars s k
    let outs := writes.filterMap (fun w => if w.region = 4 then some (w.off, w.bytes) else none)
    let s := s.setTask k { s.task k with running := false, out := some (x.out.getD [] ++ outs) }
    let s := lanePush s (if k = 0 then 39 else 40) (.nums [(k : Int), (x.imageFrame : Int)])
    let ns := elapsedNs s.clk x.releaseC s.clk.c
    noteTaskUse (noteRun s k ns) k ns

/-- A background pass outlasts its limit: recorded once (R334). -/
def execBackgroundLong (s : State) : Out :=
  onHost s fun s =>
    let x := s.task 5
    let ns := elapsedNs s.clk x.releaseC s.clk.c
    if x.running ∧ x.long = false ∧ s.obj 0xA020 2 * 1000000000 < ns then
      raiseProg (s.setTask 5 { x with long := true }) 0x0C0E [d32 (ns / 1000)]
    else s

/-- The task that executes faults (R337). -/
def execProgramTrap (task : Fin 6) (cause pc : BitVec 32) (s : State) : Out :=
  onHost s fun s => if executes s task then trapTask s task cause.toNat pc.toNat else s

/-! ### The system library (R337) -/

/-- An environment call returns to the task that executes and has made it. -/
def envReturn (s : State) (k status : Nat) (v : Int) : State :=
  if executes s k then s.setTask k { s.task k with ret := (status, v) } else s

/-- Module time. -/
def execEnvCallModuleTime (task : Fin 6) (s : State) : Out := onHost s fun s => envReturn s task 0 (time80 s.now)

/-- The release time of the run: the counter time of its release, summed over the intervals between releases at the rate of each, so
that neither a time step nor a change of the rate shifts a difference of two of them (R352, R44). -/
def execEnvCallReleaseTime (task : Fin 6) (s : State) : Out :=
  onHost s fun s => envReturn s task 0 (s.task task).releaseNs

/-- The frame number. -/
def execEnvCallFrameNumber (task : Fin 6) (s : State) : Out := onHost s fun s => envReturn s task 0 s.frameNo

/-- A user event: a code or a severity outside its range writes nothing and returns a status that is not zero (R337). -/
def execEnvCallUserEvent (task : Fin 6) (code severity : BitVec 32) (data : List Byte) (s : State) : Out :=
  onHost s fun s =>
    if executes s task = false then s
    else if userCode code.toNat ∧ severity.toNat ≤ 3 then
      let p := mkEvent s code.toNat (if task = 0 then 0 else 1) severity.toNat [padTo 16 data]
      envReturn (pushEvent s p) task 0 0
    else
      let (t, s) := s.draw
      envReturn s task (Config.freeBits t + 1) 0

/-! ### The seal and the release (R334, R340, R342, R350) -/

/-- Offset of a CAN station's outputs and of its inputs, by its place in the station table. -/
def stationOut (k : Nat) : Nat := 264 + 64 * k

/-- The safe values of every output, over the output vector (R335, R342). -/
def safeVector (im : ProgImage) (v : List Byte) : List Byte :=
  let v := putBytes v 4 [BitVec.ofNat 8 (im.mfSafe &&& im.mfMask)]
  let v := (List.range im.outputs.length).foldl (fun v k =>
    match im.outputs[k]? with
    | some o => putBytes v (8 + 8 * k) (padTo 8 (encodeVal (typeOfCode o.ty) o.safe))
    | none => v) v
  im.stations.foldl (fun v x => putBytes v (stationOut (x.num - 48)) (padTo 64 (sliceAt im.consts x.safeOff x.txLen))) v

/-- What task k gives the output vector: the positions another task owns keep what their owner gave them (R328, R334). -/
def mergeOut (im : ProgImage) (k : Nat) (v : List Byte) (w : Nat × List Byte) : List Byte :=
  let foreign (o : Nat) : Bool := im.symbols.any (fun y => y.region == 4 && y.owner != k && meet y.off (y.size * y.count) o 1)
  putBytes v w.1 ((List.range w.2.length).map (fun i => if foreign (w.1 + i) then v.getD (w.1 + i) 0#8 else w.2.getD i 0#8))

/-- The program's part of the output vector: runs that have ended, forced outputs, or the safe values (R334, R350). The fast task's
wait for the next seal while window 1 is overrun (R38). -/
def sealProgram (s : State) : State :=
  match s.prog.image with
  | none => s
  | some im =>
    let s := (laneDrain (laneDrain s 39).2 40).2
    let s := s.mapProg fun p => { p with outVec := padTo outLen p.outVec, sealedRet := p.retained }
    if progRuns s then
      let s := [0, 1, 2, 3, 4, 5].foldl (fun s k =>
        if k = 0 ∧ windowLate s 1 then s else
        match (s.task k).out with
        | some l =>
          let s := s.mapProg fun p => { p with outVec := l.foldl (mergeOut im k) p.outVec }
          let s := putRegion s 4 0 (leBytes 4 ((s.task k).imageFrame : Int))
          s.setTask k { s.task k with out := none }
        | none => s) s
      forceOuts s
    else s.mapProg fun p => { p with outVec := safeVector im p.outVec }

/-- An MF pin the program drives: its level at the release (R340). -/
def mfOutput (s : State) (p : Nat) : Option Bool :=
  match s.prog.image with
  | some im => if im.mfMask.testBit p ∧ s.obj 0x2030 (p + 1) = 1 then some ((getLe s.prog.outVec 4 1).testBit p) else none
  | none => none

/-- The values the object outputs take at a release: the program's while it runs (R340). -/
def objectOutputs (s : State) : List (ObjOut × Int) :=
  match s.prog.image with
  | some im =>
    if progRuns s then
      (List.range im.outputs.length).filterMap (fun k => (im.outputs[k]?).map (fun o =>
        let t := typeOfCode o.ty
        (o, decodeVal t (sliceAt s.prog.outVec (8 + 8 * k) (typeSize t)))))
    else []
  | none => []

/-- The safe values the object outputs take once, at the next seal after the program has left RUNNING (R335, R342). -/
def safeOutputs (s : State) : List (ObjOut × Int) :=
  match s.prog.image with
  | some im => if s.prog.safeDue ∧ progRuns s = false then im.outputs.map (fun o => (o, o.safe)) else []
  | none => []

/-! ### Retained data (R346, R347) -/

/-- Every second of counter time (R346). -/
def execRetainedCheckpoint (complete : Bool) (s : State) : Out := onHost s fun s => checkpointRetained s complete

/-- A retained symbol of another layout with the same key, element count and element size. -/
def sameSymbol (old : List Symbol) (y : Symbol) : Option Symbol :=
  old.find? (fun x => x.flags.testBit 0 && x.region == 2 && x.name == y.name && x.ty == y.ty && x.count == y.count && x.size == y.size)

/-- A retained region under a new layout: matched symbols keep their values; the numbers kept and initialised (R347). -/
def matchRetained (old : List Symbol) (region : List Byte) (im : ProgImage) : List Byte × Nat × Nat :=
  (im.symbols.filter (fun y => y.flags.testBit 0 && y.region == 2)).foldl (fun acc y =>
    match sameSymbol old y with
    | some x => (putBytes acc.1 y.off (sliceAt region x.off (x.size * x.count)), acc.2.1 + 1, acc.2.2)
    | none => (acc.1, acc.2.1, acc.2.2 + 1)) (im.initRetained, 0, 0)

/-- The retained region is taken from a source with its layout (R347). Sources: 1 partner, 2 MRAM, 3 initial values, 4 the
program replaced. -/
def restoreRetained (s : State) (im : ProgImage) (src layout : Nat) (old : List Symbol) (region : List Byte) : State :=
  let n := im.initRetained.length
  let all := (im.symbols.filter (fun y => y.flags.testBit 0 && y.region == 2)).length
  let (r, kept, init) := if src = 3 then (im.initRetained, 0, all)
    else if layout = im.retCrc then (padTo n region, all, 0)
    else matchRetained old region im
  let s := s.mapProg fun p => { p with retained := r, sealedRet := r, dirty := List.range (n / 128) }
  raiseProg s 0x0C0D [d32 src, d32 kept, d32 init]

/-! ### Activation (R331 to R333, R351) -/

/-- The MF pins the image drives that the assignment does not give to plain output: pin and its function (R330). -/
def mfConflicts (s : State) (im : ProgImage) : List (Nat × Int) :=
  ((List.range 8).filter (fun p => im.mfMask.testBit p && decide (s.obj 0x2030 (p + 1) ≠ 1))).map (fun p => (p, s.obj 0x2030 (p + 1)))

/-- An activation is refused whole as a conflicting commit is (R330, R374): an event for each pin, CONFIG_REFUSED with their number,
and the first in 0x2020:5 and :6. -/
def refuseActivation (s : State) (l : List (Nat × Int)) : State :=
  let key (p : Nat) : Int := (objKey 0x2030 (p + 1) : Nat)
  let s := l.foldl (fun s p => raise s 0x0D08 3 [d32 p.1, d32 p.2, d32 1]) s
  match l with
  | (p, _) :: _ => raise (s.setObjs 0x2020 [(5, 0x0D08), (6, key p)]) 0x0D07 3 [d32 l.length, d32 (key p), d16 0x0D08]
  | [] => s

/-- The objects that describe the active image. -/
def imageObjs (s : State) (im : ProgImage) : State :=
  (s.setObjs 0xA001 [(1, im.version), (2, im.imgCrc), (3, im.ifCrc), (4, im.retCrc), (5, im.buildTime)]).setDom 0xA001 6 im.table

/-- Forces are matched by symbol key under a new image, each at its own element; one whose key, or whose element, is absent from the
new table is dropped (R351); its name is handed over whole, which R410 leaves out with TRUNC. `old` is the table before. -/
def matchForces (s : State) (old : List Symbol) (im : ProgImage) : State :=
  let l := s.prog.forces
  let elem (f : Force) : Nat :=
    match old.find? (fun y => y.index == f.index && decide (y.sub ≤ f.sub) && decide (f.sub < y.sub + y.count)) with
    | some y => f.sub - y.sub
    | none => 0
  let hit (f : Force) : Option Symbol :=
    im.symbols.find? (fun (y : Symbol) => y.name == f.name && y.ty == f.ty && Nat.blt (elem f) y.count)
  let kept := l.filterMap (fun f => (hit f).map (fun y =>
    { f with index := y.index, sub := y.sub + elem f, views := (ownerTasks s y).map (fun k => (k, f.value)), under := none }))
  let s := setForces s kept
  (l.filter (fun f => (hit f).isNone)).foldl (fun s f =>
    raiseProg s 0x0C09 [padTo 32 f.name, d32 (objKey f.index f.sub : Nat)]) s

/-- The activated image is stored in the program area that does not hold the newer one, unless the die inhibits it, when
programming reads as paused (R255, R256, R333). R333 gives the storing no length: it is complete at the next boundary, and a reset
before that finds the images stored before (DESIGN CHOICE 162). -/
def storeImage (s : State) : State :=
  match s.prog.image with
  | some im =>
    if s.prog.storeDue = false then s else
    if s.objB 0x6040 2 then s.setB 0x6040 4 true else
    let newest := s.prog.stored.foldl (fun (m : Option (Nat × ProgImage)) c => match m with
      | some d => if d.1 ≤ c.1 then some c else some d
      | none => some c) none
    let seq := match newest with | some d => d.1 + 1 | none => 1
    s.mapProg fun p => { p with stored := newest.toList ++ [(seq, im)], storeDue := false }
  | none => s

/-- The checked image becomes the active one (R332). -/
def activateImage (s : State) (im : ProgImage) : State :=
  let old := s.prog.image
  let oldRet := s.prog.retained
  let s := abandonRuns (setChanges (s.mapProg fun p => { p with forceReqs := [] }) [])
  let s := s.mapProg fun p => { p with image := some im, consts := im.consts, data := im.initData, staged := [], checked := none,
                                       stations := [], latch := [], latchOld := [], storeDue := true }
  let s := matchForces (imageObjs (s.setObj 0xA011 1 0) im) (match old with | some o => o.symbols | none => []) im
  let s := raiseProg s 0x0C03 [d32 im.version, d32 im.imgCrc]
  let s := match old with
    | some o => restoreRetained s im 4 o.retCrc o.symbols oldRet
    | none => restoreRetained s im 3 0 [] []
  startTasks s 4

/-- A write of 1 to 0xA011:3 (R331, R332): STATE outside state 5; a conflict with the MF assignment refuses it whole (R330). -/
def execImageActivate (s : State) : Out :=
  onHost s fun s =>
    match s.prog.checked with
    | none => settle s 0xA011 3 errState
    | some im =>
      if s.obj 0xA011 1 ≠ 5 then settle s 0xA011 3 errState
      else match mfConflicts s im with
      | [] => hostWrite s 0xA011 3 errOk fun s => activateImage s im
      | l => settle (refuseActivation s l) 0xA011 3 errConfig

end Sys2Proof.Machine
end

