-- ==== Sys2Proof/Machine/Avenue.lean ====
section
/-!
DEFINITION. Avenue's loops (R190 to R206, R210 to R213): rates and banks, commits, evaluation, the oscillation detector.
Marks (notes/assumptions): DEDUCED 32, 48, 49, 50, 54, 158, 169, 170; DESIGN CHOICE 140.
-/
namespace Sys2Proof.Machine

/-! ### Rates and banks (R193, R194) -/

/-- The rate a loop is asked to run at, 0 in Park. -/
def wantedRate (s : State) (l : Nat) : Nat :=
  if s.profile = 3 then 0
  else if s.profile = 4 then 1
  else if s.obj (loopIx l) 2 ≠ 0 then s.objN (loopIx l) 2
  else if s.profile = 0 then 2
  else if s.profile = 1 then 8
  else if s.profile = 2 then 4
  else s.objN 0x5000 1

/-- The rate a loop runs at: the highest one that is no higher than the wanted one and has a bank; 0 none. -/
def bankRate (s : State) (l : Nat) : Nat :=
  (([8, 4, 2, 1] : List Nat).find? (fun m =>
    decide (m ≤ wantedRate s l) && decide (s.objN (loopIx l) (bankSub m) % 256 ≠ 0))).getD 0

/-- The safe output of a loop as a fraction; that of the owner of the converter set-point stays within the effective limits
(R205, R278). -/
def safeFrac (s : State) (l : Nat) : Int :=
  let v := s.objF (loopIx l) 14
  (toLoopFrac (if ownerLoop s = some l then clampR (-(effLimit s false)) (effLimit s true) v else v) (uScale s l)).1

/-- Stores the last output with its object. -/
def putOutput (s : State) (l : Nat) (y : Int) : State :=
  (s.setLoop l { s.loop l with y := y }).setF (loopIx l) 24 (fromFrac y (uScale s l))

/-- The bank of a loop at the first slot of a frame. In Park the output is the safe output (R193), while the converter is commanded zero
(DEDUCED 169). -/
def rebank (s : State) (l : Nat) : State :=
  let x := s.loop l
  let lim := loopLimits s l
  let s := if loopOn s l then (s.setF (loopIx l) 25 lim.2).setF (loopIx l) 26 lim.1 else s
  if loopOn s l = false then
    (s.setLoop l { x with rate := 0, bank := 0 }).setObjs (loopIx l) [(20, 0), (27, 0)]
  else
    let m := bankRate s l
    let w := if m = 0 then 0 else s.objN (loopIx l) (bankSub m)
    if m = 0 then
      let s := s.setLoop l { x with rate := 0, bank := 0 }
      (putOutput s l (safeFrac s l)).setObjs (loopIx l) [(20, if s.profile = 3 then 3 else 4), (27, 0)]
    else if m = x.rate ∧ w = x.bank then s
    else
      let s := s.setLoop l { x with rate := m, bank := w, track := true }
      onset (s.setObj (loopIx l) 27 m) 0x0707 [d32 l, d32 x.rate, d32 m]

/-- What Avenue takes at the first slot of a frame: the configured limits, the effective limits and the banks. -/
def avenueFrame (s : State) : State :=
  if s.av.bankFrame = some s.frameNo then s else
  let s := avenueMirror { s with av := { s.av with bankFrame := some s.frameNo, bankProf := s.profile } }
  let s := imposeLimits s s.av.imposed
  let s := (s.setF 0x5600 8 (effLimit s true)).setF 0x5600 9 (effLimit s false)
  let s := (List.range 16).foldl rebank s
  s.setObj 0x5000 5 (((List.range 16).map (fun l => (bankSections (s.loop l).bank).length)).sum : Nat)

/-- Output tracking: the states of the bank are zeroed, s1 of its last section takes the last output in that section's
scale (R194). -/
def trackLoop (s : State) (l : Nat) : State :=
  let x := s.loop l
  let qs := bankSections x.bank
  let s := qs.foldl (fun s q => s.setObjs (0x5200 + q) [(11, 0), (12, 0)]) s
  let s := s.setLoop l { x with track := false }
  match qs.getLast? with
  | some q => s.setObj (0x5200 + q) 11 (mantWord (sat24 (requant x.y (secExp (activeWords s q)))).1 : Nat)
  | none => s

/-! ### Commits (R199, R213) -/

/-- A coefficient commit at the loop's sample: words 0 to 4 of every section of every bank, and those of the band-pass section,
from shadow to active at once. -/
def commitLoop (s : State) (l kind : Nat) : State :=
  let qs := (banksOf s l).flatMap bankSections
  let s := qs.foldl (fun s q =>
    s.setObjs (0x5200 + q) (([6, 7, 8, 9, 10].zip (shadowWords s (0x5200 + q))).map (fun p => (p.1, (p.2 : Int))))) s
  let x := s.loop l
  let s := s.setLoop l { x with commit := 0, det := { x.det with words := shadowWords s (0x5490 + l) } }
  let s := onset (s.setObj (0x5480 + l) 12 0) 0x0706 [d32 l, d32 kind]
  if kind = 2 then trackLoop s l else s

/-- A commit that the halve-gain action does not admit: section 0 of the 1× bank or of the bank in force would be
recursive (R199). -/
def commitRefused (s : State) (l : Nat) : Bool :=
  decide (s.obj (0x5480 + l) 6 = 1) && [s.objN (loopIx l) 3, (s.loop l).bank].any (fun w =>
    match (bankSections w).head? with
    | some q => recursive (shadowWords s (0x5200 + q))
    | none => false)

/-- A write of 0x5100+L:18: the loop's next sample applies it; a detector's hold defers it (R199, R213). -/
def coeffCommit (s : State) (l kind : Nat) : State :=
  if commitRefused s l then settle (onset s 0x0716 [d32 l, d32 8]) (loopIx l) 18 errConfig
  else hostWrite s (loopIx l) 18 errOk fun s =>
    let x := s.loop l
    if x.det.hold = 0 then s.setLoop l { x with commit := kind }
    else
      let s := s.setLoop l { x with held := kind, conflict := true }
      if x.conflict then s else onset s 0x0704 [d32 l, d32 x.det.hold]

/-- A write of 1 to 0x5100+L:18 (R199). -/
def execCoeffCommitKeep (loop : Fin 16) (s : State) : Out := onHost s fun s => coeffCommit s loop 1

/-- A write of 2 to 0x5100+L:18 (R199). -/
def execCoeffCommitTrack (loop : Fin 16) (s : State) : Out := onHost s fun s => coeffCommit s loop 2

/-- The bits written 1 of a flag object are cleared (R198). -/
def clearFlags (s : State) (i sub v : Nat) : State := s.setObj i sub (clearBits (s.obj i sub) v)

/-- A write of the loop flags: a bit written 1 is cleared (R198). -/
def execLoopFlagsWrite (loop : Fin 16) (v : BitVec 16) (s : State) : Out :=
  onHost s fun s => hostWrite s (loopIx loop) 19 errOk fun s => clearFlags s (loopIx loop) 19 v.toNat

/-- A write of the section flags: a bit written 1 is cleared (R198). -/
def execSectionFlagsWrite (section_ : Fin 96) (v : BitVec 8) (s : State) : Out :=
  onHost s fun s => hostWrite s (0x5200 + section_) 13 errOk fun s => clearFlags s (0x5200 + section_) 13 v.toNat

/-! ### Evaluation -/

/-- Sets section flags: the loop's SECTSAT follows, an onset is recorded (R198). -/
def setSecFlags (s : State) (l q bits : Nat) : State :=
  if bits = 0 then s else
  let old := s.objN (0x5200 + q) 13
  let new := old ||| bits
  let s := setLoopFlag (s.setObj (0x5200 + q) 13 (new : Nat)) l flSect
  if new = old then s else onset s 0x0701 [d32 l, d32 q, d8 (new : Nat)]

/-- The sections of the bank in force in order (R190, R196); where `states` is false no state is written (R206). -/
def runSections (l : Nat) (states : Bool) : List Nat → State → Int → Int × State
  | [], s, x => (x, s)
  | q :: r, s, x =>
    let i := 0x5200 + q
    let o := sectionRun (activeWords s q) (mantObj s i 11) (mantObj s i 12) x
    let s := if states then s.setObjs i [(11, (mantWord o.s1 : Nat)), (12, (mantWord o.s2 : Nat))] else s
    let s := setSecFlags (s.setObj i 14 (mantWord o.y : Nat)) l q (secFlags o states)
    runSections l states r s o.y

/-- Clamps an output to the effective limits: value and side, 1 upper, 2 lower, 0 none (R190, R205). -/
def clampOutput (s : State) (l : Nat) (y : Int) : Int × Nat :=
  let lim := loopLimits s l
  let hi := (toLoopFrac lim.2 (uScale s l)).1
  let lo := (toLoopFrac lim.1 (uScale s l)).1
  if hi < y then (hi, 1) else if y < lo then (lo, 2) else (y, 0)

/-- The flags and the event of a clamp, and of a clipped injection (R198, R216). -/
def noteClamp (s : State) (l : Nat) (raw : Int) (side : Nat) (injected : Bool) : State :=
  if side = 0 then s else
  let b := if side = 1 then flHi else flLo
  let lim := loopLimits s l
  let first := !bitOf (s.obj (loopIx l) 19) b
  let s := setLoopFlag s l b
  let s := if first then
      onset s 0x0702 [d32 l, d32 side, dF (fromFrac raw (uScale s l)), dF (if side = 1 then lim.2 else lim.1)]
    else s
  if injected then
    let s := setLoopFlag s l flInj
    if s.av.inj.clipped then s
    else onset { s with av := { s.av with inj := { s.av.inj with clipped := true } } } 0x070C [d32 l, d32 side]
  else s

/-- A loop that holds its last output: the effective limits still clamp the held value, with the flags and the event of a clamp
(R198, R203, R212). -/
def holdOutput (s : State) (l : Nat) (state : Int) : State :=
  let y := (s.loop l).y
  let (v, side) := clampOutput s l y
  let s := noteClamp s l y side false
  (putOutput (s.setLoop l { s.loop l with clamp := side, injected := false }) l v).setObj (loopIx l) 20 state

/-- The action a detector has taken, at the loop's next sample (R212): a halving at e = −32 or beyond its count freezes. -/
def takeAction (s : State) (l : Nat) : State :=
  let x := s.loop l
  let d := x.det
  if d.next ≠ 1 then s.setLoop l { x with det := { d with next := 0 } } else
  match (bankSections x.bank).head? with
  | some q =>
    let w := s.objN (0x5200 + q) 6
    let e := bfpExp w
    let n := s.obj (0x5480 + l) 12
    let s := s.setLoop l { x with det := { d with next := 0 } }
    if -32 < e ∧ n < s.obj (0x5480 + l) 7 then
      (s.setObj (0x5200 + q) 6 (bfpWord (bfpMant w) (e - 1) : Nat)).setObj (0x5480 + l) 12 (n + 1)
    else (s.setLoop l { x with det := { d with next := 0, hold := 2 } }).setObj (0x5480 + l) 8 2
  | none => s.setLoop l { x with det := { d with next := 0 } }

/-- The windows of the last W frames of a detector, with the frame in course at the head. -/
def detWindow (s : State) (l : Nat) : List (Nat × Nat × Rat × Nat) :=
  let n := s.frameNo
  let w := (s.loop l).det.win.filter (fun p => decide (((n : Int) - (p.1 : Int)) % 4294967296 < s.obj (0x5480 + l) 3))
  match w with
  | p :: _ => if p.1 = n then w else (n, 0, 0, 0) :: w
  | [] => [(n, 0, 0, 0)]

/-- The detector fires: OSC, the event, its window cleared, its action taken at the next sample (R212, R216, R218). -/
def detFire (s : State) (l : Nat) (signs : Nat) (energy : Rat) : State :=
  let act := s.objN (0x5480 + l) 6
  let x := s.loop l
  let hold := if act = 0 then x.det.hold else act
  let s := s.setLoop l { x with det := { x.det with win := [], hold := hold, next := act } }
  let s := s.setObj (0x5480 + l) 8 (if hold = 0 then 0 else if hold = 1 then 1 else 2)
  let s := onset (setLoopFlag s l flOsc) 0x0703 [d32 l, d16 signs, dF energy, d8 act]
  let s := triggerCapture s 3
  if act ≠ 0 ∧ injRuns s ∧ injTarget s = l then injEnd s 4 6 else s

/-- The detector at a sample with the error `e` (R210 to R212). -/
def detect (s : State) (l : Nat) (e : Int) : State :=
  let d := (s.loop l).det
  if s.obj (0x5480 + l) 1 = 0 ∨ 2 ≤ d.hold then s else
  let k := yScale s l
  let o := sectionRun d.words d.s1 d.s2 e
  let s := if o.ySat ∨ o.s1Sat ∨ o.s2Sat then setLoopFlag s l flDet else s
  let v := fromFrac e k
  let sign : Int := if v < 0 then -1 else 1
  let beyond := decide (s.objF (0x5480 + l) 2 < absR v)
  let change := beyond && decide (d.last ≠ 0) && decide (sign ≠ d.last)
  let b := fromFrac o.y k
  let win := match detWindow s l with
    | (n, c, q, m) :: r => (n, (if change then c + 1 else c), q + b * b, m + 1) :: r
    | [] => []
  let x := s.loop l
  let s := s.setLoop l { x with det := { x.det with last := (if beyond then sign else d.last), win := win, s1 := o.s1,
                                                    s2 := o.s2, bp := o.y } }
  let signs := (win.map (fun p => p.2.1)).sum
  let samples := (win.map (fun p => p.2.2.2)).sum
  let energy := if samples = 0 then 0 else (win.map (fun p => p.2.2.1)).sum / (samples : Rat)
  let s := (s.setObj (0x5480 + l) 9 (signs : Nat)).setF (0x5480 + l) 10 energy
  let c1 := decide (s.obj (0x5480 + l) 4 ≤ (signs : Int))
  let c2 := decide (s.objF (0x5480 + l) 5 ≤ energy)
  let fire := match s.objN (0x5480 + l) 1 with
    | 1 => c1
    | 2 => c2
    | 3 => c1 || c2
    | _ => c1 && c2
  if fire then detFire s l signs energy else s

/-- A source turns invalid: FALLBACK and its event (R203). -/
def noteFallback (s : State) (l code which : Nat) (first : Bool) : State :=
  if first then onset (setLoopFlag s l flFallback) 0x0708 [d32 l, d16 code, d32 which] else s

/-- Steps 3 to 7 of R190 with the set-point r and the feedback f. -/
def runLoop (s : State) (l j : Nat) (r f : Int) (state : Int) : State :=
  let x := s.loop l
  let e := sat24 (r - f)
  let s := if e.2 then setLoopFlag s l flErr else s
  let states := !(bitOf (s.obj (loopIx l) 17) 0
    && ((x.clamp == 1 && decide (0 < e.1)) || (x.clamp == 2 && decide (e.1 < 0))))
  let (raw, s) := runSections l states (bankSections x.bank) s e.1
  let (inj, s) := if s.obj 0x5400 4 = 1 then injSample s l j else (none, s)
  let raw := (sat24 (raw + inj.getD 0)).1
  let (y, side) := clampOutput s l raw
  let s := noteClamp s l raw side inj.isSome
  let x := s.loop l
  let s := s.setLoop l { x with r := r, f := f, x := e.1, clamp := side, injected := x.injected || inj.isSome }
  let k := yScale s l
  let s := ((s.setF (loopIx l) 21 (fromFrac r k)).setF (loopIx l) 22 (fromFrac f k)).setF (loopIx l) 23 (fromFrac e.1 k)
  detect ((putOutput s l y).setObj (loopIx l) 20 state) l e.1

/-- Set-point and feedback of a sample, and the injection that is added to whichever set-point the loop takes; SCALE where a rescale saturates (R190, R198). -/
def loopInputs (s : State) (l j : Nat) : SrcVal × SrcVal × Int × State :=
  let r := sourceValue s l (setpointCode s l)
  let f := sourceValue s l (s.objN (loopIx l) 8)
  let s := match (bankSections (s.loop l).bank).head? with
    | some q => if r.sat ∨ f.sat then setSecFlags s l q 8 else s
    | none => s
  let (inj, s) := if s.obj 0x5400 4 = 0 then injSample s l j else (none, s)
  let s := s.setLoop l { s.loop l with injected := inj.isSome }
  (r, f, inj.getD 0, s)

/-- A loop at its sample (R190, R194, R199, R203, R212). -/
def evalLoop (j : Nat) (s : State) (l : Nat) : State :=
  let s := takeAction s l
  let s := if (s.loop l).commit ≠ 0 ∧ (s.loop l).det.hold = 0 then commitLoop s l (s.loop l).commit else s
  let s := if (s.loop l).track then trackLoop s l else s
  if (s.loop l).det.hold = 2 then
    holdOutput s l 2
  else if (s.loop l).det.hold = 3 then (putOutput s l (safeFrac s l)).setObj (loopIx l) 20 3
  else
    let (r, f, inj, s) := loopInputs s l j
    let with_ (v : Int) : Int := (sat24 (v + inj)).1
    let x := s.loop l
    let rc := setpointCode s l
    let fc := s.objN (loopIx l) 8
    let bad : Nat × Nat := (if r.ok then 0 else x.bad.1 + 1, if f.ok then 0 else x.bad.2 + 1)
    let fall : Bool × Bool := (x.fall.1 && !r.ok, x.fall.2 && !f.ok)
    let back := (decide (x.bad.1 ≠ 0) && r.ok) || (decide (x.bad.2 ≠ 0) && f.ok)
    let s := s.setLoop l { x with bad := bad, fall := fall }
    let s := noteFallback s l rc 0 (bad.1 == 1)
    let s := noteFallback s l fc 1 (bad.2 == 1)
    if f.ok = false then
      if fall.2 then (putOutput s l (safeFrac s l)).setObj (loopIx l) 20 3
      else holdOutput s l 5
    else if r.ok = false ∧ fall.1 = false then
      holdOutput s l 5
    else
      let s := if back then trackLoop s l else s
      if r.ok then runLoop s l j (with_ r.v) f.v 1
      else runLoop s l j (with_ (toLoopFrac (s.objF (loopIx l) 15) (yScale s l)).1) f.v 5

/-- The loops due at slot j (R192, R193). -/
def dueLoops (s : State) (j : Nat) : List Nat :=
  (List.range 16).filter (fun l => decide ((s.loop l).rate ≠ 0) && decide (j * (s.loop l).rate % 8 = 0))

/-- The element of a lane that names slot `j` of the frame in course, with the slot byte at `o` and the frame at `o + 2`. -/
def slotElem (s : State) (l : List Elem) (o j : Nat) : Option (List Byte) :=
  (l.filterMap (fun e => match e with
    | .bytes b => if getLe b o 1 = j ∧ getLe b (o + 2) 2 = s.frameNo % 65536 then some b else none
    | _ => none)).getLast?

/-- Lanes 13, 18 and 19 as the slot takes them; whether lane 13 has its element (R192, R200). -/
def takeSlot (s : State) (j : Nat) : Bool × State :=
  let (e13, s) := laneDrain s 13
  let (e18, s) := laneDrain s 18
  let (e19, s) := laneDrain s 19
  let input (l : List Elem) : Nat × Bool :=
    match slotElem s l 5 j with
    | some b => (getLe b 0 4, decide (getLe b 4 1 % 2 = 1))
    | none => (0, false)
  let s := { s with av := { s.av with ins := [input e18, input e19] } }
  match slotElem s e13 12 j with
  | some b =>
    let fr := [0, 1, 2, 3].map (fun c => toS 24 (getLe b (3 * c) 3))
    (true, { s with av := { s.av with lane13 := (fr, getLe b 13 1) } })
  | none => (false, s)

/-- The loop that owns the converter set-point has no sample at slot j: the slot is late, or its rate has none there (R221). -/
def noSample (s : State) (j : Nat) (late : Bool) : Bool :=
  late || (match ownerLoop s with
    | some l => !(dueLoops s j).contains l
    | none => true)

/-- The converter set-point a command carries, mA: zero in Park whatever safe output R193 gives the loop (R27; DEDUCED 169), within the
effective limits in Guarded from the instant of its entry (R25, R278; DEDUCED 170). -/
def heldSetpoint (s : State) (v : Int) : Int :=
  if s.profile = 3 then 0
  else if s.profile = 4 then clampI (-(floorR (effLimit s false * 1000))) (floorR (effLimit s true * 1000)) v
  else v

/-- The converter command fields Avenue pushes into lane 5 at every slot (R192, R221); after slot j_s the control state is
recorded for the mirror (R310). -/
def pushCommand (s : State) (j : Nat) (late : Bool) : State :=
  let rep := noSample s j late
  let sp : Int := match ownerLoop s with
    | some l => clampI (-2147483648) 2147483647 (roundRne (loopOut s l * 1000))
    | none => 0
  let s := { s with av := { s.av with
    slot := (s.frameNo, j)
    conv := { s.av.conv with late := rep, last := s.av.conv.next,
                               next := heldSetpoint s (if late then s.av.conv.next else sp) } } }
  let s := lanePush s 5 (.nums [s.av.conv.next, deciAmp (effLimit s true), deciAmp (effLimit s false), j, if rep then 1 else 0])
  takeSnap s j

/-- A late slot: no loop runs, the late count and LATE of every loop due (R192). -/
def lateSlot (s : State) (j : Nat) : State :=
  let s := (dueLoops s j).foldl (fun s l => setLoopFlag s l flLate) s
  let s := onset (s.bump 0x5000 4) 0x0715 [d32 j, d32 s.frameNo]
  pushCommand (captureSlot s j true) j true

/-- Avenue at a slot: every loop due, in rising number, then the command fields (R192). -/
def execLoopSample (slot : Fin 16) (s : State) : Out :=
  onString s fun s =>
    if s.runs = false then s else
    let j := slot.val
    let s := injSlot (avenueFrame s)
    let (here, s) := takeSlot s j
    if here then
      let s := (dueLoops s j).foldl (evalLoop j) s
      pushCommand (captureSlot s j false) j false
    else lateSlot s j

/-- Lane 13's element has not arrived by 1.0 µs (R192); an injection stops and starts at a late slot as at any other (R217). -/
def execAvenueSlotLate (slot : Fin 16) (s : State) : Out :=
  onString s fun s =>
    if s.runs = false then s else
    let s := avenueFrame s
    if (slotElem s (s.lane 13).elems 12 slot).isSome then s else lateSlot (injSlot s) slot

/-- The fallback hold of a loop expires (R203): a set-point or feedback still invalid after 0x5100+L:16 samples. -/
def execFallbackHoldExpiry (loop : Fin 16) (s : State) : Out :=
  onString s fun s =>
    let x := s.loop loop
    let n := s.objN (loopIx loop) 16
    s.setLoop loop { x with fall := (x.fall.1 || decide (n ≤ x.bad.1), x.fall.2 || decide (n ≤ x.bad.2)) }

/-- A write of 1 to 0x5480+L:11 (R213): the pending commit is applied, the loop restarts with output tracking. -/
def execDetectorAcknowledge (loop : Fin 16) (s : State) : Out :=
  onHost s fun s =>
    let x := s.loop loop
    hostWrite s (0x5480 + loop) 11 (if x.det.hold = 0 then errState else errOk) fun s =>
      let s := s.setLoop loop { x with commit := x.held, held := 0, conflict := false, track := true,
                                       det := { x.det with hold := 0, next := 0 } }
      onset (s.setObj (0x5480 + loop) 8 0) 0x0705
        [d32 loop.val, d8 (s.obj (0x5480 + loop) 12), d32 (if x.held = 0 then 0 else 1)]

/-! ### What Avenue hands on at the seal and the release -/

/-- The onsets recorded since the last seal become events (R198). -/
def sealOnsets (s : State) : State :=
  s.av.onsets.foldl (fun s p => raise s p.1 8 p.2) { s with av := { s.av with onsets := [] } }

/-- A value as the object `i:sub` holds it, none where the object does not take it (R191, R204). -/
def asObject (s : State) (i sub : Nat) (v : Rat) : Option Int :=
  match objInfo s i sub with
  | some r =>
    let n : Int := if r.ty = .f32 then (f32Word v : Nat) else roundRne v
    if r.access = .rw ∧ r.ty ≠ .str ∧ r.ty ≠ .domain ∧ rangeOk r.ty r.range n ∧ extraOk s i sub n then some n else none
  | none => none

/-- The value of a numeric object as a source (R200). -/
def objectValue (s : State) (i sub : Nat) : Option Rat :=
  match objInfo s i sub with
  | some r =>
    if r.ty = .f32 then some (f32Value (readObj s i sub).toNat)
    else if r.ty = .bfp then some (bfpValue (readObj s i sub).toNat)
    else if r.ty = .str ∨ r.ty = .domain ∨ r.ty = .time80 then none
    else some (readObj s i sub : Rat)
  | none => none

/-- Host set-points sealed for the release (R202). -/
def sealSetpoints (s : State) : State :=
  (List.range 16).foldl (fun s l => s.setLoop l { s.loop l with hostNext := s.objN (loopIx l) 28 }) s

/-- Host set-points and source objects take effect at the output release (R200, R202). -/
def releaseSetpoints (s : State) : State :=
  (List.range 16).foldl (fun s l =>
    let x := s.loop l
    let k := s.objN (loopIx l) 29
    let uses := s.objN (loopIx l) 7 = 0x0900 ∨ s.objN (loopIx l) 8 = 0x0900
    s.setLoop l { x with host := x.hostNext, src := if uses then objectValue s (k / 65536) (k % 65536) else none }) s

/-- Fan speed channel f, % (R204). -/
def fanSpeed (s : State) (f : Nat) : Nat :=
  match (List.range 16).find? (fun l => loopOn s l && decide (s.objN (loopIx l) 9 = 0x0300 + f)) with
  | some l => (clampI 0 100 (roundRne (loopOut s l))).toNat
  | none => 0

end Sys2Proof.Machine
end

