-- ==== Sys2Proof/Machine/Converter.lean ====
section
/-!
DEFINITION. The set-point inputs (R207 to R209) and the converter link (R220 to R225).
Marks (notes/assumptions): DEDUCED 54, 169; DESIGN CHOICE 20, 53, 140.
-/
namespace Sys2Proof.Machine

/-! ### Set-point inputs -/

/-- Set-point input i. -/
def State.input (s : State) (i : Nat) : Input := storeGet (fun _ => {}) s.av.inputs i

/-- Stores set-point input i. -/
def State.setInput (s : State) (i : Nat) (x : Input) : State :=
  { s with av := { s.av with inputs := storePut (fun _ => {}) s.av.inputs i x } }

/-- Index of the objects of input i. -/
def inputIx (i : Nat) : Nat := 0x5010 + i

/-- The counter value at a slot's instant. -/
def slotC (s : State) (j : Nat) : Nat := s.clk.c - ((s.now / 65536 - slotNs s j) / 4).toNat

/-- The frequency in Hz over the rising edges within the gate time before a slot (R208). -/
def pulseHz (s : State) (i j : Nat) : Rat × Nat :=
  let c := slotC s j
  let g := s.objN (inputIx i) 4 * 250
  let l := (s.input i).rises.filter (fun r => decide (r ≤ c) && decide (c ≤ r + g))
  let n := l.length
  let span := l.headD 0 - l.getLastD 0
  (if n < 2 ∨ span = 0 then 0 else ((n - 1 : Nat) : Rat) * 250000000 / (span : Rat), n)

/-- Raw quantity and status of an input at a slot (R207, R208): bit 0 valid, 1 over range, 2 under range or wire break,
3 no pulses. -/
def inputRaw (s : State) (i j : Nat) (raw : Rat) : Rat × Nat :=
  let x := s.input i
  match s.objN (inputIx i) 1 with
  | 1 => (raw, if 21 / 2 < raw then 2 else if raw < -(21 / 2) then 4 else 1)
  | 2 => (raw, if 21 < raw then 2 else if raw < 18 / 5 then 4 else 1)
  | 3 =>
    let (f, n) := pulseHz s i j
    (f, if 105000 < f then 2 else if n < 2 ∧ x.timedOut then 8 else 1)
  | 4 =>
    match x.period with
    | some (len, high) =>
      if len = 0 then (0, 8) else ((high : Rat) * 100 / (len : Rat), if x.timedOut then 8 else 1)
    | none => (0, if x.timedOut then 8 else 0)
  | _ => (raw, 0)

/-- The fault of a status: 1 over range, 2 under range or wire break, 3 no pulses. -/
def inputFault (st : Nat) : Nat := if st.testBit 1 then 1 else if st.testBit 2 then 2 else 3

/-- An input's validity changes: an onset of invalidity in modes 1 to 4 is recorded once (R209). -/
def noteInput (s : State) (i st : Nat) (raw : Rat) : State :=
  let x := s.input i
  let bad := decide (s.obj (inputIx i) 1 ≠ 0) && decide (st % 2 = 0)
  let s := s.setInput i { x with faulted := bad }
  if bad ∧ x.faulted = false then onset s 0x0709 [d32 i, d32 (inputFault st), dF raw] else s

/-- A set-point input at a slot: objects and the element of lane 18 or 19 (R208). -/
def execSetpointInputSample (input : Fin 2) (slot : Fin 16) (raw : BitVec 32) (s : State) : Out :=
  onString s fun s =>
    let i := input.val
    let (q, st) := inputRaw s i slot (f32Value raw.toNat)
    let v := s.objF (inputIx i) 3 + s.objF (inputIx i) 2 * q
    let s := ((s.setF (inputIx i) 7 v).setF (inputIx i) 8 q).setObj (inputIx i) 9 st
    let s := noteInput s i st q
    let y := s.input i
    let e : Nat × Nat × Nat := (s.frameNo, f32Word v, st)
    let s := if slot.val = 0 then s.setInput i { y with slot0 := (e :: y.slot0).take 2 } else s
    lanePush s (18 + i) (.bytes (leBytes 4 (f32Word v : Nat) ++ [BitVec.ofNat 8 st, BitVec.ofNat 8 slot]
      ++ leBytes 2 (s.frameNo : Nat)))

/-- An edge that survived the glitch filter, with the counter value of its timestamp (R208). -/
def execSetpointPulseEdge (input : Fin 2) (rising : Bool) (at_ : BitVec 64) (s : State) : Out :=
  onString s fun s =>
    let i := input.val
    let x := s.input i
    let c := at_.toNat
    let m := s.obj (inputIx i) 1
    if m ≠ 3 ∧ m ≠ 4 then s
    else if rising then
      let per := match x.rises.head?, x.fell with
        | some r, some f => if r ≤ f ∧ f ≤ c then some (c - r, f - r) else x.period
        | _, _ => x.period
      let s := s.setInput i { x with rises := (c :: x.rises).filter (fun r => decide (c ≤ r + 2500000)),
                                     period := per, timedOut := false }
      s.setObj (inputIx i) 10 ((s.obj (inputIx i) 10 + 1) % 4294967296)
    else s.setInput i { x with fell := some c }

/-- No pulse within the pulse timeout (R207, R208): in mode 3 the input turns invalid where the gate holds fewer than two edges,
in mode 4 at once. -/
def execSetpointPulseTimeout (input : Fin 2) (s : State) : Out :=
  onString s fun s =>
    let i := input.val
    let x := s.input i
    let m := s.obj (inputIx i) 1
    let past : Bool := match x.rises.head? with
      | some r => decide (s.obj (inputIx i) 5 * 1000000 ≤ elapsedNs s.clk r s.clk.c)
      | none => true
    if (m = 3 ∨ m = 4) ∧ past then
      let s := s.setInput i { x with timedOut := true }
      let g := s.objN (inputIx i) 4 * 250
      if m = 3 ∧ 2 ≤ (x.rises.filter (fun r => decide (s.clk.c ≤ r + g))).length then s
      else noteInput (s.setObj (inputIx i) 9 8) i 8 0
    else s

/-! ### Commands (R220, R221) -/

/-- Fields of a command: set-point, charge limit, discharge limit, repeat. -/
def commandFields (s : State) (j : Nat) : (Int × Int × Int × Bool) × State :=
  let (l, s) := laneDrain s 5
  match l.getLast? with
  | some (.nums [sp, ch, di, k, rep]) =>
    if k = j then ((heldSetpoint s sp, ch, di, decide (rep = 1)), s) else ((heldSetpoint s s.av.conv.next, ch, di, true), s)
  | _ =>
    ((heldSetpoint s s.av.conv.next, deciAmp (effLimit s true), deciAmp (effLimit s false), true), s)

/-- A voltage limit in 0.1 V. -/
def deciVolt (q : Rat) : Int := clampI 0 65535 (roundRne (q * 10))

/-- The command frame of a slot (R221). -/
def commandFrame (s : State) (j : Nat) (f : Int × Int × Int × Bool) : List Byte :=
  let ctl : Nat := j % 8 + (if convEnable s then 8 else 0) + (if convStandby s then 16 else 0) + (if f.2.2.2 then 32 else 0)
    + (if injRuns s then 64 else 0) + (if s.profile = 4 then 128 else 0)
  let b := [0x51#8, BitVec.ofNat 8 ctl] ++ leBytes 4 (s.obj 0x5620 1) ++ leBytes 4 f.1 ++ leBytes 2 f.2.1 ++ leBytes 2 f.2.2.1
    ++ leBytes 2 (deciVolt (s.objF 0x5600 3)) ++ leBytes 2 (deciVolt (s.objF 0x5600 4)) ++ leBytes 2 (s.frameNo : Nat)
  b ++ leBytes 4 (crc32c b : Nat)

/-- A command frame leaves at every slot; a card that is not ACTIVE sends none and still awaits the converter's answer
(R220, R221, R223, R225, R299). -/
def execConverterCommandSend (slot : Fin 16) (s : State) : Out :=
  onString s fun s =>
    let s := if s.drives ∧ s.av.conv.epochDue then takeEpoch s else s
    let (f, s) := commandFields s slot
    let s := if s.drives then s.send 17 (commandFrame s slot f) else s
    { s with av := { s.av with conv := { s.av.conv with sent := s.av.conv.sent ++ [(s.frameNo, slot.val)] } } }

/-! ### Responses (R222, R225) -/

/-- The frame mean of the currents answered in frame `fr` [15:0] is taken with the answer, or its want, to slot 7 (R222). -/
def convMean (s : State) (j fr : Nat) : State :=
  let l := (s.av.conv.resp.filter (fun p => p.1 == fr)).map Prod.snd
  if j ≠ 7 ∨ l = [] then s else
  let m : Rat := ((l.sum : Int) : Rat) / (l.length : Rat) / 1000
  { s.setF 0x5600 14 m with av := { s.av with conv := { s.av.conv with resp := s.av.conv.resp.filter (fun p => p.1 != fr) } } }

/-- The link comes up after 8 good responses in a row. -/
def linkUp (s : State) : State :=
  if s.obj 0x5600 7 = 0 ∧ 8 ≤ s.av.conv.good then
    onset (stationBack (s.setObj 0x5600 7 1) 41) 0x0711 [d32 (((s.frameNo : Int) - (s.av.conv.downFrom : Int)) % 4294967296)]
  else s

/-- What a good response says of the epoch and of a fault (R225, R319). -/
def responseState (s : State) (status code epoch : Nat) : State :=
  let c := s.av.conv
  let fault := status.testBit 7
  let s := if fault ∧ c.fault = false then onset s 0x0714 [d8 code, d8 status] else s
  let above := s.isActive && decide (s.objN 0x5620 1 < epoch)
  let s := { s with av := { s.av with conv := { s.av.conv with fault := fault, superseded := above } } }
  if above ∧ c.superseded = false then stopDriving (onset s 0x0713 [d32 (s.obj 0x5620 1), d32 epoch]) else s

/-- A response frame arrives (R222): one that fails its CRC is counted and is not taken. Its slot is that of the command it
answers, of the two that share the echoed bits in a stretched frame the earlier. -/
def execConverterResponse (bytes : List Byte) (s : State) : Out :=
  onString s fun s =>
    if bytes.length ≠ 24 ∨ crc32c (bytes.take 20) ≠ getLe bytes 20 4 then s.bump 0x5600 12
    else if getLe bytes 0 1 ≠ 0x52 then s
    else
      let status := getLe bytes 1 1
      let j := status % 8
      let fr := getLe bytes 16 2
      let i := toS 32 (getLe bytes 6 4)
      let epoch := getLe bytes 2 4
      let c := s.av.conv
      let answered := c.sent.find? (fun p => p.2 % 8 == j && p.1 % 65536 == fr)
      let known := answered.isSome
      let j := (answered.map Prod.snd).getD j
      let frac := (toLoopFrac ((i : Rat) / 1000) (s.objF 0x5600 15)).1
      let s := { s with av := { s.av with conv := { c with
        sent := c.sent.filter (fun p => some p != answered)
        missing := if known then 0 else c.missing
        good := if known then c.good + 1 else c.good
        resp := if j < 8 then c.resp.filter (fun (p : Nat × Int) => p.1 == fr || (p.1 + 1) % 65536 == fr) ++ [(fr, i)] else c.resp
        frac := some frac
        respC := s.clk.c
        slot0 := if j = 0 then ((fr, bytes) :: c.slot0).take 2 else c.slot0
        temp := some (toS 8 (getLe bytes 14 1)) } } }
      let s := (s.setObjs 0x5600 [(10, status), (11, getLe bytes 15 1)]).setObj 0x5620 2 epoch
      let s := lanePush s 16 (.nums [frac, j, fr])
      let s := lanePush s 17 (.nums [status, j, fr])
      linkUp (responseState (convMean s j fr) status (getLe bytes 15 1) epoch)

/-- The response to slot j has not come by the launch of slot j + 2 (R225). -/
def execConverterResponseMissing (slot : Fin 16) (s : State) : Out :=
  onString s fun s =>
    let j := slot.val
    match s.av.conv.sent.find? (fun p => p.2 == j) with
    | none => s
    | some q =>
      let c := s.av.conv
      let m := c.missing + 1
      let s := { s with av := { s.av with conv := { c with sent := c.sent.erase q, missing := m, good := 0 } } }
      let s := convMean (s.bump 0x5600 13) j (q.1 % 65536)
      if s.obj 0x5600 7 = 1 ∧ s.objN 0x5600 6 ≤ m then
        let s := { s with av := { s.av with conv := { s.av.conv with downFrom := s.frameNo } } }
        let s := onset (s.setObj 0x5600 7 0) 0x0710 [d32 m, d8 (s.obj 0x5600 10)]
        let s := stationLost s 41 4
        if s.obj 0x7008 1 = 0 then stopDriving s else s
      else s

end Sys2Proof.Machine
end

