-- ==== Sys2Proof/Machine/Plan.lean ====
section
/-!
DEFINITION. The ramp profile: segments of constant acceleration, stop distance, plan and its evaluation (R228, R230 to R233).
Times are seconds from a plan's origin; v_p and what a plan gives at an instant are binary64 values, what lies between is exact.
Marks (notes/assumptions): DEDUCED 55; DESIGN CHOICE 123.
-/
namespace Sys2Proof.Machine

/-- A rational as binary64 holds it (R228). -/
def r64 (q : Rat) : Rat := f64Value (f64Word q)

/-- The eight parameters of a profile (R230). -/
structure Prm where
  vs : Rat
  ve : Rat
  vb : Rat
  vm : Rat
  a1 : Rat
  a2 : Rat
  d1 : Rat
  d2 : Rat
  deriving DecidableEq, Repr

/-- The stop distance from a speed of square `y` (R231). -/
def stopSq (p : Prm) (y : Rat) : Rat :=
  if y ≤ p.ve * p.ve then 0
  else if y ≤ p.vb * p.vb then (y - p.ve * p.ve) / (2 * p.d1)
  else (y - p.vb * p.vb) / (2 * p.d2) + (p.vb * p.vb - p.ve * p.ve) / (2 * p.d1)

/-- The stop distance from speed v ≥ 0 (R231). -/
def stopDist (p : Prm) (v : Rat) : Rat := stopSq p (v * v)

/-- The start-side distance between speeds of squares `x ≤ y` (R230). -/
def startSq (p : Prm) (x y : Rat) : Rat :=
  let b := p.vb * p.vb
  if y ≤ b then (y - x) / (2 * p.a1)
  else if b ≤ x then (y - x) / (2 * p.a2)
  else (b - x) / (2 * p.a1) + (y - b) / (2 * p.a2)

/-- Accelerations and durations from speed v1 to v2: the start side upward, the stop side downward, each with its break at
v_b (R230). -/
def ramp (p : Prm) (v1 v2 : Rat) : List (Rat × Rat) :=
  if v1 < v2 then
    let m := clampR v1 v2 p.vb
    (if v1 < m then [(p.a1, (m - v1) / p.a1)] else []) ++ (if m < v2 then [(p.a2, (v2 - m) / p.a2)] else [])
  else
    let m := clampR v2 v1 p.vb
    (if m < v1 then [(-p.d2, (v1 - m) / p.d2)] else []) ++ (if v2 < m then [(-p.d1, (m - v2) / p.d1)] else [])

/-- The distance pieces cover from speed v. -/
def rampDist : Rat → List (Rat × Rat) → Rat
  | _, [] => 0
  | v, (a, d) :: r => v * d + a * d * d / 2 + rampDist (v + a * d) r

/-- Pieces as segments in direction `g` from time t, position q and speed v; the time and the position they end at. -/
def emitSegs (kind : Nat) (g : Rat) : Rat → Rat → Rat → List (Rat × Rat) → List Seg × Rat × Rat
  | t, q, _, [] => ([], t, q)
  | t, q, v, (a, d) :: r =>
    let e := emitSegs kind g (t + d) (q + g * (v * d + a * d * d / 2)) (v + a * d) r
    (⟨kind, t, d, q, g * v, g * a⟩ :: e.1, e.2)

/-- The square at which a piecewise linear rising `f` reaches `d` within successive points. -/
def reachSq (f : Rat → Rat) (d : Rat) : List Rat → Rat
  | x :: y :: r =>
    if f y ≤ d then reachSq f d (y :: r)
    else if f x = f y then x else x + (d - f x) * (y - x) / (f y - f x)
  | [x] => x
  | [] => 0

/-- The largest binary64 value whose square is not above `y` (R228, R231). -/
def sqrt64 (y : Rat) : Rat :=
  if y ≤ 0 then 0 else
  let e := log2R y / 2
  let ex := if e < -1022 then -1022 else e
  (isqrt (floorR (y * pow2R (2 * (52 - ex)))).toNat : Rat) * pow2R (ex - 52)

/-- v_p: the largest speed of binary64 not above v_m from which the rest of the distance suffices (R228, R231). -/
def peakSpeed (p : Prm) (u d : Rat) : Rat :=
  if p.vm ≤ u then p.vm else
  let f (y : Rat) : Rat := startSq p (u * u) y + stopSq p y
  if f (p.vm * p.vm) ≤ d then p.vm else
  let lo := u * u
  let hi := p.vm * p.vm
  let b := clampR lo hi (p.vb * p.vb)
  let e := clampR lo b (p.ve * p.ve)
  sqrt64 (reachSq f d [lo, e, b, hi])

/-- The sign of a rational. -/
def signR (q : Rat) : Rat := if q < 0 then -1 else if 0 < q then 1 else 0

/-- A plan toward a target at distance `d ≥ 0` in direction `g`, from speed u along it (R231). -/
def planRun (p : Prm) (g t q u d : Rat) : List Seg :=
  let vp := peakSpeed p u d
  let up := ramp p u vp
  let e1 := emitSegs 1 g t q u up
  let cruise := d - rampDist u up - stopDist p vp
  let c : List Seg := if 0 < cruise ∧ 0 < vp then [⟨2, e1.2.1, cruise / vp, e1.2.2, g * vp, 0⟩] else []
  let t2 := if 0 < cruise ∧ 0 < vp then e1.2.1 + cruise / vp else e1.2.1
  let q2 := if 0 < cruise ∧ 0 < vp then e1.2.2 + g * cruise else e1.2.2
  e1.1 ++ c ++ (emitSegs 3 g t2 q2 vp (ramp p vp (minR vp p.ve))).1

/-- A plan from rest at time t and position q (R231, R232): a short move runs at min(v_s, v_e), or where that is 0 at `slow`; a
`slow` of 0 steps. -/
def planRest (p : Prm) (slow t q target : Rat) : List Seg :=
  let d := absR (target - q)
  let g := signR (target - q)
  if d = 0 then [] else
  let top := maxR p.vs p.ve
  if d < stopDist p top + rampDist p.vs (ramp p p.vs top) then
    let u := minR p.vs p.ve
    let u := if u = 0 then slow else u
    if 0 < u then [⟨2, t, d / u, q, g * u, 0⟩] else []
  else planRun p g t q p.vs d

/-- The segments along the stop side from speed v at time t and position q, with where they end. -/
def stopSegs (p : Prm) (kind : Nat) (t q v : Rat) : List Seg × Rat × Rat :=
  emitSegs kind (signR v) t q (absR v) (ramp p (absR v) (minR (absR v) p.ve))

/-- The plan from position q and signed speed v (R231): segments and whether it reverses. -/
def planFrom (p : Prm) (slow t q v target : Rat) : List Seg × Bool :=
  let d := target - q
  if v ≠ 0 ∧ (signR v ≠ signR d ∨ absR d < stopDist p (absR v)) then
    let e := stopSegs p 4 t q v
    (e.1 ++ planRest p slow e.2.1 e.2.2 target, true)
  else if v = 0 then (planRest p slow t q target, false)
  else (planRun p (signR d) t q (absR v) (absR d), false)

/-- Where a plan stands at time t: position, speed, kind; past its end the final position at rest, before its origin the
first position at rest. -/
def evalSegs (fin t : Rat) : List Seg → Rat × Rat × Nat
  | [] => (fin, 0, 0)
  | g :: r =>
    if t < g.t0 then (g.p0, 0, g.kind)
    else if t < g.t0 + g.dur then
      let x := t - g.t0
      (g.p0 + g.v0 * x + g.a * x * x / 2, g.v0 + g.a * x, g.kind)
    else evalSegs fin t r

/-- The segments of a reversal in course at time t, and where and when it comes to rest. -/
def reversal (t : Rat) (l : List Seg) : List Seg × Rat × Rat :=
  let r := (l.filter (fun g => g.kind == 4 && decide (t < g.t0 + g.dur)))
  match r.getLast? with
  | some g => (r, g.t0 + g.dur, g.p0 + g.v0 * g.dur + g.a * g.dur * g.dur / 2)
  | none => ([], t, 0)

end Sys2Proof.Machine
end

