-- ==== Sys2Proof/Machine/Sliproad.lean ====
section
/-!
DEFINITION. Sliproad: targets, plans, limits, stops and gearing of its channels, and the coolant valves (R227 to R246).
Marks (notes/assumptions): DEDUCED 55, 56, 158; DESIGN CHOICE 74, 124, 125, 126, 145.
-/
namespace Sys2Proof.Machine

/-- Index of the parameters of channel c. -/
def slipIx (c : Nat) : Nat := 0x5810 + c

/-- The parameters of a channel; a stop replaces v_m by :15 (R236). -/
def slipPrm (s : State) (c : Nat) (stopping : Bool) : Prm :=
  let f := s.objF (slipIx c)
  ⟨f 4, f 5, f 6, if stopping then f 15 else f 7, f 8, f 9, f 10, f 11⟩

/-- Speed of a short move of a channel whose v_s or v_e is 0: a V channel's slow homing speed, none for a P channel (R232). -/
def slipSlow (s : State) (c : Nat) : Rat := if c < 2 then 0 else s.objF (0x5840 + (c - 2)) 8

/-- Seconds from a channel's origin to a module time. -/
def slipSecs (x : Slip) (t : Int) : Rat := ((t - x.origin : Int) : Rat) / 1000000000

/-- Position, speed and kind of a channel at a module time in ns: the plan evaluated there, in binary64 (R228). -/
def slipAt (x : Slip) (t : Int) : Rat × Rat × Nat :=
  let e := evalSegs x.fin (slipSecs x t) x.segs
  (r64 e.1, r64 e.2.1, e.2.2)

/-- Index of a valve from its channel. -/
def valveOf (c : Nat) : Nat := c - 2

/-- Valve v. -/
def State.valve (s : State) (v : Nat) : Valve := storeGet (fun _ => {}) s.valves v

/-- Stores valve v. -/
def State.setValve (s : State) (v : Nat) (x : Valve) : State :=
  { s with valves := storePut (fun _ => {}) s.valves v x }

/-- A channel plans toward its target at a module time (R231, R233, R245): a reversal in course completes first; a V channel
that starts from rest restores its run current and moves 1 ms later. -/
def replan (s : State) (c : Nat) (p : Prm) (t : Int) : State :=
  let x := s.slip c
  let (q, v, kind) := slipAt x t
  if kind = 4 ∧ v ≠ 0 then
    let now := slipSecs x t
    let r := reversal now x.segs
    s.setSlip c { x with segs := r.1 ++ planRest p (slipSlow s c) r.2.1 r.2.2 x.target, fin := x.target }
  else
    let wait := decide (2 ≤ c) && decide (v = 0) && decide (x.target ≠ q)
    let s := if wait then s.setValve (valveOf c) { s.valve (valveOf c) with holding := false } else s
    let o := if wait then t + 1000000 else t
    let e := planFrom p (slipSlow s c) 0 q v x.target
    let s := s.setSlip c { x with segs := e.1, origin := o, fin := x.target, pos := q, vel := v }
    if e.2 then s.bump (0x5820 + c) 6 else s

/-- A channel is held at a position, at rest. -/
def restAt (x : Slip) (t : Int) (q : Rat) : Slip := { x with segs := [], origin := t, fin := q, pos := q, vel := 0 }

/-- The channel takes targets and runs plans: it is not off, and a valve is homed (R228, R242). -/
def follows (s : State) (c : Nat) : Bool :=
  decide (s.obj (slipIx c) 1 ≠ 0) && (decide (c < 2) || decide (s.obj (0x5840 + valveOf c) 15 = 5))

/-- The channel plans with its own parameters; one that is off runs no plan, and a valve that is not homed holds its position
(R228, R242). -/
def planNow (s : State) (c : Nat) (t : Int) : State :=
  if follows s c then replan s c (slipPrm s c (decide ((s.slip c).stop ≠ 0))) t else s

/-- Gearing ends: the event, the ratio object back at 0, and the channel at rest at `q` in position mode (R237, R238); a channel
that is not geared stays as it is. -/
def endGear (s : State) (c : Nat) (t : Int) (q : Rat) : State :=
  let x := s.slip c
  if x.gear.isSome then
    let s := onset (s.setObj (0x5830 + c) 14 0) 0x0803 [d32 c, d32 0, d32 (s.objN 0x5011 10)]
    s.setSlip c { restAt x t q with gear := none }
  else s

/-- An orderly shutdown runs, and the channel is the one it stops (R262, R264). -/
def shutHolds (s : State) (c : Nat) : Bool := c == 0 && bitOf (s.obj 0x6000 1) 4

/-- A target reaches a channel (R229, R236, R242, R264): clamped to the position limits, stored while a stop holds and, of P0, while an
orderly shutdown runs, not taken by a valve that is not homed or by a channel that is off. The clamp is recorded where `fresh` says it
is the first of this target. -/
def giveTarget (s : State) (c : Nat) (v : Rat) (t : Int) (fresh : Bool) : State :=
  if follows s c = false then s else
  let q := clampR (s.objF (slipIx c) 12) (s.objF (slipIx c) 13) v
  let s := if q ≠ v ∧ fresh then onset s 0x0801 [d32 c, dF v, dF q] else s
  let x : Slip := { s.slip c with clamped := if q = v then none else some v }
  if x.stop ≠ 0 then s.setSlip c { x with stored := q }
  else if shutHolds s c then s.setSlip c { x with stored := q, early := true }
  else
    let s := s.setSlip c { x with target := q }
    if x.limit ≠ 0 ∨ x.gear.isSome then s else planNow s c t

/-- A target written by the host or the program reaches a channel: its clamp is recorded unless the target taken before was the
same (R229; DESIGN CHOICE 124). -/
def takeTarget (s : State) (c : Nat) (v : Rat) (t : Int) : State :=
  giveTarget s c v t (decide ((s.slip c).clamped ≠ some v))

/-! ### Stops (R236) -/

/-- The position a stop moves to: 0, for a valve its home position value. -/
def stopTarget (s : State) (c : Nat) : Rat := if c < 2 then 0 else s.objF (0x5840 + valveOf c) 13

/-- A move stops along its stop side. -/
def stopMove (s : State) (c : Nat) (t : Int) : State :=
  let x := s.slip c
  let (q, v, _) := slipAt x t
  let e := stopSegs (slipPrm s c false) 3 0 q v
  s.setSlip c { x with segs := e.1, origin := t, fin := e.2.2, target := e.2.2 }

/-- A homing in course ends: the valve stops along its stop side and stands UNHOMED (R236; DESIGN CHOICE 126). -/
def endHoming (s : State) (c : Nat) (t : Int) : State :=
  if 2 ≤ c ∧ within 1 3 (s.objN (0x5840 + valveOf c) 15) then (stopMove s c t).setObj (0x5840 + valveOf c) 15 0 else s

/-- A stop: 1 by the host, 2 by an orderly shutdown; the target in force is stored; a geared channel leaves gearing at its
output word, and a homing ends (R236, R262). A host stop changes nothing while a stop holds. -/
def stopChannel (s : State) (c kind : Nat) : State :=
  let t := s.now / 65536
  if kind = 1 ∧ (s.slip c).stop ≠ 0 then s else
  let s := endHoming (endGear s c t (slipOut (s.slip c))) c t
  let x := s.slip c
  let x : Slip := { x with stored := (if x.stop = 0 ∧ x.early = false then x.target else x.stored), early := false, stop := kind
                           target := stopTarget s c }
  let s := s.setSlip c x
  if x.limit ≠ 0 then s else planNow s c t

/-- A write of 1 to 0x5810+c:14 (R236). -/
def execSliproadStop (chan : Fin 4) (s : State) : Out :=
  onHost s fun s => hostWrite s (slipIx chan) 14 errOk fun s => stopChannel s chan 1

/-- A write of 2 to 0x5810+c:14 (R236, R264). -/
def execSliproadStopRelease (chan : Fin 4) (s : State) : Out :=
  onHost s fun s => hostWrite s (slipIx chan) 14 (if (s.slip chan).stop = 1 ∧ shutHolds s chan = false then errOk else errState) fun s =>
    let x := s.slip chan
    let s := s.setSlip chan { x with stop := 0, target := x.stored }
    if x.limit ≠ 0 then s else planNow s chan (s.now / 65536)

/-! ### P0 under limits (R234, R235) -/

/-- The source of the limit that is tightest on a side, 0 where the configured limit is (R205). -/
def limitSource (s : State) (charge : Bool) : Nat :=
  let lim := effLimit s charge
  match s.av.imposed.find? (fun p => (if charge then p.2.1 else p.2.2) == some lim && tightOn s p.1 charge) with
  | some p => p.1
  | none => 0

/-- P0 held within the effective limits of the dispatch loop (R234). -/
def holdLimits (s : State) (t : Int) : State :=
  match dispatchLoop s with
  | none => s
  | some l =>
    let (lo, hi) := loopLimits s l
    let x := s.slip 0
    let q := (slipAt x t).1
    if x.limit = 0 then
      if hi < q then
        onset (s.setSlip 0 { restAt x t hi with limit := 1 }) 0x0802 [d32 0, d32 (limitSource s true), dF hi]
      else if q < lo then
        onset (s.setSlip 0 { restAt x t lo with limit := -1 }) 0x0802 [d32 0, d32 (limitSource s false), dF lo]
      else s
    else
      let b := if x.limit = 1 then hi else lo
      let past := if x.limit = 1 then decide (b < q) else decide (q < b)
      let inside := if x.limit = 1 then decide (x.target < q) else decide (q < x.target)
      if past then s.setSlip 0 (restAt x t b)
      else if b ≠ q ∨ inside then planNow (s.setSlip 0 { restAt x t q with limit := 0 }) 0 t
      else s

/-- P0 at a profile change, at the slot of the bank change: out of Response it stands at the dispatch loop's last set-point, into
Park at 0; gearing ends, since its output word is then its position (R235; DESIGN CHOICE 125). -/
def profileSlot (s : State) (t : Int) : State :=
  let old := s.av.prof
  if old = s.av.bankProf then s else
  let s := { s with av := { s.av with prof := s.av.bankProf } }
  if s.av.bankProf = 3 then
    let s := endGear s 0 t 0
    s.setSlip 0 { restAt (s.slip 0) t 0 with target := 0, limit := 0 }
  else if old = 1 then
    match dispatchLoop s with
    | some l =>
      let q := fromFrac (s.loop l).r (yScale s l)
      let s := endGear s 0 t q
      planNow (s.setSlip 0 { restAt (s.slip 0) t q with limit := 0 }) 0 t
    | none => s
  else s

/-! ### Gearing (R237 to R240) -/

/-- The count has reached M_c. -/
def countReached (m mc : Nat) : Bool := decide (((m : Int) - (mc : Int)) % 4294967296 < 2147483648)

/-- A pulse difference modulo 2^32. -/
def countDiff (m m0 : Nat) : Rat := ((((m : Int) - (m0 : Int)) % 4294967296 : Int) : Rat)

/-- Ratio k, 1 or 2, of a channel. -/
def ratioOf (s : State) (c k : Nat) : Rat :=
  let i := 0x5830 + c
  if k = 1 then (s.obj i 1 : Rat) / (s.obj i 2 : Rat) else (s.obj i 3 : Rat) / (s.obj i 4 : Rat)

/-- g(m) (R238). -/
def gearedPos (s : State) (c m : Nat) (change : Option Nat) : Rat :=
  let me := s.objN (0x5830 + c) 13
  match change with
  | none => ratioOf s c 1 * countDiff m me
  | some mc => ratioOf s c 1 * countDiff mc me + ratioOf s c 2 * countDiff m mc

/-- The change of ratio is taken in the slot in which the count reaches M_c; armed past it, at once (R238). -/
def gearChange (s : State) (c m : Nat) (g : Gear) : Gear × State :=
  let i := 0x5830 + c
  let mc := s.objN i 5
  if s.objB i 6 ∧ g.change = none ∧ countReached m mc then
    let at_ := if countReached g.last mc ∧ g.last ≠ mc then m else mc
    ({ g with change := some at_ }, onset (s.setObj i 14 2) 0x0804 [d32 c, d32 at_, d32 (s.obj i 3), d32 (s.obj i 4)])
  else (g, s)

/-- A geared channel at a slot (R239, R240). -/
def gearSlot (s : State) (c : Nat) (g : Gear) (t : Int) : State :=
  let i := 0x5830 + c
  let m := s.objN 0x5011 10
  let dt : Rat := (s.tf : Rat) / 8000000000
  let slew := s.objF i 9 * dt
  let valid := bitOf (s.obj 0x5011 9) 0
  let (g, s) := gearChange s c m g
  let lag := gearedPos s c m g.change - g.q
  let k := if g.change.isSome then 2 else 1
  let cmd := ratioOf s c k * s.objF 0x5011 7 + lag / s.objF i 10
  let aim := if valid then cmd else 0
  let lim := s.objF i 8
  let w := clampR (-lim) lim (clampR (g.w - slew) (g.w + slew) aim)
  let w := match (if c = 0 then dispatchLoop s else none) with
    | some l => clampR (loopLimits s l).1 (loopLimits s l).2 w
    | none => w
  let high := decide (s.objF i 11 < absR lag)
  let s := if high && !g.lagHigh then onset s 0x0805 [d32 c, dF lag] else s
  let s := if !valid && !g.lost then onset s 0x0806 [d32 c, d32 m, d8 (s.obj 0x5011 9)] else s
  let g : Gear := { g with w := w, q := g.q + w * dt, last := m, lagHigh := high, lost := !valid }
  (s.setSlip c { s.slip c with gear := some g, origin := t }).setF i 12 lag

/-- An engagement or disengagement due at the slot (R237); an engagement waits while the channel is off or a stop holds. -/
def engageSlot (s : State) (c : Nat) (t : Int) : State :=
  let x := s.slip c
  let i := 0x5830 + c
  let m := s.objN 0x5011 10
  if x.engage = 1 then
    if x.off ∨ x.stop ≠ 0 then s else
    let s := s.setSlip c { restAt x t x.pos with engage := 0, limit := 0, gear := some { w := slipOut x, last := m } }
    onset (s.setObjs i [(13, m), (14, 1)]) 0x0803 [d32 c, d32 1, d32 m]
  else if x.engage = 2 then
    let s := endGear s c t (slipOut x)
    planNow (s.setSlip c { s.slip c with engage := 0 }) c t
  else s

/-- A write of 1 to 0x5830+c:7 (R237). -/
def execGearEngage (chan : Fin 2) (s : State) : Out :=
  onHost s fun s =>
    let ok := decide (s.obj 0x5011 1 = 3) && bitOf (s.obj 0x5011 9) 0
    hostWrite s (0x5830 + chan) 7 (if ok then errOk else errState) fun s => s.setSlip chan { s.slip chan with engage := 1 }

/-- A write of 2 to 0x5830+c:7 (R237). -/
def execGearDisengage (chan : Fin 2) (s : State) : Out :=
  onHost s fun s => hostWrite s (0x5830 + chan) 7 errOk fun s =>
    let x := s.slip chan
    if x.gear.isSome then s.setSlip chan { x with engage := 2 } else s.setSlip chan { x with engage := 0 }

/-! ### Coolant valves (R241 to R246) -/

/-- Index of the objects of valve v. -/
def valveIx (v : Nat) : Nat := 0x5840 + v

/-- The end switch of a valve stands at its asserting level: the digital input :4 names, at the level :5 gives (R243). -/
def switchOn (s : State) (v : Nat) : Bool := s.av.levels.testBit (s.objN (valveIx v) 4) == s.objB (valveIx v) 5

/-- Toward the switch. -/
def homeDir (s : State) (v : Nat) : Rat := if s.obj (valveIx v) 6 = 1 then 1 else -1

/-- Microsteps nearest to a position, half away from zero (R241). -/
def toSteps (q : Rat) : Int := if q < 0 then -(floorR (-q + 1 / 2)) else floorR (q + 1 / 2)

/-- The channel of a valve moves toward a position at a homing speed: the start side from v_s, or constant (R242). -/
def homeMove (s : State) (v : Nat) (dist speed : Rat) (const : Bool) (t : Int) : State :=
  let c := v + 2
  let x := s.slip c
  let q := (slipAt x t).1
  let target := q + dist
  let x : Slip := { x with target := target }
  if const then
    let g : List Seg := if speed = 0 then [] else [⟨2, 0, absR dist / speed, q, signR dist * speed, 0⟩]
    s.setSlip c { x with segs := g, origin := t + 1000000, fin := target, pos := q, vel := 0 }
  else replan (s.setSlip c x) c { slipPrm s c false with vm := speed } t

/-- Homing enters FAST or BACKOFF (R242). -/
def homeEnter (s : State) (v st : Nat) (t : Int) : State :=
  let i := valveIx v
  let s := (s.setObj i 15 st).setValve v { s.valve v with energised := true }
  if st = 1 then homeMove s v (homeDir s v * s.objF i 10) (s.objF i 7) false t
  else homeMove s v (-(homeDir s v) * s.objF i 9) (s.objF i 7) false t

/-- Homing fails (R243). -/
def homeFail (s : State) (v : Nat) (reason : Int) (t : Int) : State :=
  let c := v + 2
  let x := s.slip c
  onset ((s.setSlip c (restAt x t (slipAt x t).1)).setObj (valveIx v) 15 6) 0x0809 [d32 v, d32 reason]

/-- FAST ends at the switch: stop side, then away from it (R242, R244). -/
def fastStop (s : State) (v : Nat) (t : Int) : State :=
  let c := v + 2
  let i := valveIx v
  let x := s.slip c
  let (q, w, _) := slipAt x t
  let p := { slipPrm s c false with vm := s.objF i 7 }
  let e := stopSegs p 3 0 q w
  let target := e.2.2 - homeDir s v * s.objF i 9
  let segs := e.1 ++ planRest p (slipSlow s c) e.2.1 e.2.2 target
  (s.setSlip c { x with segs := segs, origin := t, fin := target, target := target }).setObj i 15 2

/-- A homing state at a slot: what ends with its motion (R242). -/
def homeSlot (s : State) (v : Nat) (t : Int) : State :=
  let i := valveIx v
  let done := decide ((slipAt (s.slip (v + 2)) t).2.2 = 0)
  let sw := switchOn s v
  match s.objN i 15 with
  | 1 => if sw then fastStop s v t else if done then homeFail s v 1 t else s
  | 2 =>
    if done then
      if sw then homeFail s v 2 t
      else homeMove (s.setObj i 15 3) v (homeDir s v * 2 * s.objF i 9) (s.objF i 8) true t
    else s
  | 3 => if done then homeFail s v 3 t else s
  | _ => s

/-- Homing starts, FAST or, from UNHOMED with the switch asserted, BACKOFF (R242). A channel that is off runs no plan, so its
homing does not start (R228; DESIGN CHOICE 126). -/
def homeStart (s : State) (v : Nat) : State :=
  if s.obj (slipIx (v + 2)) 1 = 0 then s else
  homeEnter s v (if s.obj (valveIx v) 15 = 0 ∧ switchOn s v then 2 else 1) (s.now / 65536)

/-- A write of 1 to 0x5840+v:14 (R242, R246): from UNHOMED and FAILED, with no driver fault, of a channel that is not off. -/
def execHomeStart (valve : Fin 2) (s : State) : Out :=
  onHost s fun s =>
    let st := s.obj (valveIx valve) 15
    let ok := (st == 0 || st == 6) && decide (s.obj (valveIx valve) 19 = 0) && decide (s.obj (slipIx (valve + 2)) 1 ≠ 0)
    hostWrite s (valveIx valve) 14 (if ok then errOk else errState) fun s => homeStart s valve

/-- The edge of homing: the driver captures count and time of the sample and emits no further step, so the count it stands at is the
captured one (R243). -/
def captureEdge (s : State) (v : Nat) (t : Int) : State :=
  let i := valveIx v
  let c := v + 2
  let x := s.slip c
  let q := (slipAt x t).1
  let s := s.setSlip c (restAt x t q)
  let n := toSteps q
  let s := s.setValve v { s.valve v with captured := some s.clk.c, since := some s.clk.c, edge := (n : Rat), count := n }
  ((s.setF i 16 (n : Rat)).setObj i 17 (time80 s.now)).setObjs i [(15, 4), (18, 0)]

/-- The end switch of a valve has changed to `asserted` (R243, R244). -/
def switchEdge (s : State) (v : Nat) (asserted : Bool) (t : Int) : State :=
  let i := valveIx v
  match s.objN i 15 with
  | 1 => if asserted then fastStop s v t else s
  | 3 => if asserted then captureEdge s v t else s
  | 4 =>
    if asserted then s.setValve v { s.valve v with since := some s.clk.c }
    else (s.setValve v { s.valve v with since := none }).bumpSat i 18 65535
  | 5 =>
    let (q, w, k) := slipAt (s.slip (v + 2)) t
    if asserted ∧ k ≠ 0 then onset ((stopMove s (v + 2) t).setObj i 15 0) 0x080A [d32 v, dF q, dF w] else s
  | _ => s

/-- A digital input changes level, as a sample sees it: it is an edge of the end switch of each valve that names the input in :4,
asserted at the level of :5 (R243). -/
def execEndSwitchEdge (input : Fin 8) (level : Bool) (s : State) : Out :=
  onString s fun s =>
    let b := 2 ^ input.val
    let rest := s.av.levels - (if s.av.levels.testBit input.val then b else 0)
    let s := { s with av := { s.av with levels := rest + (if level then b else 0) } }
    [0, 1].foldl (fun s v =>
      if s.objN (valveIx v) 4 = input.val then switchEdge s v (switchOn s v) (s.now / 65536) else s) s

/-- The switch has stayed asserted for the window: the edge becomes the home position value (R243). -/
def execHomeQualified (valve : Fin 2) (s : State) : Out :=
  onString s fun s =>
    let v := valve.val
    let i := valveIx v
    let y := s.valve v
    match y.since with
    | some c =>
      if s.obj i 15 = 4 ∧ s.obj i 11 * 1000000 ≤ elapsedNs s.clk c s.clk.c then
        let x := s.slip (v + 2)
        let t := s.now / 65536
        let q := (slipAt x t).1 - y.edge + s.objF i 13
        let s := s.setSlip (v + 2) { restAt x t q with target := q, limit := 0 }
        let s := s.setValve v { y with captured := none, since := none, count := toSteps q }
        onset (s.setObj i 15 5) 0x0807 [d32 v, f32At s i 16, d16 (s.obj i 18)]
      else s
    | none => s

/-- Chatter outlasts the qualification timeout (R243). -/
def execHomeQualifyTimeout (valve : Fin 2) (s : State) : Out :=
  onString s fun s =>
    let i := valveIx valve
    match (s.valve valve).captured with
    | some c =>
      if s.obj i 15 = 4 ∧ s.obj i 12 * 1000000 ≤ elapsedNs s.clk c s.clk.c then
        onset ((s.setValve valve { s.valve valve with captured := none, since := none }).setObj i 15 6) 0x0808
          [d32 valve.val, d16 (s.obj i 18)]
      else s
    | none => s

/-- No microstep for the standstill delay: the coil goes to its hold current (R245). -/
def execStandstillDelayExpiry (valve : Fin 2) (s : State) : Out :=
  onString s fun s =>
    let y := s.valve valve
    if s.obj (valveIx valve) 3 * 1000000 ≤ elapsedNs s.clk y.stepC s.clk.c then s.setValve valve { y with holding := true }
    else s

/-- The channel of a valve is energised: on the ACTIVE card or a single module, while no driver fault took it (R241, R246). -/
def coilOn (s : State) (v : Nat) : Bool := (s.valve v).energised && s.drivesAll

/-- The coil current of a valve's driver, mA: the run current, at standstill the hold percentage of it (R245). -/
def coilCurrent (s : State) (v : Nat) : Rat :=
  let y := s.valve v
  if coilOn s v = false then 0
  else if y.holding then (s.obj (valveIx v) 1 : Rat) * (s.obj (valveIx v) 2 : Rat) / 100 else s.obj (valveIx v) 1

/-- The driver's status: a fault stops emission at once, de-energises the channel and takes its home (R246). -/
def execStepperFault (valve : Fin 2) (status : BitVec 4) (s : State) : Out :=
  onString s fun s =>
    let v := valve.val
    let s := s.setObj (valveIx v) 19 (status.toNat : Nat)
    if status = 0 then s else
    let t := s.now / 65536
    let x := s.slip (v + 2)
    let q := (slipAt x t).1
    let s := s.setSlip (v + 2) (restAt x t q)
    let s := s.setValve v { s.valve v with energised := false, captured := none, since := none, count := toSteps q }
    onset (s.setObj (valveIx v) 15 0) 0x080B [d32 v, d8 status.toNat]

/-! ### The update at a slot (R228) -/

/-- A channel set to mode 0 first stops along its stop side, a geared one leaves gearing, a homing in course ends UNHOMED
(DESIGN CHOICE 126); set to another mode it plans from rest (R228). -/
def modeSlot (s : State) (c : Nat) (t : Int) : State :=
  let x := s.slip c
  if s.obj (slipIx c) 1 = 0 then
    if x.off then s else
    let s := if x.gear.isSome then endGear s c t (slipOut x) else endHoming (stopMove s c t) c t
    s.setSlip c { s.slip c with off := true, limit := 0 }
  else if x.off then
    let s := s.setSlip c { restAt x t (slipAt x t).1 with off := false }
    let l := s.objN (slipIx c) 2
    let s := takeTarget s c (if l / 256 = 5 then loopOut s (l % 256) else s.objF (slipIx c) 3) t
    if (s.slip c).stop = 0 then s else planNow s c t
  else s

/-- The channel takes its target from a loop's output: a valve so configured (R227). -/
def loopFed (s : State) (c : Nat) : Bool := decide (2 ≤ c) && decide (s.objN (slipIx c) 2 / 256 = 5)

/-- Targets released to Sliproad through lane 44 (R229); a valve that a loop feeds takes none of them (R227). -/
def releasedTargets (s : State) (t : Int) : State :=
  let (l, s) := laneDrain s 44
  l.foldl (fun s e => match e with
    | .nums [c, w] => if loopFed s c.toNat then s else takeTarget s c.toNat (f32Value w.toNat) t
    | _ => s) s

/-- A valve whose target is a loop's output takes it at every slot (R204, R229): a target that is what it has already changes no
plan, and each new one that is clamped is recorded. -/
def loopTarget (s : State) (c : Nat) (t : Int) : State :=
  if loopFed s c ∧ (s.slip c).off = false then
    let v := loopOut s (s.objN (slipIx c) 2 % 256)
    let x := s.slip c
    let q := clampR (s.objF (slipIx c) 12) (s.objF (slipIx c) 13) v
    let clamp : Option Rat := if q = v then none else some v
    if q = (if x.stop ≠ 0 then x.stored else x.target) then
      let s := if q ≠ v ∧ x.clamped ≠ clamp then onset s 0x0801 [d32 c, dF v, dF q] else s
      s.setSlip c { x with clamped := clamp }
    else takeTarget s c v t
  else s

/-- The segment object (R233, R234). -/
def segmentCode (x : Slip) (kind : Nat) : Int :=
  if x.gear.isSome then 7 else if x.limit ≠ 0 then 6 else if kind = 0 then 0
  else if x.stop ≠ 0 ∧ kind ≠ 4 then 5 else kind

/-- The driver of a valve emits the microsteps up to the end of the slot (R241); one that is off emits those of its stop (R228). -/
def emitSteps (s : State) (v : Nat) (t : Int) : State :=
  let y := s.valve v
  if y.energised = false ∨ (s.obj (slipIx (v + 2)) 1 = 0 ∧ (slipAt (s.slip (v + 2)) t).2.2 = 0) then s else
  let q := (slipAt (s.slip (v + 2)) (t + s.tf / 8)).1
  let n := toSteps q
  let s := lanePush s (6 + v) (.nums [n])
  let s := (laneDrain s (6 + v)).2
  if n = y.count then s else
  let s := s.setValve v { y with count := n, stepC := s.clk.c, holding := false }
  if s.drivesAll then s.send (24 + v) (leBytes 4 (n - y.count)) else s

/-- The objects of a channel at a slot. -/
def slipObjects (s : State) (c : Nat) (t : Int) : State :=
  let x := s.slip c
  let (q, v, kind) := slipAt x t
  let s := s.setSlip c { x with pos := q, vel := v }
  let x := s.slip c
  let i := 0x5820 + c
  let pos : Rat := match x.gear with
    | some g => g.q
    | none => if c < 2 then q else ((s.valve (valveOf c)).count : Rat)
  let s := ((s.setF i 1 pos).setF i 2 ((x.gear.map Gear.w).getD v)).setF i 3 x.target
  ((s.setObj i 4 (segmentCode x kind)).setF i 5 (slipOut x)).setF i 7 x.stored

/-! ### Kind 2 of the mirror (R308, R310) -/

/-- The identifier of a plan: a checksum of its end and its segments' kinds. -/
def planId (x : Slip) : Nat :=
  crc32c (leBytes 8 (f64Word x.fin : Nat) ++ x.segs.map (fun g => BitVec.ofNat 8 g.kind))

/-- The flags of a channel: off, geared, limit held above and below, stop, change of ratio taken. -/
def slipFlags (x : Slip) : Nat :=
  (if x.off then 1 else 0) + (if x.gear.isSome then 2 else 0) + (if x.limit = 1 then 4 else 0)
    + (if x.limit = -1 then 8 else 0) + 16 * (x.stop % 4)
    + (match x.gear with | some g => if g.change.isSome then 64 else 0 | none => 0)

/-- The 64 bytes of a channel: a valve's, which is never geared, hold the captured edge count where a P channel's hold the lag as its
object reads (R11). -/
def slipBytes (s : State) (c : Nat) (pv : Rat × Rat) : List Byte :=
  let x := s.slip c
  let f (q : Rat) : List Byte := leBytes 8 (f64Word q : Nat)
  let home : Int := if 2 ≤ c then s.obj (valveIx (valveOf c)) 15 else 0
  let lag : Nat := if 2 ≤ c then s.objN (valveIx (valveOf c)) 16 else s.objN (0x5830 + c) 12
  let g : Gear := x.gear.getD { w := 0 }
  padTo 64 (f pv.1 ++ f pv.2 ++ f x.target ++ leBytes 1 (s.obj (0x5820 + c) 4) ++ leBytes 1 home
    ++ [BitVec.ofNat 8 (slipFlags x), 0#8] ++ leBytes 4 (lag : Int) ++ leBytes 4 (g.last : Int)
    ++ leBytes 4 (planId x : Nat) ++ leBytes 4 (f32Word g.w : Nat) ++ leBytes 4 (g.change.getD 0 : Nat) ++ f x.stored
    ++ leBytes 4 (s.obj (0x5830 + c) 13))

/-- The content of kind 2. -/
def slipPart (s : State) (x : SlotSnap) : List Byte :=
  [0, 1, 2, 3].flatMap (fun c => slipBytes s c (x.slips.getD c (0, 0)))

/-- The correction of a real value: the difference of the mirrored and the recorded one, or the mirrored one where none was recorded. -/
def correctedR (now : Rat) (rec_ : Option Rat) (mir : Rat) : Rat :=
  match rec_ with
  | some r => now + (mir - r)
  | none => mir

/-- The plan of a homing state from a position and a speed toward its target (R242). -/
def homeSegs (s : State) (c : Nat) (st : Nat) (q v target : Rat) : List Seg :=
  let i := valveIx (valveOf c)
  let slow := s.objF i 8
  match st with
  | 1 => (planFrom { slipPrm s c false with vm := s.objF i 7 } (slipSlow s c) 0 q v target).1
  | 2 => (planFrom { slipPrm s c false with vm := s.objF i 7 } (slipSlow s c) 0 q v target).1
  | 3 => if slow = 0 ∨ target = q then [] else [⟨2, 0, absR (target - q) / slow, q, signR (target - q) * slow, 0⟩]
  | _ => []

/-- The homing of a valve as the mirror brings it: state, captured edge and the count its driver stands at. A qualification goes on with a
window of the card's own (R11, R310). -/
def applyHoming (s : State) (v st edge : Nat) (q : Rat) : State :=
  let i := valveIx v
  let s := s.setObjs i [(15, st), (16, edge)]
  let y := { s.valve v with count := toSteps q }
  let own : Bool := st == 4 && y.captured.isNone
  s.setValve v (if own then { y with captured := some s.clk.c, since := if switchOn s v then some s.clk.c else none, edge := f32Value edge }
    else y)

/-- A channel takes the mirrored segment, plan and homing state, and its position and speed their corrections (R310). A geared channel's
position and speed are its q and w. -/
def applySlip (s : State) (c : Nat) (b : List Byte) (rec_ : Option (Rat × Rat)) (t : Int) : State :=
  let x := s.slip c
  let here : Rat × Rat := match x.gear with
    | some g => (g.q, g.w)
    | none => ((slipAt x t).1, (slipAt x t).2.1)
  let fl := getLe b 26 1
  let geared := fl.testBit 1
  let rec_ := if x.gear.isSome = geared then rec_ else none
  let q := correctedR here.1 (rec_.map Prod.fst) (f64Value (getLe b 0 8))
  let v := correctedR here.2 (rec_.map Prod.snd) (f64Value (getLe b 8 8))
  let limit : Int := if fl.testBit 2 then 1 else if fl.testBit 3 then -1 else 0
  let y : Slip := { x with target := f64Value (getLe b 16 8), stored := f64Value (getLe b 48 8), off := fl.testBit 0,
                           stop := fl / 16 % 4, limit := limit }
  let home := if 2 ≤ c then getLe b 25 1 else 5
  let s := if 2 ≤ c then applyHoming s (valveOf c) home (getLe b 28 4) q
    else s.setObjs (0x5830 + c) [(12, (getLe b 28 4 : Nat)), (13, (getLe b 56 4 : Nat)),
      (14, if geared then (if fl.testBit 6 then 2 else 1) else 0)]
  if geared then
    let ch : Option Nat := if fl.testBit 6 then some (getLe b 44 4) else none
    let old : Gear := x.gear.getD { w := 0 }
    s.setSlip c { restAt y t y.pos with gear := some { old with w := v, q := q, last := getLe b 32 4, change := ch } }
  else
    let y : Slip := { y with gear := none }
    if planId x = getLe b 36 4 ∧ x.gear.isNone ∧ q = here.1 ∧ v = here.2 then s.setSlip c y
    else if limit ≠ 0 ∨ y.off ∨ (v = 0 ∧ getLe b 24 1 = 0) then s.setSlip c (restAt y t q)
    else
      let segs : List Seg := if 2 ≤ c ∧ home ≠ 5 then homeSegs s c home q v y.target
        else (planFrom (slipPrm s c (decide (y.stop ≠ 0))) (slipSlow s c) 0 q v y.target).1
      let fin : Rat := if 2 ≤ c ∧ within 1 3 home = false ∧ home ≠ 5 then q else y.target
      s.setSlip c { y with segs := segs, origin := t, fin := fin, pos := q, vel := v }

/-- At slot 0 the corrections of the mirror received in the frame before are applied (R310). -/
def slipMirror (s : State) (t : Int) : State :=
  let (l, s) := takeParts s 2
  l.foldl (fun s p =>
    if p.frame = s.frameNo then { s with duplex := { s.duplex with parts := s.duplex.parts ++ [p] } }
    else
      let x := snapOf s p
      [0, 1, 2, 3].foldl (fun s c =>
        applySlip s c (sliceAt p.body (64 * c) 64) (x.map (fun y => y.slips.getD c (0, 0))) t) s) s

/-- One channel at a slot. -/
def slipSlot (t : Int) (s : State) (c : Nat) : State :=
  let s := modeSlot s c t
  let s := if 2 ≤ c then homeSlot s (valveOf c) t else engageSlot s c t
  let s := loopTarget s c t
  let s := match (s.slip c).gear with
    | some g => gearSlot s c g t
    | none => if c = 0 ∧ (s.slip 0).off = false then holdLimits s t else s
  let s := if 2 ≤ c then emitSteps s (valveOf c) t else s
  slipObjects s c t

/-- Sliproad at a slot, ahead of the loops (R228). -/
def execSliproadUpdate (slot : Fin 16) (s : State) : Out :=
  onString s fun s =>
    if s.runs = false then s else
    let t := slotNs s slot
    let s := avenueFrame s
    let s := if slot = 0 then slipMirror s t else s
    let s := profileSlot s t
    let s := releasedTargets s t
    [0, 1, 2, 3].foldl (slipSlot t) s

/-! ### Seal and release (R229) -/

/-- A host or program target written to 0x5810+c:3. -/
def targetWritten (s : State) (c : Nat) : State := s.setSlip c { s.slip c with wrote := some (s.objF (slipIx c) 3) }

/-- A target written to channel c is sealed for the next release. -/
def sealTarget (s : State) (c : Nat) : State :=
  let x := s.slip c
  match x.wrote with
  | some v => s.setSlip c { x with wrote := none, next := some v }
  | none => s

/-- Targets sealed for the next release. -/
def sealTargets (s : State) : State := [0, 1, 2, 3].foldl sealTarget s

/-- Sealed targets enter lane 44 at the output release. -/
def releaseTargets (s : State) : State :=
  [0, 1, 2, 3].foldl (fun s c =>
    let x := s.slip c
    match x.next with
    | some v => releasePush (s.setSlip c { x with next := none }) 44 (.nums [c, (f32Word v : Nat)])
    | none => s) s

end Sys2Proof.Machine
end

