-- ==== Sys2Proof/Machine/Thermal.lean ====
section
/-!
DEFINITION. Temperature sensing, the operational windows, the die-temperature inhibit and throttling (R248 to R261).
Marks (notes/assumptions): DEDUCED 57, 58, 59.
-/
namespace Sys2Proof.Machine

/-- A rational as an I16 object, in the object's unit. -/
def i16Of (q : Rat) : Int := clampI (-32768) 32767 (roundRne q)

/-! ### The sixteen local inputs (R248 to R252) -/

/-- Index of the objects of local input k. -/
def localIx (k : Nat) : Nat := 0x6010 + (k - 1)

/-- The series resistances an input has measured over the last 256 frames (R250). -/
def inputRs (s : State) (k : Nat) : List (Nat × Rat) :=
  (storeGet (fun _ => []) s.therm.rs k).filter (fun p => decide (((s.frameNo : Int) - (p.1 : Int)) % 4294967296 < 256))

/-- The running mean of an input's series resistances, 0 while it holds none. -/
def meanRs (s : State) (k : Nat) : Rat := meanR ((inputRs s k).map Prod.snd)

/-- An input in series-resistance mode 0 takes what the frame measured, if anything; :16 reads the mean (R250). -/
def takeRs (s : State) (k : Nat) (rs : Option Rat) : State :=
  let l := (rs.toList.map (fun q => (s.frameNo, q))) ++ inputRs s k
  let s := s.mapTherm fun t => { t with rs := storePut (fun _ => []) t.rs k l }
  if l = [] then s else s.setObj (localIx k) 16 (clampI 0 65535 (roundRne (meanRs s k)))

/-- Kelvin from the forward-voltage steps of a diode and its series resistance (R249). -/
def diodeKelvin (s : State) (k : Nat) (dv12 rs : Rat) : Rat :=
  1160452 / 100 * (dv12 - 3 * (8 / 1000000) * rs) / ((s.obj (localIx k) 2 : Rat) / 10000 * lnR 4)

/-- 1/T of a thermistor by its model (R251). -/
def ntcInverse (s : State) (k : Nat) (r : Rat) : Rat :=
  let i := localIx k
  if s.obj i 5 = 0 then 1 / (29815 / 100) + lnR (r / s.objF i 6) / s.objF i 7
  else
    let l := lnR r
    s.objF i 8 + s.objF i 9 * l + s.objF i 10 * (l * l * l)

/-- A result of an input: status, raw value and, in status 0, the temperature in 0.0625 °C. -/
structure Sensed where
  st : Nat
  raw : Rat
  t : Rat := 0

/-- Offset trim and range of a result in kelvin (R250 to R252). -/
def inRange (s : State) (k : Nat) (kelvin : Rat) : Sensed :=
  let t := (kelvin - 27315 / 100) * 16 + (s.obj (localIx k) 11 : Rat)
  if t < -880 ∨ 2400 < t then ⟨5, t / 16, 0⟩ else ⟨0, t / 16, t⟩

/-- A diode's frame (R249, R250, R252): readings that show an open or a short measure no series resistance. -/
def senseDiode (s : State) (k : Nat) (v1 v2 v3 : Rat) : Sensed × State :=
  let i := localIx k
  let dv12 := v2 - v1
  let none1 : State := if s.obj i 3 = 0 then takeRs s k none else s
  if 6 / 5 < v3 then (⟨1, v3, 0⟩, none1)
  else if v1 < 1 / 10 ∨ dv12 < 5 / 1000 then (⟨2, v1, 0⟩, none1)
  else if s.obj i 3 = 0 then
    let s := takeRs s k (some (((v3 - v2) - dv12) / (9 * (8 / 1000000))))
    let m := meanRs s k
    if m < 0 ∨ 2000 < m then (⟨3, m, 0⟩, s) else (inRange s k (diodeKelvin s k dv12 m), s)
  else (inRange s k (diodeKelvin s k dv12 (s.obj i 4 : Rat)), s)

/-- A thermistor's frame (R251, R252). -/
def senseNtc (s : State) (k : Nat) (r : Rat) : Sensed :=
  if 2000000 < r then ⟨1, r, 0⟩
  else if r < 50 then ⟨2, r, 0⟩
  else
    let q := ntcInverse s k r
    if q ≤ 0 then ⟨5, r, 0⟩ else inRange s k (1 / q)

/-- An input takes its status, with the events of a fault's onset and of its end (R252). -/
def takeSensed (s : State) (k : Nat) (x : Sensed) : State :=
  let i := localIx k
  let from_ := s.therm.faultFrom.find? (fun p => p.1 == k)
  let s := s.setObj i 15 x.st
  let s := if x.st = 0 then s.setObj i 14 (i16Of x.t) else s
  let drop (s : State) : State := s.mapTherm fun t => { t with faultFrom := t.faultFrom.filter (fun p => p.1 != k) }
  match from_ with
  | none =>
    if x.st = 0 then s
    else raise (s.mapTherm fun t => { t with faultFrom := t.faultFrom ++ [(k, s.frameNo)] }) 0x0901 3
      [d32 k, d8 x.st, dF x.raw]
  | some p =>
    if x.st = 0 then raise (drop s) 0x0902 3 [d32 k, d32 (((s.frameNo : Int) - (p.2 : Int)) % 4294967296)] else s

/-- An input that is off reads 0 with status 4 and writes no event. -/
def inputOff (s : State) (k : Nat) : State :=
  let i := localIx k
  let s := (s.setObj i 14 0).setObj i 15 4
  s.mapTherm fun t => { t with faultFrom := t.faultFrom.filter (fun p => p.1 != k) }

/-- One input on what its excitations gave. -/
def senseInput (s : State) (k : Nat) (x : TempReading) : State :=
  let v (w : BitVec 32) : Rat := f32Value w.toNat
  match s.obj (localIx k) 1 with
  | 1 =>
    let (y, s) := senseDiode s k (v x.v1) (v x.v2) (v x.v3)
    takeSensed s k y
  | 2 => takeSensed s k (senseNtc s k (v x.r))
  | _ => inputOff s k

/-- The inputs of a frame; one that the list does not reach keeps what it had, unless it is off. -/
def senseInputs (s : State) (l : List TempReading) : State :=
  (List.range 16).foldl (fun s j =>
    match l[j]? with
    | some x => senseInput s (j + 1) x
    | none => if s.obj (localIx (j + 1)) 1 = 0 then inputOff s (j + 1) else s) s

/-! ### T_max, T_min and stale cells (R253) -/

/-- The hottest (or coldest) of the configured positions: temperature and position, the lowest position on a tie. -/
def extreme (s : State) (hot : Bool) : Option (Rat × Nat) :=
  (allCells s).foldl (fun m p =>
    let t := (s.cell p.1).temp
    match m with
    | none => some (t, p.1)
    | some (u, q) => if (if hot then decide (u < t) else decide (t < u)) then some (t, p.1) else some (u, q)) none

/-- A cell is stale once its temperature has been held for 0x6030:6 seconds. -/
def staleCell (s : State) (n : Nat) : Bool :=
  let x := s.cell n
  x.tempHeld && decide (s.obj 0x6030 6 * 1000000000 ≤ elapsedNs s.clk x.heldFrom s.clk.c)

/-- Stale cells of the frame, each onset with its event. -/
def sealStale (s : State) : State :=
  let s := (allCells s).foldl (fun s p =>
    let n := p.1
    let now := staleCell s n
    let was := (s.cell n).tempStale
    let s := if now = was then s else s.setCell n { s.cell n with tempStale := now }
    if now ∧ was = false then raise s 0x0905 3 [d16 n] else s) s
  s.setObjBit 0x6000 1 7 ((allCells s).any (fun p => (s.cell p.1).tempStale))

/-- T_max, T_min and their positions. -/
def sealExtremes (s : State) : State :=
  let put (s : State) (sub : Nat) (o : Option (Rat × Nat)) : State :=
    match o with
    | some (t, n) => (s.setObj 0x6001 sub (i16Of t)).setObj 0x6001 (sub + 2) n
    | none => (s.setObj 0x6001 sub 0).setObj 0x6001 (sub + 2) 0
  put (put s 1 (extreme s true)) 2 (extreme s false)

/-! ### Windows (R254) -/

/-- What closes a direction (0 charge, 1 discharge): temperature and position. -/
def windowCause (s : State) (d : Nat) : Option (Rat × Nat) :=
  let lo : Rat := (s.obj 0x6030 (1 + 2 * d) : Rat) * 16
  let hi : Rat := (s.obj 0x6030 (2 + 2 * d) : Rat) * 16
  let cold := (extreme s false).filter (fun p => decide (p.1 < lo))
  let hot := (extreme s true).filter (fun p => decide (hi < p.1))
  let old := if d = 0 then ((allCells s).find? (fun p => (s.cell p.1).tempStale)).map (fun p => ((s.cell p.1).temp, p.1)) else none
  match cold, hot with
  | some p, _ => some p
  | none, some p => some p
  | none, none => old

/-- The condition that reopens a direction. -/
def windowClear (s : State) (d : Nat) : Bool :=
  let h : Rat := (s.obj 0x6030 5 : Rat) * 8 / 5
  let lo : Rat := (s.obj 0x6030 (1 + 2 * d) : Rat) * 16 + h
  let hi : Rat := (s.obj 0x6030 (2 + 2 * d) : Rat) * 16 - h
  let okLo := match extreme s false with | some p => decide (lo ≤ p.1) | none => true
  let okHi := match extreme s true with | some p => decide (p.1 ≤ hi) | none => true
  okLo && okHi && (decide (d = 1) || !(bitOf (s.obj 0x6000 1) 7))

/-- Counter value at which a direction closed. -/
def closedC (s : State) (d : Nat) : Nat := if d = 0 then s.therm.closed.1 else s.therm.closed.2

/-- A direction's window judged on a frame. -/
def sealWindow (s : State) (d : Nat) : State :=
  if bitOf (s.obj 0x6000 1) d then
    if windowClear s d then
      raise (s.setObjBit 0x6000 1 d false) 0x0904 3 [d32 d, d32 (elapsedNs s.clk (closedC s d) s.clk.c / 1000000000)]
    else s
  else match windowCause s d with
    | none => s
    | some (t, n) =>
      let s := s.mapTherm fun x => { x with closed := if d = 0 then (s.clk.c, x.closed.2) else (x.closed.1, s.clk.c) }
      raise (s.setObjBit 0x6000 1 d true) 0x0903 3 [d32 d, d16 (i16Of t), d16 n]

/-! ### Nonvolatile writes and the die (R255, R256) -/

/-- Positions of the capacity commits of a list of requests. -/
def commitPositions (l : List Elem) : List Nat :=
  l.filterMap (fun e => match e with | .nums [6, n] => some n.toNat | _ => none)

/-- The requests of a list that are no capacity commits. -/
def otherCommits (l : List Elem) : List Elem := l.filter (fun e => match e with | .nums [6, _] => false | _ => true)

/-- A transfer that feeds the programming of a bank (R256, R435). -/
def feedsBank (t : Transfer) : Bool := t.write && t.index == 0x2050 && t.sub == 1 && !t.queued

/-- The window of each such transfer is set, 0 to hold it by flow control, and acknowledged with it (R256, R372). -/
def feedWindow (s : State) (w : Nat) : State :=
  let l := s.host.transfers.filter feedsBank
  let s := { s with host := { s.host with
    transfers := s.host.transfers.map (fun t => if feedsBank t then { t with window := w, unacked := 0 } else t) } }
  l.foldl (fun s t => originate s t.chan 0x22 (segAckBytes t.tid 0 w 0 t.acked)) s

/-- A bank or a program area is waiting to be programmed (R256, R333). -/
def programWaits (s : State) : Bool := s.pwr.program.isSome || s.prog.storeDue

/-- The inhibit begins: commits not yet started wait, programming pauses, and the transfer that feeds it is held. -/
def inhibitBegin (s : State) : State :=
  let l := s.lane 43
  let ns := commitPositions (l.elems ++ l.waiting)
  let rest := otherCommits (l.elems ++ l.waiting)
  let s := s.setLane 43 { l with elems := rest.take 16, waiting := rest.drop 16 }
  let s := waitCommits s ns
  let s := ((s.setB 0x6040 2 true).setObjBit 0x6000 1 6 true).bump 0x6040 5
  let s := if s.pwr.program.isSome then s.setObj 0x2050 2 4 else s
  let s := feedWindow (if programWaits s then s.setB 0x6040 4 true else s) 0
  raise s 0x0906 3 [d16 (s.obj 0x6040 1)]

/-- The inhibit ends: queued commits go to lane 43 in position order and programming resumes. -/
def inhibitEnd (s : State) : State :=
  let l := s.therm.waiting
  let s := (s.setB 0x6040 2 false).setObjBit 0x6000 1 6 false
  let s := (s.mapTherm fun t => { t with waiting := [] }).setObj 0x6040 3 0
  let s := l.foldl (fun s (n : Nat) => lanePush s 43 (.nums [6, (n : Int)])) s
  let s := if s.pwr.program.isSome then s.setObj 0x2050 2 2 else s
  let s := feedWindow (s.setB 0x6040 4 false) 8
  raise s 0x0907 3 [d16 l.length, d16 (s.obj 0x6040 1)]

/-- The die temperature of a frame. -/
def sealDie (s : State) : State :=
  let t := s.obj 0x6040 1
  if s.objB 0x6040 2 then (if -352 ≤ t ∧ t ≤ 1392 then inhibitEnd s else s)
  else if t < -400 ∨ 1440 < t then inhibitBegin s else s

/-! ### Throttling (R257 to R261) -/

/-- I_thr, A. -/
def throttleAmps (s : State) : Rat := (s.obj 0x6050 5 : Rat) / 100 * ((s.obj 0x4000 1 : Rat) / 1000)

/-- The throttle state changes: status bits 2 (requested) and 3 (enforced), and a message is due at the next release. -/
def setThrottle (s : State) (st : Nat) : State :=
  let s := (s.setObj 0x6050 8 st).setObjBit 0x6000 1 2 (decide (st = 1 ∨ st = 2))
  let s := s.setObjBit 0x6000 1 3 (decide (st = 2 ∨ st = 3))
  let s := s.mapTherm fun t => { t with message := true }
  if st = 0 then
    (s.mapTherm fun t => { t with grace := none, met := false, graceLeft := 0, above := none, clearFrom := none,
                                  clamp := none, enforce := false, ack := false }).setObj 0x6050 11 0
  else s

/-- The causes whose quantity stands at its limit or above, the limit of each cause in `was` being less by the hysteresis
0x6050:2 (R257). -/
def causesOver (s : State) (was : Int) : Nat :=
  let h : Rat := (s.obj 0x6050 2 : Rat) * 8 / 5
  let hyst (b : Nat) : Rat := if bitOf was b then h else 0
  let c0 : Bool := match extreme s true with
    | some (t, _) => decide ((s.obj 0x6050 1 : Rat) * 16 - hyst 0 ≤ t)
    | none => false
  let c1 : Bool := (List.range 16).any (fun j =>
    let lim := s.obj (0x6010 + j) 12
    decide (lim ≠ 32767) && decide (s.obj (0x6010 + j) 15 = 0) && decide ((lim : Rat) - hyst 1 ≤ (s.obj (0x6010 + j) 14 : Rat)))
  let c2 : Bool := match s.av.conv.temp with
    | some t => decide ((s.obj 0x6050 4 : Rat) * 16 - hyst 2 ≤ (t : Rat) * 16)
    | none => false
  (if c0 then 1 else 0) + (if c1 then 2 else 0) + (if c2 then 4 else 0)

/-- The causes of a frame; one that stood goes on until its quantity is below its limit less the hysteresis. -/
def throttleCauses (s : State) : Nat := causesOver s (s.obj 0x6050 9)

/-- Every quantity is below its limit less the hysteresis, as the clear time asks (R257). -/
def causesClear (s : State) : Bool := causesOver s 7 == 0

/-- Whole seconds of grace left. -/
def graceSecs (s : State) : Int :=
  match s.therm.grace with
  | none => s.obj 0x6050 6
  | some c => clampI 0 65535 (s.obj 0x6050 6 - (elapsedNs s.clk c s.clk.c + 999999999) / 1000000000)

/-- The request in state 1 is judged (R259): met in a frame in which set-point and current are both within I_thr. -/
def sealRequest (s : State) : State :=
  if s.obj 0x6050 8 ≠ 1 then s.setObj 0x6050 11 0 else
  let lim := throttleAmps s
  let i := absR (s.objF 0x3410 3)
  let sp : Rat := match dispatchLoop s with
    | some l => absR (fromFrac (s.loop l).r (yScale s l))
    | none => 0
  let t := s.therm
  if t.met then
    (s.mapTherm fun t => { t with above := if lim < i then some (t.above.getD s.clk.c) else none }).setObj 0x6050 11 t.graceLeft
  else if t.grace.isSome ∧ sp ≤ lim ∧ i ≤ lim then
    let g := graceSecs s
    (s.mapTherm fun t => { t with met := true, graceLeft := g.toNat }).setObj 0x6050 11 g
  else s.setObj 0x6050 11 (graceSecs s)

/-- Throttling at the seal of a frame. -/
def sealThrottle (s : State) : State :=
  let c := throttleCauses s
  let s := s.setObj 0x6050 9 c
  let st := s.obj 0x6050 8
  let s := if causesClear s = false then s.mapTherm fun t => { t with clearFrom := none }
    else if st ≠ 0 then s.mapTherm fun t => { t with clearFrom := some (t.clearFrom.getD s.clk.c) } else s
  let s := if c = 0 then s
    else if st = 0 then
      raise ((setThrottle s 1).bump 0x6050 12) 0x0908 3 [d8 c, d16 (s.obj 0x6001 1), dF (throttleAmps s)]
    else if st = 3 then setThrottle s 2 else s
  sealRequest s

/-- Grace ends with the request not met: enforcement begins with the next frame (R259, R260). -/
def execThrottleGraceExpiry (s : State) : Out :=
  onHost s fun s =>
    if s.obj 0x6050 8 = 1 ∧ s.therm.grace.isSome ∧ s.therm.met = false then
      s.mapTherm fun t => { t with enforce := true }
    else s

/-- |I_S| has stayed above I_thr for 1 s after the request was met (R259). -/
def execThrottleOvercurrentTimeout (s : State) : Out :=
  onHost s fun s =>
    if s.obj 0x6050 8 = 1 ∧ s.therm.met ∧ s.therm.above.isSome then s.mapTherm fun t => { t with enforce := true } else s

/-- Every cause has stayed below its limit for the clear time: a request never enforced ends, an enforced one awaits its
acknowledgement (R257, R261). -/
def execThrottleClearTime (s : State) : Out :=
  onHost s fun s =>
    if s.therm.clearFrom.isNone then s
    else if s.obj 0x6050 8 = 1 then setThrottle s 0
    else if s.obj 0x6050 8 = 2 then
      let secs := elapsedNs s.clk s.therm.enforcedC s.clk.c / 1000000000
      raise ((setThrottle s 3).mapTherm fun t => { t with clearedC := s.clk.c }) 0x090A 3 [d32 secs]
    else s

/-- A write of 1 to 0x6050:10 (R261). -/
def execThrottleAcknowledge (s : State) : Out :=
  onHost s fun s => hostWrite s 0x6050 10 (if s.obj 0x6050 8 = 3 then errOk else errState) fun s =>
    s.mapTherm fun t => { t with ack := true }

/-- Enforcement and acknowledgement take effect at the boundary (R260, R261). -/
def throttleBoundary (s : State) : State :=
  if s.therm.enforce ∧ s.obj 0x6050 8 = 1 then
    let i := absR (s.objF 0x3410 3)
    let lim := throttleAmps s
    let s := (setThrottle s 2).mapTherm fun t =>
      { t with enforce := false, clamp := some (maxR i lim), clampC := s.clk.c, enforcedC := s.clk.c }
    raise (s.setObj 0x6050 11 0) 0x0909 3 [dF i, dF lim]
  else if s.therm.ack then
    if s.obj 0x6050 8 = 3 then
      let secs := elapsedNs s.clk s.therm.clearedC s.clk.c / 1000000000
      raise (setThrottle s 0) 0x090B 3 [d32 secs]
    else s.mapTherm fun t => { t with ack := false }
  else s

/-- The enforced clamp, A: it falls from where it began to I_thr. -/
def throttleClamp (s : State) : Option Rat :=
  s.therm.clamp.map fun q =>
    maxR (throttleAmps s) (q - s.objF 0x6050 7 * ((elapsedNs s.clk s.therm.clampC s.clk.c : Int) : Rat) / 1000000000)

/-- What the windows (code 1) and throttling (code 2) impose on the dispatch loop (R205, R254, R260). -/
def thermalImposed (s : State) : List (Nat × Option Rat × Option Rat) :=
  let zero (b : Nat) : Option Rat := if bitOf (s.obj 0x6000 1) b then some 0 else none
  [(1, zero 0, zero 1), (2, throttleClamp s, throttleClamp s)]

/-! ### The throttle message (R258) -/

/-- A lane element (R391): identifier word, DLC, source and data. -/
def canElem (word dlc src : Nat) (data : List Byte) : Elem :=
  .bytes (leBytes 4 (word : Int) ++ [BitVec.ofNat 8 dlc, BitVec.ofNat 8 (src * 32), 0#8, 0#8] ++ padTo 64 data)

/-- The 8 bytes of the message. -/
def throttleBytes (s : State) : List Byte :=
  d8 (s.obj 0x6050 8) ++ d8 (s.obj 0x6050 9)
    ++ leBytes 2 (i16Of ((match extreme s true with | some (t, _) => t | none => 0) * 5 / 8))
    ++ leBytes 2 (clampI 0 65535 (roundRne (throttleAmps s * 10)))
    ++ d8 (clampI 0 255 (s.obj 0x6050 11)) ++ d8 (s.therm.msgCount % 256 : Nat)

/-- Grace begins with the release after the request was raised, and a message that is due goes to lane 9 (R258, R259). -/
def releaseThrottle (s : State) : State :=
  let s := if s.obj 0x6050 8 = 1 ∧ s.therm.grace.isNone ∧ s.therm.met = false then
      s.mapTherm fun t => { t with grace := some s.clk.c } else s
  if s.therm.message = false then s else
  let word := s.objN 0x6070 1 + (if s.obj 0x6070 2 = 1 then 536870912 else 0)
  let e := canElem word 8 3 (throttleBytes s)
  let s := s.mapTherm fun t => { t with message := false, msgCount := t.msgCount + 1, msgC := s.clk.c }
  if s.drivesAll then lanePush s 9 e else s

/-- The message period ends between changes of state (R258). -/
def execThrottleMessagePeriod (s : State) : Out :=
  onHost s fun s => if s.obj 0x6050 8 ≠ 0 then s.mapTherm fun t => { t with message := true } else s

end Sys2Proof.Machine
end

