-- ==== Sys2Proof/Machine/Footbridge.lean ====
section
/-!
DEFINITION. The blocks of Footbridge: heartbeat (R303), output vector (R307), mirror (R306, R308) and the corrections of the
estimator and of the thermal state at the seal (R310). Layouts the spec leaves inside a field are the model's own.
Marks (notes/assumptions): DEDUCED 75; DESIGN CHOICE 70, 74, 76.
-/
namespace Sys2Proof.Machine

/-! ### Lanes and versions -/

/-- Footbridge lane k is up. -/
def fbUp (s : State) (k : Nat) : Bool := bitOf (s.obj 0x7008 1) k

/-- A block leaves on a lane that is up: L2 for lane 0, L3 for lane 1 (R302). -/
def fbSend (s : State) (k : Nat) (b : List Byte) : State := if fbUp s k then s.send (2 + k) b else s

/-- A block whose CRC fails is counted (R302). -/
def fbBad (s : State) (k : Nat) : State := s.bump 0x7008 (2 + k)

/-- The mirror format version of the image booted (R433). -/
def mirrorVersion (s : State) : Nat :=
  let b := if s.obj 0x2050 3 = 1 then s.pwr.bank1 else s.pwr.bank0
  if b.factory then (Config.perCard 4294967300).toNat % 256 else getLe b.image 28 1

/-! ### Heartbeat (R303) -/

/-- Missing units of frame n − 1, 4 bits per ring, saturating at 15. -/
def missingWord (s : State) : Nat :=
  ((List.range 4).map (fun r =>
    let m := (s.ring r).miss
    if frameReached (m.1 + 1) s.frameNo then (min 15 m.2) * 16 ^ r else 0)).sum

/-- The adoption has its pull behind it. -/
def pullDone (s : State) : Bool := decide (s.obj 0x7009 1 = 2) || decide (s.obj 0x7009 1 = 3)

/-- The 32 bytes of a heartbeat. -/
def beatBytes (s : State) : List Byte :=
  let b2 : Nat := s.role.toNat % 16 + (if s.obj 0x7001 1 = 1 then 16 else 0) + (if s.duplex.yield.isSome then 32 else 0)
    + (if pullDone s then 64 else 0)
  let b := leBytes 2 (0xF0B0 : Nat) ++ [BitVec.ofNat 8 b2, BitVec.ofNat 8 (selfFaults s)] ++ leBytes 4 (s.frameNo : Nat)
    ++ leBytes 4 (s.obj 0x5620 1) ++ leBytes 4 (s.obj 0x5620 2)
    ++ [BitVec.ofNat 8 (tfCode s), BitVec.ofNat 8 (mirrorVersion s), BitVec.ofInt 8 (s.obj 0x2040 1), 1#8]
    ++ leBytes 4 (s.duplex.mirrorIn : Nat) ++ leBytes 2 (missingWord s : Nat) ++ leBytes 1 (s.obj 0x7006 2) ++ [0#8]
  b ++ leBytes 4 (crc32c b : Nat)

/-- What a heartbeat carries. -/
def parseBeat (b : List Byte) : Beat :=
  let f := getLe b 2 1
  { role := f % 16, slot := f / 16 % 2, yield := f.testBit 5, pulled := f.testBit 6,
    faults := getLe b 3 1, epoch := getLe b 8 4, inForce := getLe b 12 4, missing := getLe b 24 2, disagree := getLe b 26 1 }

/-! ### The output vector (R307) -/

/-- A value of the converter fields recorded after slot j_s. -/
def snapConv (s : State) (k : Nat) : Int := match s.duplex.snap with | some x => x.conv.getD k 0 | none => 0

/-- The 252 bytes of the output vector. -/
def outputVector (s : State) : List Byte :=
  let bal := (List.range 40).flatMap (fun k => leBytes 4 (if slotUsed s k then (balWord (s.wire k).balNext : Nat) else 0 : Nat))
  let valve (v : Nat) : List Byte := leBytes 4 (toSteps ((s.slip (v + 2)).next.getD (s.slip (v + 2)).target))
  let ctl : Int := snapConv s 3 + 2 * snapConv s 4
  let b := leBytes 4 (snapConv s 0) ++ leBytes 2 (snapConv s 1) ++ leBytes 2 (snapConv s 2) ++ leBytes 1 ctl
    ++ leBytes 1 (s.obj 0x6880 1) ++ [0#8, 0#8] ++ bal ++ valve 0 ++ valve 1
    ++ (List.range 8).map (fun f => BitVec.ofNat 8 (fanSpeed s f)) ++ leBytes 4 (crc32c s.prog.outVec : Nat)
    ++ List.replicate 56 0#8
  b ++ leBytes 4 (crc32c b : Nat)

/-! ### The split part (R308) -/

/-- A part: header, content and its own CRC. -/
def partBytes (kind index : Nat) (body : List Byte) : List Byte :=
  let b := [BitVec.ofNat 8 kind, BitVec.ofNat 8 index] ++ leBytes 2 (body.length : Int) ++ body
  b ++ leBytes 4 (crc32c b : Nat)

/-- A covariance as a cell record carries it, and as the filter keeps it, 10^-24 (R138, R308). -/
def covOut (v : Int) : Rat := (v : Rat) / 1000000000000000000000000

/-- A cell record of 64 bytes. -/
def cellMirror (s : State) (n : Nat) : List Byte :=
  if s.cellCount < n then List.replicate 64 0#8 else
  let x := s.cell n
  leBytes 8 x.z ++ leBytes 8 x.zd ++ leBytes 4 (f32Word x.p : Nat)
    ++ [x.zva, x.zvb, x.vaa, x.vab, x.vbb].flatMap (fun v => leBytes 4 (f32Word (covOut v) : Nat)) ++ leBytes 4 (f32Word x.d : Nat)
    ++ leBytes 2 (x.s : Int) ++ leBytes 2 x.stat ++ leBytes 4 ((x.restNs.getD 0) / 1000000000) ++ leBytes 4 (x.sinceNs / 1000000000)
    ++ leBytes 4 (s.obj 0x4610 n) ++ leBytes 4 (s.obj 0x4108 n)

/-- The reductions of k_max. -/
def kLowBytes (s : State) : List Byte := (List.range 40).map (fun k => BitVec.ofNat 8 (s.wire k).kLow)

/-- `count` cell records from position `first`. -/
def sliceBytes (s : State) (first count : Nat) : List Byte := (List.range count).flatMap (fun k => cellMirror s (first + k))

/-- The slice of a frame: 36 cells and the reductions; with one lane up, 18 cells, which index 32 and above names. -/
def estPart (s : State) (frame : Nat) (both : Bool) : Nat × List Byte :=
  if both then (frame % 16, sliceBytes s (36 * (frame % 16) + 1) 36 ++ kLowBytes s)
  else (32 + frame % 32, sliceBytes s (18 * (frame % 32) + 1) 18)

/-- The thermal part: R265's states, the clamp and the times that run, as durations. -/
def thermPart (s : State) : List Byte :=
  let t := s.therm
  let ms (c : Nat) : Int := clampI 0 4294967295 (elapsedNs s.clk c s.clk.c / 1000000)
  let fl : Nat := (if t.clamp.isSome then 1 else 0) + (if t.met then 2 else 0) + (if t.takeP0 then 4 else 0)
    + (if t.grace.isSome then 8 else 0) + (if t.shutDue.isSome then 16 else 0)
  leBytes 2 (s.obj 0x6000 1) ++ leBytes 1 (s.obj 0x6050 8) ++ leBytes 1 (s.obj 0x6050 9) ++ leBytes 2 (s.obj 0x6050 11)
    ++ leBytes 1 (s.obj 0x6060 6) ++ leBytes 1 (s.obj 0x6060 7) ++ leBytes 4 (f32Word ((throttleClamp s).getD 0) : Nat)
    ++ [BitVec.ofNat 8 fl, BitVec.ofNat 8 t.reached] ++ leBytes 2 (t.zero : Int) ++ leBytes 4 (t.shutDue.getD 0 : Nat)
    ++ leBytes 4 (ms t.shutC) ++ leBytes 4 (ms t.stepC) ++ leBytes 4 (match t.grace with | some c => ms c | none => 0)

/-- The retained pages a mirror carries: `room` − 1 changed ones in page order and one in rotation. -/
def mirrorPages (s : State) (room : Nat) : List Nat :=
  let n := s.prog.retained.length / 128
  let changed := (s.prog.dirty.filter (fun k => decide (k < n))).take (room - 1)
  if n = 0 then [] else changed ++ [s.duplex.mirrorSeq % n]

/-- The split part of each lane (R308). -/
def splitParts2 (s : State) (frame : Nat) (pages : List Nat) : List Byte × List Byte :=
  let both := fbUp s 0 && fbUp s 1
  let ctl := match s.duplex.snap with
    | some x => partBytes 1 0 (avenuePart s x) ++ partBytes 2 0 (slipPart s x)
    | none => []
  let therm := partBytes 3 0 (thermPart s)
  let e := estPart s frame both
  let est := partBytes 4 e.1 e.2
  let page (l : List Nat) : List Byte := if l = [] then [] else partBytes 5 0 (pagePart s.prog.retained l)
  if both then (ctl ++ therm ++ page (pages.take 8), est ++ page (pages.drop 8))
  else
    let all := ctl ++ therm ++ est ++ page pages
    (all, all)

/-! ### Host commands (R305, R306) -/

/-- The number of a writer in a command slot. -/
def originCode : Origin → Nat
  | .eop => 0
  | .service => 1
  | .alley => 2
  | .safety => 3
  | .module => 4

/-- The writer a number names. -/
def originOf (n : Nat) : Origin :=
  match n with
  | 0 => .eop
  | 1 => .service
  | 2 => .alley
  | 3 => .safety
  | _ => .module

/-- A command slot of 64 bytes: a serialised write, or a value taken into the pending set. -/
def slotBytes (staged : Bool) (w : WriteReq) : List Byte :=
  padTo 64 (leBytes 2 (w.index : Int) ++ leBytes 2 (w.sub : Int)
    ++ [BitVec.ofNat 8 ((if staged then 1 else 0) + (if w.locked then 2 else 0) + 16 * originCode w.origin), 0#8]
    ++ leBytes 2 (w.bytes.length : Int) ++ leBytes 12 w.val ++ w.bytes.take 40)

/-- The command of a slot and whether it is a pending value; the flag at the end says that its value does not fit the slot. -/
def parseSlot (b : List Byte) : WriteReq × Bool × Bool :=
  let f := getLe b 4 1
  let n := getLe b 6 2
  (⟨getLe b 0 2, getLe b 2 2, getSle b 8 12, sliceAt b 20 (min n 40), originOf (f / 16), f.testBit 1, 0, 255, 0⟩, f.testBit 0,
    decide (40 < n))

/-- A write that concerns one card alone: the staged image, a switchover request, the clearing of SUSPECT, the card's NOR banks
and its reset (R315, R320, R331, R432, R435). -/
def localWrite (w : WriteReq) : Bool := [0xA010, 0x7003, 0x7005, 0x2050, 0x2060].contains w.index

/-- The common part (R306). -/
def commonPart (s : State) (lane frame split : Nat) (cmds : List (Bool × WriteReq)) : List Byte :=
  let hand := match s.duplex.handover with | some (h, _) => (1, h) | none => (0, 0)
  let h := leBytes 2 (0xF0B1 : Nat) ++ [BitVec.ofNat 8 lane, BitVec.ofNat 8 (mirrorVersion s)] ++ leBytes 4 (s.duplex.mirrorSeq : Int)
    ++ leBytes 4 (frame : Int) ++ leBytes 4 (s.obj 0x5620 1) ++ [BitVec.ofNat 8 (snapSlot s), BitVec.ofNat 8 cmds.length, 0#8, 0#8]
    ++ leBytes 4 (s.duplex.batchSeq : Int) ++ leBytes 4 (s.obj 0x2020 7) ++ leBytes 4 (crc32c (s.dom 0xA040 0) : Nat)
    ++ leBytes 2 (split : Int) ++ [BitVec.ofNat 8 hand.1, 0#8] ++ leBytes 4 (hand.2 : Nat) ++ List.replicate 20 0#8
  let c := padTo 1024 (cmds.flatMap (fun p => slotBytes p.1 p.2))
  h ++ leBytes 4 (crc32c h : Nat) ++ c ++ leBytes 4 (crc32c c : Nat) ++ outputVector s

/-- Step 10 (R305): the batch closes into the mirror, up to 16 commands, values of the pending set first; the rest wait. A
window 5 that overran sends none, and with no lane up a page stays unsent (R308). -/
def execMirrorSend (s : State) : Out :=
  onHost s fun s =>
    if s.pairOn = false ∨ s.drives = false ∨ windowLate s 5 then s else
    let s := passLane s 4
    let n := (s.frameNo + 4294967295) % 4294967296
    let st := s.duplex.stagedOut.take 16
    let own := s.host.batch.filter localWrite
    let far := s.host.batch.filter (fun w => !localWrite w)
    let sent := far.take (16 - st.length)
    let cmds := st.map (fun w => (true, w)) ++ sent.map (fun w => (false, w))
    let room := if fbUp s 0 && fbUp s 1 then 12 else 4
    let pages := mirrorPages s room
    let s := { s with
      duplex := { s.duplex with mirrorSeq := (s.duplex.mirrorSeq + 1) % 4294967296
                                batchSeq := (s.duplex.batchSeq + 1) % 4294967296
                                stagedOut := s.duplex.stagedOut.drop 16
                                carriedStaged := s.duplex.carriedStaged ++ st
                                carried := s.duplex.carried ++ own ++ sent }
      host := { s.host with batch := far.drop (16 - st.length) } }
    let s := s.setObj 0x7008 5 s.duplex.mirrorSeq
    let (p0, p1) := splitParts2 s n pages
    let s := fbSend (fbSend s 0 (commonPart s 0 n p0.length cmds ++ p0)) 1 (commonPart s 1 n p1.length cmds ++ p1)
    if s.obj 0x7008 1 = 0 then s else s.mapProg fun p => { p with dirty := p.dirty.filter (fun k => !(pages.contains k)) }

/-! ### Corrections at the seal (R310) -/

/-- In a pair a card keeps its own estimator slice of the frame it seals. -/
def sealMirror (s : State) : State :=
  if s.pairOn = false then s else
  let f := s.cells.imageFrame
  let own := (f, (estPart s f true).2 ++ (estPart s f false).2)
  { s with duplex := { s.duplex with sealed := (own :: s.duplex.sealed.filter (fun p => p.1 != f)).take 4 } }

/-- A cell takes its record: numeric fields their corrections, the status word and what was not recorded as mirrored. -/
def applyCell (s : State) (n : Nat) (m : List Byte) (own : Option (List Byte)) : State :=
  if s.cellCount < n then s else
  let x := s.cell n
  let int (o w : Nat) (now : Int) : Int := corrected now (own.map (fun r => getSle r o w)) (getSle m o w)
  let nat (o w : Nat) (now : Int) : Int :=
    clampI 0 (((2 ^ (8 * w) : Nat) : Int) - 1) (corrected now (own.map (fun r => (getLe r o w : Int))) (getLe m o w : Nat))
  let flt (o : Nat) (now : Rat) : Rat :=
    let v := f32Value (getLe m o 4)
    maxR 0 (match own with | some r => now + (v - f32Value (getLe r o 4)) | none => v)
  let cov (o : Nat) (now : Int) : Int :=
    let v := f32Value (getLe m o 4)
    let u : Rat := match own with | some r => covOut now + (v - f32Value (getLe r o 4)) | none => v
    roundRne (u * 1000000000000000000000000)
  let rest := nat 48 4 ((x.restNs.getD 0) / 1000000000)
  let x := { x with z := int 0 8 x.z, zd := int 8 8 x.zd, p := flt 16 x.p, d := flt 40 x.d,
                    zva := cov 20 x.zva, zvb := cov 24 x.zvb, vaa := cov 28 x.vaa, vab := cov 32 x.vab, vbb := cov 36 x.vbb, s := (nat 44 2 x.s).toNat,
                    stat := (getLe m 46 2 : Nat), est := x.est || decide (getLe m 46 2 ≠ 32768),
                    restNs := if rest = 0 ∧ x.restNs.isNone then none else some (rest * 1000000000 + (x.restNs.getD 0) % 1000000000),
                    sinceNs := nat 52 4 (x.sinceNs / 1000000000) * 1000000000 + x.sinceNs % 1000000000 }
  ((s.setCell n x).setObj 0x4610 n (nat 56 4 (s.obj 0x4610 n))).setObj 0x4108 n (nat 60 4 (s.obj 0x4108 n))

/-- A slice is applied. -/
def applyEst (s : State) (p : MirPart) : State :=
  let half := decide (32 ≤ p.index)
  let first := if half then 18 * (p.index - 32) + 1 else 36 * p.index + 1
  let count := if half then 18 else 36
  let own := (s.duplex.sealed.find? (fun q => q.1 == p.named)).map (fun q => if half then q.2.drop 2344 else q.2)
  let s := (List.range count).foldl (fun s k =>
    applyCell s (first + k) (sliceAt p.body (64 * k) 64) (own.map (fun o => sliceAt o (64 * k) 64))) s
  if half then s else
  (List.range 40).foldl (fun s k =>
    if slotUsed s k then s.setWire k { s.wire k with kLow := getLe p.body (2304 + k) 1 } else s) s

/-- A shutdown step taken from the mirror has that step's effect on the card's own outputs (R262, R265): from step 2 on its
commands clear enable and ask for standby, at step 3 its drivers open; once the shutdown is reset they are free again. `ran` and
`step` are the card's own before. -/
def applyShutdown (s : State) (ran : Bool) (step : Int) : State :=
  let now := bitOf (s.obj 0x6000 1) 4
  let new := s.obj 0x6060 6
  let conv (s : State) (b : Bool) : State :=
    ({ s with av := { s.av with conv := { s.av.conv with off := b } } }).mapCon fun c => { c with standby := b }
  if now ∧ 2 ≤ new then
    let s := if 3 ≤ new ∧ step < 3 then openDrivers s else s
    if ran ∧ 2 ≤ step then s else conv s true
  else if now = false ∧ ran then conv s false
  else s

/-- The thermal state is replaced; the die-temperature inhibit stays the card's own (R265, R310). -/
def applyTherm (s : State) (b : List Byte) : State :=
  let ran := bitOf (s.obj 0x6000 1) 4
  let step := s.obj 0x6060 6
  let back (o : Nat) : Nat := s.clk.c - getLe b o 4 * 250000
  let fl := getLe b 12 1
  let s := s.setObj 0x6000 1 (setBit (getLe b 0 2 : Nat) 6 (bitOf (s.obj 0x6000 1) 6))
  let s := (s.setObjs 0x6050 [(8, getLe b 2 1), (9, getLe b 3 1), (11, getLe b 4 2)]).setObjs 0x6060
    [(6, getLe b 6 1), (7, getLe b 7 1)]
  let s := applyShutdown s ran step
  s.mapTherm fun t => { t with
    clamp := if fl.testBit 0 then some (f32Value (getLe b 8 4)) else none
    clampC := s.clk.c
    met := fl.testBit 1, takeP0 := fl.testBit 2
    grace := if fl.testBit 3 then some (back 28) else none
    graceLeft := getLe b 4 2
    shutDue := if fl.testBit 4 then some (getLe b 16 4) else none
    reached := getLe b 13 1, zero := getLe b 14 2, shutC := back 20, stepC := back 24 }

/-- The corrections of the estimator and of the thermal state, at the card's next seal (R310). -/
def mirrorAtSeal (s : State) : State :=
  let (l4, s) := takeParts s 4
  let (l3, s) := takeParts s 3
  l3.foldl (fun s p => applyTherm s p.body) (l4.foldl applyEst s)

end Sys2Proof.Machine
end

