-- ==== Sys2Proof/Machine/Duplex.lean ====
section
/-!
DEFINITION. The duplex pair (R298 to R321, R325): lanes, heartbeats, comparison, arbitration, takeover, planned switchover.
Marks (notes/assumptions): DEDUCED 71, 72, 73, 75, 108; DESIGN CHOICE 20, 69, 70.
-/
namespace Sys2Proof.Machine

/-- Changes the pair. -/
def State.mapDup (s : State) (f : Duplex → Duplex) : State := { s with duplex := f s.duplex }

/-! ### Adoption (R322, R323, R325) -/

/-- The card becomes SHADOW and pulls (R315, R322). -/
def startPull (s : State) (cause : Int) : State :=
  let s := setRole s 1 cause
  let s := s.mapDup fun d => { d with
    pullHead := none, pull := [], kept := [], pullC := s.clk.c, broken := 0, restarts := 0, listen := none,
    waitActive := false, mirrorSeen := false, arbitrate := none, handover := none }
  s.setObjs 0x7009 [(1, 1), (2, 0), (3, 0)]

/-- The listen begins (R322). -/
def startListen (s : State) : State :=
  s.mapDup fun d => { d with listen := some (s.objN 0x7000 6), partnerListens := false, waitActive := false }

/-! ### Takeover (R316 to R318) -/

/-- The card takes over (R316 to R318). Triggers: 1 heartbeat, 2 yield, 3 arbitration, 4 planned. -/
def takeover (s : State) (trigger : Int) : State :=
  let age := beatAge s
  let s := takeEpoch s
  let from_ : Option Nat := if trigger = 4 then none else s.duplex.beatFrame.map (fun n => (n + 3) % 4294967296)
  let s := s.mapDup fun d => { d with exclusive := from_, arbitrate := none, yield := none, halted := false, handover := none }
  let s := setRole s 3 (if trigger = 4 then 5 else 3)
  let s := ((s.bump 0x700A 1).setObj 0x700A 2 trigger).setObj 0x700A 3 s.prog.dirty.length
  raiseDup s 0x0B04 [d8 trigger, d32 (s.obj 0x5620 1), d8 age]

/-- A SHADOW card has its pull behind it. -/
def adopted (s : State) : Bool := decide (s.role = 1) && pullDone s

/-- The ACTIVE card sets yield (R316). -/
def setYield (s : State) : State :=
  if s.duplex.yield.isSome then s else
  raiseDup (s.mapDup fun d => { d with yield := some s.frameNo }) 0x0B10 [d8 (selfFaults s), d8 (s.obj 0x7002 1)]

/-- The conditions of R316 under which an ACTIVE card sets yield of itself. -/
def yieldCheck (s : State) : State :=
  let f := selfFaults s
  let p := s.duplex.beat
  let ready := decide (p.role = 2) || decide (p.role = 4) || (decide (p.role = 1) && p.pulled)
  if s.pairOn ∧ s.role = 3 ∧ partnerHeard s ∧ f ≠ 0 ∧
      ((f.testBit 4 ∧ ready) ∨ (maskDiff f 16 ≠ 0 ∧ p.role = 2 ∧ p.faults = 0)) then setYield s else s

/-! ### Heartbeats (R303, R304) -/

/-- Sends the heartbeat of the frame, which AC3 armed in the frame before (R303). -/
def execHeartbeatSend (s : State) : Out :=
  onHost s fun s =>
    if s.pairOn = false ∨ s.duplex.armed = false then s else
    let s := yieldCheck (s.mapDup fun d => { d with armed := false })
    let b := beatBytes s
    let s := s.mapDup fun d => { d with sentMap := (s.frameNo, getLe b 3 1) }
    fbSend (fbSend s 0 b) 1 b

/-- What the partner's heartbeat differs in: 1 T_F, 2 mirror format, 3 life-cycle state, 4 duplex mode, with both values
(R304). -/
def beatDiff (s : State) (b : List Byte) : Option (Nat × Int × Int) :=
  ([(1, (tfCode s : Int), (getLe b 16 1 : Int)), (2, (mirrorVersion s : Int), (getLe b 17 1 : Int)),
    (3, s.obj 0x2040 1, (getLe b 18 1 : Int)), (4, 1, (getLe b 19 1 : Int))] : List (Nat × Int × Int)).find? (fun p => p.2.1 != p.2.2)

/-- A difference: the card that is not ACTIVE becomes OFFLINE (R304). -/
def beatMismatch (s : State) (d : Nat × Int × Int) : State :=
  let first := !s.duplex.mismatch
  let s := s.mapDup fun x => { x with matched := 0 }
  if s.role = 3 ∨ first = false then s else
  let s := s.mapDup fun x => { x with mismatch := true, listen := none, waitActive := false }
  setRole (raiseDup s 0x0B0F [d32 d.1, d32 d.2.1, d32 d.2.2]) 0 9

/-- No difference: after 64 such heartbeats a card OFFLINE for one starts again (R304). Whether a difference still counts. -/
def beatMatch (s : State) : Bool × State :=
  if s.duplex.mismatch = false then (false, s) else
  let n := s.duplex.matched + 1
  if n < 64 then (true, s.mapDup fun x => { x with matched := n })
  else (false, startListen (s.mapDup fun x => { x with matched := 0, mismatch := false }))

/-- The map its own heartbeat of this frame has carried (R314); of a card that has sent none, the map as it stands. -/
def ownMap (s : State) : Nat := if s.duplex.sentMap.1 = s.frameNo then s.duplex.sentMap.2 else selfFaults s

/-- Units missing here that the partner's heartbeat does not report, ring by ring (R313 bit 1). -/
def ringFault (s : State) (missing : Nat) : State :=
  let bad (r : Nat) : Bool :=
    let m := (s.ring r).miss
    decide ((m.1 + 1) % 4294967296 = s.frameNo) && decide (missing / 16 ^ r % 16 < min 15 m.2)
  s.mapDup fun d => { d with ringBad := (List.range 4).map (fun r => if bad r then d.ringBad.getD r 0 + 1 else 0) }

/-- The outcome of arbitration (R314): 1 the ACTIVE yields, 2 the STANDBY becomes SUSPECT, 3 so too and the disagreement stays
raised. -/
def arbOutcome (active standby : Nat) : Nat :=
  if active ≠ 0 ∧ standby = 0 then 1 else if active = 0 ∧ standby ≠ 0 then 2 else 3

/-- A frame after the start of arbitration has come. -/
def arbDue (s : State) : Bool :=
  match s.duplex.arbitrate with
  | some n => frameReached s.frameNo ((n + 1) % 4294967296)
  | none => false

/-- Arbitration on the STANDBY card, in the frame after it started. -/
def arbStandby (s : State) : State :=
  let a := s.duplex.beat.faults
  let b := ownMap s
  let o := arbOutcome a b
  let s := raiseDup (s.mapDup fun d => { d with arbitrate := none }) 0x0B06 [d32 o, d8 a, d8 b]
  if o = 1 then takeover s 3 else
  let s := setRole s 4 4
  if o = 3 then s.setB 0x7006 4 true else s

/-- Arbitration on the ACTIVE card: the STANDBY's heartbeat reports K disagreement frames. -/
def arbActive (s : State) : State :=
  let p := s.duplex.beat
  if p.role = 2 ∧ s.obj 0x7000 4 ≤ (p.disagree : Int) then
    if s.duplex.arbDone then s
    else if s.duplex.arbitrate.isNone then
      s.mapDup fun d => { d with arbitrate := some s.frameNo, arbDone := true }
    else s
  else s.mapDup fun d => { d with arbDone := false }

/-- The ACTIVE card decides by the maps of the heartbeats in which it first sees the report. -/
def arbDecide (s : State) : State :=
  if s.duplex.arbitrate.isNone then s else
  let a := ownMap s
  let b := s.duplex.beat.faults
  let o := arbOutcome a b
  let s := raiseDup (s.mapDup fun d => { d with arbitrate := none }) 0x0B06 [d32 o, d8 a, d8 b]
  if o = 1 then setYield s else if o = 3 then s.setB 0x7006 4 true else s

/-! ### Planned switchover (R320, R321) -/

/-- Why a planned switchover is refused: 1 partner not STANDBY, 2 a self-fault, 3 no lane up, 4 a trip latched; 0 accepted. -/
def switchRefusal (s : State) : Nat :=
  if s.pairOn = false ∨ s.role ≠ 3 ∨ partnerHeard s = false ∨ s.duplex.beat.role ≠ 2 then 1
  else if selfFaults s ≠ 0 ∨ s.duplex.beat.faults ≠ 0 then 2
  else if s.obj 0x7008 1 = 0 then 3
  else if s.obj 0x6801 0 ≠ 0 ∨ s.safe.bol.partnerIn then 4
  else 0

/-- The handover frame is named in the mirror of this frame (R320). Causes: 1 host, 2 auto-return. -/
def planSwitch (s : State) (cause : Nat) : State :=
  let h := (s.frameNo + 8) % 4294967296
  raiseDup (s.mapDup fun d => { d with handover := some (h, cause) }) 0x0B07 [d32 h, d32 cause]

/-- A write of 1 to 0x7003:0 (R320). -/
def execSwitchoverRequest (s : State) : Out :=
  onHost s fun s =>
    let e := switchRefusal s
    if e ≠ 0 then settle (raiseDup s 0x0B08 [d32 e]) 0x7003 0 errState
    else hostWrite s 0x7003 0 errOk fun s => if s.duplex.handover.isSome then s else planSwitch s 1

/-! ### A heartbeat arrives -/

/-- The partner asks for a return (R321): a STANDBY in the preferred slot whose heartbeats have reported no disagreement for 0x7000:5
frames. R303 gives the request no bit of its own, so the ACTIVE card reads it from the run of byte 26, which counts what 0x7006:1 of
the partner counts (DESIGN CHOICE 70). -/
def asksReturn (s : State) : Bool :=
  decide (s.duplex.beat.role = 2) && s.objB 0x7000 3 && decide (s.obj 0x7000 2 = s.duplex.beat.slot)
    && decide (s.obj 0x7000 5 ≤ (s.duplex.agreeRun : Int))

/-- The partner is ACTIVE with an epoch above the card's own (R319). -/
def outranked (s : State) (p : Beat) : Bool := decide (p.role = 3) && decide (s.objN 0x5620 1 < p.epoch)

/-- What the card that is ACTIVE makes of a heartbeat (R314, R316, R319, R321). -/
def beatActive (s : State) : State :=
  if outranked s s.duplex.beat then stopDriving s else
  let s := arbDecide (arbActive s)
  let s := yieldCheck s
  if asksReturn s ∧ s.duplex.handover.isNone ∧ switchRefusal s = 0 then planSwitch s 2 else s

/-- What a card that is not ACTIVE makes of it (R314, R316, R322). -/
def beatOther (s : State) : State :=
  let p := s.duplex.beat
  let r := s.role
  if p.role = 3 ∧ p.yield ∧ (r = 2 ∨ (p.faults.testBit 4 ∧ (r = 4 ∨ adopted s))) then takeover s 2
  else if r = 2 ∧ arbDue s then arbStandby s
  else if r = 0 ∧ p.role = 3 ∧ s.obj 0x7009 1 ≠ 4 then
    let (t, s) := s.draw
    let fw : Int := (Config.freeBits t % 65536 : Nat)
    let s := (startPull s 2).setObj 0x7002 2 fw
    raiseDup s 0x0B02 [d8 p.slot, d8 p.role, d16 fw]
  else if r = 0 ∧ p.role = 0 ∧ s.duplex.listen.isSome then s.mapDup fun d => { d with partnerListens := true }
  else s

/-- A heartbeat is compared (R304): whether the card is OFFLINE for a difference after it. -/
def beatCompare (s : State) (b : List Byte) : Bool × State :=
  match beatDiff s b with
  | some d => let s := beatMismatch s d; (s.duplex.mismatch, s)
  | none => beatMatch s

/-- A heartbeat counts (R303). -/
def countBeat (s : State) (b : List Byte) : State :=
  let p := parseBeat b
  let agrees := decide (p.disagree = 0) && (decide (p.role = 2) || (decide (p.role = 1) && p.pulled))
  let s := s.mapDup fun d => { d with beatFrame := some s.frameNo, beat := p, missing := 0, misaligned := 0,
                                      agreeRun := if agrees then d.agreeRun + 1 else 0 }
  let s := ringFault ((s.setObj 0x7002 1 p.role).setObj 0x7007 2 p.faults) p.missing
  let (off, s) := beatCompare s b
  if s.role = 3 then beatActive s else if off then s else beatOther s

/-- A misaligned heartbeat is counted, once for both lanes (R303). It is compared all the same, so a partner of another T_F takes the
card that is not ACTIVE OFFLINE (R304, R322); an ACTIVE one with the higher epoch stops this card's driving (R319). -/
def strayBeat (s : State) (n : Nat) (b : List Byte) : State :=
  if s.duplex.misSeen = some n then s else
  let s := (beatCompare (s.mapDup fun d => { d with misSeen := some n, misaligned := d.misaligned + 1 }) b).2
  if s.role = 3 ∧ outranked s (parseBeat b) then stopDriving s else s

/-- The partner's heartbeat arrives on a lane (R303): one that fails its CRC is counted and dropped; one of another frame or out
of time is misaligned. -/
def execHeartbeatReceived (lane : Fin 2) (bytes : List Byte) (s : State) : Out :=
  onHost s fun s =>
    if s.pairOn = false then s
    else if bytes.length ≠ 32 ∨ crc32c (bytes.take 28) ≠ getLe bytes 28 4 then fbBad s lane
    else if getLe bytes 0 2 ≠ 0xF0B0 then s
    else
      let n := getLe bytes 4 4
      let at_ := s.now / 65536 - s.frame.sAt - 3000
      if n = s.frameNo ∧ -(s.tf / 4) ≤ at_ ∧ at_ ≤ s.tf / 4 then
        if s.duplex.beatFrame = some n then s else countBeat s bytes
      else strayBeat s n bytes

/-- None counted by S(n) + 10 µs (R303, R316, R322). -/
def execHeartbeatMissing (s : State) : Out :=
  onHost s fun s =>
    let d := s.duplex
    if s.pairOn = false ∨ d.beatFrame.isNone ∨ d.beatFrame = some s.frameNo then s else
    let s := s.mapDup fun d => { d with missing := d.missing + 1 }
    if s.duplex.missing ≠ 2 then s else
    let s := raiseDup s 0x0B03 [d8 (beatAge s), d8 s.role]
    let s := s.mapDup fun d => { d with yield := if d.halted then d.yield else none, ringBad := [] }
    if s.role = 2 ∨ s.role = 4 ∨ adopted s then takeover s 1
    else if s.duplex.waitActive then startListen s
    else s

/-! ### Lanes (R302, R319, R323) -/

/-- A lane changes: its bit and the event. -/
def setFbLane (s : State) (k : Nat) (up : Bool) : State :=
  raiseDup (s.setObjBit 0x7008 1 k up) 0x0B0D [d32 k, d32 (if up then 1 else 0)]

/-- A lane comes up after 1 ms of symbol alignment (R302). -/
def execFootbridgeLaneUp (lane : Fin 2) (s : State) : Out :=
  onHost s fun s => if s.pairOn = false ∨ fbUp s lane then s else setFbLane s lane true

/-- A pull loses both lanes: it starts again, and after the third time the card is OFFLINE (R323). -/
def breakPull (s : State) : State :=
  let n := s.duplex.broken + 1
  let s := (s.mapDup fun d => { d with broken := n, pullHead := none, pull := [], kept := [] }).setObj 0x7009 2 0
  if n < 3 then s else
  raiseDup (setRole (s.setObj 0x7009 1 4) 0 10) 0x0B0B [d32 1, d32 n]

/-- A lane goes down after 10 µs without alignment (R302). -/
def execFootbridgeLaneDown (lane : Fin 2) (s : State) : Out :=
  onHost s fun s =>
    if s.pairOn = false ∨ fbUp s lane = false then s else
    let s := setFbLane s lane false
    if s.obj 0x7008 1 ≠ 0 then s else
    let s := s.mapDup fun d => { d with serve := none }
    let s := s.mapProg fun p => { p with fwd := p.fwd.map (fun q => (q.1, 0)), fwdIn := none }
    if s.role = 1 ∧ s.obj 0x7009 1 = 1 then breakPull s
    else if s.role = 3 ∧ s.obj 0x5600 7 = 0 then stopDriving s
    else s

/-! ### Comparison (R311, R312, R325) -/

/-- The differences of two output vectors, by item. -/
def vectorDiffs (a b : List Byte) : List Rat :=
  let gap (x y : Int) : Rat := ((if x < y then y - x else x - y : Int) : Rat)
  let word (o n : Nat) : Rat := gap (getLe a o n : Nat) (getLe b o n : Nat)
  let bits (o n : Nat) : Rat := (popCount (8 * n) (getLe a o n ^^^ getLe b o n) : Rat)
  let bal (k : Nat) : Nat × Nat := (getLe a (12 + 4 * k) 4, getLe b (12 + 4 * k) 4)
  let masks : Nat := ((List.range 40).map (fun k => popCount 18 ((bal k).1 % 262144 ^^^ (bal k).2 % 262144))).sum
  let times : Nat := ((List.range 40).filter (fun k => (bal k).1 / 262144 != (bal k).2 / 262144)).length
  let fans := (List.range 8).foldl (fun m k => maxR m (word (180 + k) 1)) 0
  [gap (getSle a 0 4) (getSle b 0 4) / 1000, word 4 2 / 10, word 6 2 / 10, bits 8 1, bits 9 1, (masks : Rat), (times : Rat),
    gap (getSle a 172 4) (getSle b 172 4), gap (getSle a 176 4) (getSle b 176 4), fans,
    if getLe a 188 4 = getLe b 188 4 then 0 else 1]

/-- The items that differ, with the objects 0x7020 + k. -/
def compareVectors (s : State) (a b : List Byte) : Nat × State :=
  let l := vectorDiffs a b
  (List.range 11).foldl (fun (acc : Nat × State) k =>
    let v := l.getD k 0
    let i := 0x7020 + k
    let s := acc.2.setF i 3 v
    if s.objB i 2 ∧ s.objF i 1 < v then (acc.1 + 2 ^ k, s.bump i 4) else (acc.1, s)) (0, s)

/-- A frame agrees or disagrees (R311, R312, R325). -/
def tally (s : State) (dis : Bool) : State :=
  let r := s.role
  if r ≠ 2 ∧ ¬ (r = 1 ∧ s.obj 0x7009 1 = 2) then s else
  let s := if dis then (s.setObj 0x7006 1 0).bumpSat 0x7006 2 255 else (s.bump 0x7006 1).setObj 0x7006 2 0
  if r = 2 then
    if dis ∧ s.obj 0x7006 2 = s.obj 0x7000 4 then
      let s := (s.mapDup fun d => { d with arbitrate := some s.frameNo }).setB 0x7006 4 true
      raiseDup s 0x0B05 [d32 (s.obj 0x7006 3), d8 (s.obj 0x7006 2), d8 s.duplex.beat.faults, d8 (selfFaults s)]
    else s
  else if dis then
    let n := s.duplex.restarts + 1
    let s := (s.mapDup fun d => { d with restarts := n }).setObj 0x7009 3 0
    if 16 ≤ n then setRole s 4 2 else s
  else s.setObj 0x7009 3 (countUp 16 (s.obj 0x7009 3))

/-- The shadow run is complete: the card is STANDBY (R325). -/
def execShadowRunComplete (s : State) : Out :=
  onHost s fun s =>
    if s.pairOn ∧ s.role = 1 ∧ s.obj 0x7009 1 = 2 ∧ s.obj 0x7000 7 ≤ s.obj 0x7009 3 then
      let s := setRole (s.setObj 0x7009 1 3) 2 2
      raiseDup s 0x0B0C [d16 (s.obj 0x7009 3), d32 s.duplex.restarts]
    else s

/-! ### The mirror arrives (R305, R309, R375) -/

/-- The common part of a lane arrived whole. -/
def commonGood (b : List Byte) : Bool :=
  decide (1344 ≤ b.length) && getLe b 0 2 == 0xF0B1 && crc32c (b.take 60) == getLe b 60 4
    && crc32c (sliceAt b 64 1024) == getLe b 1088 4 && crc32c (sliceAt b 1092 248) == getLe b 1340 4

/-- The parts after the common part: each with whether its CRC holds; `n` bounds their number. -/
def splitOf : Nat → List Byte → List (Bool × Nat × Nat × List Byte)
  | 0, _ => []
  | n + 1, b =>
    let len := getLe b 2 2
    if b.length < 8 ∨ b.length < 8 + len then [] else
    let ok := crc32c (b.take (4 + len)) == getLe b (4 + len) 4
    (ok, getLe b 0 1, getLe b 1 1, (b.drop 4).take len) :: splitOf n (b.drop (8 + len))

/-- The parts of a lane are kept for their corrections; bad ones are counted (R309). -/
def takeSplit (s : State) (k : Nat) (b : List Byte) : State :=
  if commonGood b = false then s else
  (splitOf 8 (b.drop 1344)).foldl (fun s p =>
    if p.1 = false then fbBad s k
    else
      let q : MirPart := ⟨p.2.1, p.2.2.1, s.frameNo, getLe b 8 4, p.2.2.2⟩
      s.mapDup fun d => { d with parts := d.parts.filter (fun x => !(x.kind == q.kind && x.kind != 5)) ++ [q] }) s

/-- A mirrored command is serialised here too, or joins the pending set; a value that does not fit its slot is a missed command
(R305, R375). Whether one was missed. -/
def takeCommand (acc : Bool × State) (b : List Byte) : Bool × State :=
  let (miss, s) := acc
  let (w, staged, cut) := parseSlot b
  if cut then (true, s)
  else if staged then
    if w.index = 0x2020 then (miss, discardPending s 1)
    else
      let rest := s.host.pendSet.filter (fun e => !(e.index == w.index && e.sub == w.sub))
      let set := rest ++ [(⟨w.index, w.sub, w.val, w.locked⟩ : PendEntry)]
      let o : Int := match w.origin with | .eop => 1 | .service => 2 | .alley => 3 | _ => 0
      (miss, ({ s with host := { s.host with pendSet := set } }).setObjs 0x2020 [(2, set.length), (3, 1), (4, o)])
  else (miss, { s with host := { s.host with batch := s.host.batch ++ [w] } })

/-- The pages a mirror brought are no longer unsent here (0x700A:3). -/
def pagesSeen (s : State) : State :=
  let ks := (s.duplex.parts.filter (fun p => p.kind == 5)).flatMap (fun p =>
    (List.range (p.body.length / 132)).map (fun k => getLe p.body (132 * k) 2))
  s.mapProg fun p => { p with dirty := p.dirty.filter (fun k => !(ks.contains k)) }

/-- A mirror taken: commands, corrections, gap, configuration CRC, handover, comparison. -/
def takeMirror (s : State) (b : List Byte) : State :=
  let r := s.role
  let seq := getLe b 4 4
  let bat := getLe b 20 4
  let want := (s.duplex.mirrorSeq + 1) % 4294967296
  let gap := s.duplex.mirrorSeen && (decide (seq ≠ want) || decide (bat ≠ (s.duplex.batchSeq + 1) % 4294967296))
  let crc := getLe b 24 4
  let turned : Bool := (s.duplex.mirrorCrc.map (fun c => c != crc)).getD false
  let hand : Option (Nat × Nat) := if getLe b 34 1 = 1 then some (getLe b 36 4, 1) else none
  let s := s.mapDup fun d => { d with mirrorSeq := seq, batchSeq := bat, mirrorSeen := true, mirrorFrame := some (getLe b 8 4),
                                      mirrorCrc := some crc, handover := if r = 2 then hand else d.handover }
  let s := (s.setObj 0x7008 5 seq).mapDup fun d => { d with mirrorIn := seq }
  let (cut, s) := ((List.range (min 16 (getLe b 17 1))).map (fun k => sliceAt b (64 + 64 * k) 64)).foldl takeCommand (false, s)
  if (gap ∨ cut) ∧ (r = 2 ∨ r = 4) then startPull (raiseDup s 0x0B0E [d32 want, d32 seq]) 8
  else if r = 2 ∧ turned ∧ s.host.commit.isNone ∧ (crc : Int) ≠ s.obj 0x2020 7 then startPull s 12
  else if r = 2 ∨ (r = 1 ∧ s.obj 0x7009 1 = 2) then
    if getLe b 8 4 ≠ s.cells.imageFrame then s else
    let (m, s) := compareVectors s (sliceAt b 1092 252) (outputVector s)
    tally (s.setObj 0x7006 3 m) (decide (m ≠ 0))
  else s

/-- A mirror arrives on one lane or both: a block that fails its CRC is counted in every role (R302); the mirror is taken where its
common part is whole on at least one (R309). -/
def execMirrorReceived (lane0 lane1 : List Byte) (s : State) : Out :=
  onHost s fun s =>
    if s.pairOn = false then s else
    let g0 := commonGood lane0
    let g1 := commonGood lane1
    let s := if lane0 ≠ [] ∧ g0 = false then fbBad s 0 else s
    let s := if lane1 ≠ [] ∧ g1 = false then fbBad s 1 else s
    if ¬ (s.role = 1 ∨ s.role = 2 ∨ s.role = 4) then s else
    let s := passLane s 32
    if g0 = false ∧ g1 = false then s else
    let s := pagesSeen (takeSplit (takeSplit s 0 lane0) 1 lane1)
    takeMirror s (if g0 then lane0 else lane1)

/-- No mirror by the end of step 10: counted, and a disagreement frame (R309, R311). -/
def execMirrorMissing (s : State) : Out :=
  onHost s fun s =>
    let n := (s.frameNo + 4294967295) % 4294967296
    if s.pairOn = false ∨ ¬ (s.role = 1 ∨ s.role = 2 ∨ s.role = 4) ∨ s.duplex.mirrorFrame = some n then s
    else tally (s.bump 0x7008 4) true

/-! ### SUSPECT, ECC and the boundary -/

/-- A write of 1 to 0x7005:0 (R315). -/
def execClearSuspect (s : State) : Out :=
  onHost s fun s => hostWrite s 0x7005 0 errOk fun s =>
    let s := s.setB 0x7006 4 false
    if s.pairOn ∧ s.role = 4 then startPull s 7 else s

/-- A SECDED error in Plaza (R313). -/
def execPlazaEccError (corrected : Bool) (s : State) : Out :=
  onHost s fun s =>
    if corrected then
      let l := s.duplex.ecc.filter (fun c => decide (elapsedNs s.clk c s.clk.c ≤ 1000000000))
      s.mapDup fun d => { d with ecc := s.clk.c :: l }
    else s.mapDup fun d => { d with eccHard := true }

/-- The card in the preferred slot, slot A where none is named, is the first to become ACTIVE (R322). -/
def preferred (s : State) : Bool :=
  let p := s.obj 0x7000 2
  decide (s.obj 0x7001 1 = if p = 2 then 0 else p)

/-- The listen ends (R322). -/
def execStartListenEnd (s : State) : Out :=
  onHost s fun s =>
    if s.pairOn = false ∨ s.role ≠ 0 ∨ s.duplex.listen ≠ some 0 then s else
    let wait := s.duplex.partnerListens && partnerHeard s && !preferred s
    let s := s.mapDup fun d => { d with listen := none, waitActive := wait }
    if wait then s else setRole (takeEpoch s) 3 1

/-- What a boundary does to the pair (R303, R316, R318, R320, R322); the frame number is the new one. -/
def duplexBoundary (s : State) : State :=
  if s.pairOn = false then s else
  let n := s.frameNo
  let s := s.mapDup fun d => { d with armed := d.arming, arming := true, listen := d.listen.map (fun k => k - 1),
                                      exclusive := match d.exclusive with
                                        | some m => if frameReached n m then none else some m
                                        | none => none }
  let s := if s.duplex.halted then
      let s := s.mapDup fun d => { d with halted := false, yield := none, yielded := some n }
      setRole s (if partnerHeard s then 2 else 0) 11
    else s
  let s := match s.duplex.yielded with
    | some m =>
      if frameReached n ((m + 16) % 4294967296) then
        let s := s.mapDup fun d => { d with yielded := none }
        if s.role = 2 ∧ selfFaults s ≠ 0 then setRole s 4 11 else s
      else s
    | none => s
  match s.duplex.handover with
  | some (h, _) =>
    if frameReached n h = false then s
    else if s.role = 3 then setRole (s.mapDup fun d => { d with handover := none }) 2 5
    else if s.role = 2 then takeover s 4
    else s.mapDup fun d => { d with handover := none }
  | none => s

end Sys2Proof.Machine
end

