-- ==== Sys2Proof/Machine/Adopt.lean ====
section
/-!
DEFINITION. The bulk blocks of lane 47: the adoption pull (R323, R324) and the program image forwarded to the partner (R331). The
layout inside the items is the model's own.
Marks (notes/assumptions): DEDUCED 78, 79; DESIGN CHOICE 77.
-/
namespace Sys2Proof.Machine

/-! ### The configuration (R323, R375) -/

/-- The class of an object the configuration record holds: every NV and NVS object the host writes (R441, region 4). The same record
is what R306's CRC runs over and what a pull takes in its 512 KiB; the NV objects the module counts or learns stand in other regions
and items. -/
def configRow (k : Nat) : Option ObjRow :=
  match objRow (k / 65536) (k % 65536) with
  | some r => if (r.persist = .nv ∨ r.persist = .nvs) ∧ (r.access = .rw ∨ r.access = .rws ∨ r.access = .wo) then some r else none
  | none => none

/-- The values of the configuration that are not at their defaults. -/
def configObjs (s : State) : List (Nat × Int) := s.objs.filter (fun p => (configRow p.1).isSome)

/-- Its DOMAIN and STR values that are not empty. -/
def configDoms (s : State) : List (Nat × List Byte) := s.doms.filter (fun p => (configRow p.1).isSome)

/-- A byte string behind its length. -/
def blob (b : List Byte) : List Byte := leBytes 4 (b.length : Int) ++ b

/-- The configuration CRC: over every object of the configuration, 0x6890:1 by its derivation and 0x1210:1 among them (R306, R375). -/
def configCrc (s : State) : Nat :=
  crc32c ((configObjs s).flatMap (fun p => leBytes 4 (p.1 : Int) ++ leBytes 12 p.2)
    ++ (configDoms s).flatMap (fun p => leBytes 4 (p.1 : Int) ++ blob p.2) ++ blob s.log.salt ++ blob s.log.derived ++ blob s.host.psk)

/-- The bytes of the configuration: values, DOMAIN values, the safety password derivation, the pre-shared key. -/
def configBytes (s : State) : List Byte :=
  leBytes 4 ((configObjs s).length : Int) ++ (configObjs s).flatMap (fun p => leBytes 4 (p.1 : Int) ++ leBytes 12 p.2)
    ++ leBytes 4 ((configDoms s).length : Int) ++ (configDoms s).flatMap (fun p => leBytes 4 (p.1 : Int) ++ blob p.2)
    ++ blob s.log.salt ++ blob s.log.derived ++ blob s.host.psk

/-! ### What the donor sends (R323) -/

/-- The band parameters of a cell: a mask of the bands fitted and 160 bytes. -/
def bandsOf (x : Cell) : List Byte :=
  let m : Nat := ((List.range 8).map (fun k => if (x.bands.getD k none).isSome then 2 ^ k else 0)).sum
  [BitVec.ofNat 8 m] ++ (List.range 8).flatMap (fun k =>
    match x.bands.getD k none with
    | some b => [b.rs, b.ra, b.ta, b.rb, b.tb].flatMap (fun q => leBytes 4 (f32Word q : Nat))
    | none => List.replicate 20 0#8)

/-- The items of the pull but for the program image. -/
def pullItems (s : State) : List Byte :=
  let ns := (List.range s.cellCount).map (· + 1)
  let ctl := match s.duplex.snap with
    | some x => blob (avenuePart s x) ++ blob (slipPart s x)
    | none => blob [] ++ blob []
  let layout : Nat := match s.prog.image with | some im => im.retCrc | none => 0
  configBytes s ++ leBytes 2 (ns.length : Int)
    ++ ns.flatMap (fun n => leBytes 2 (identDigest (s.objN (0x3100 + slotOf s n) 6) : Nat) ++ cellMirror s n ++ bandsOf (s.cell n))
    ++ ns.flatMap (fun n => cellRecBytes n (s.cell n).sealed)
    ++ ns.flatMap (fun n => leBytes 4 (s.obj 0x4108 n) ++ leBytes 4 (s.obj 0x4109 n))
    ++ leBytes 4 (layout : Int) ++ blob s.prog.retained ++ blob (s.dom 0xA040 0) ++ ctl ++ blob (thermPart s)
    ++ leBytes 1 (s.obj 0xA000 2)

/-- Everything a pull can carry: the length of the items, of the image and its CRC; the items; the image. -/
def pullBytes (s : State) : List Byte :=
  let a := pullItems s
  let (raw, crc) : List Byte × Nat := match s.prog.image with | some im => (im.raw, im.imgCrc) | none => ([], 0)
  leBytes 4 ((12 + a.length : Nat) : Int) ++ leBytes 4 (raw.length : Int) ++ leBytes 4 (crc : Int) ++ a ++ raw

/-- A bulk block: header (kind 0 pull, 1 image; number; length of the whole; seal frame; bytes in this block), 4,064 bytes,
CRC-32C. -/
def bulkBlock (kind k frame : Nat) (all : List Byte) : List Byte :=
  let d := (all.drop (4064 * k)).take 4064
  let b := padTo 32 (leBytes 2 (0xF0B2 : Nat) ++ [BitVec.ofNat 8 kind, 0#8] ++ leBytes 4 (k : Int) ++ leBytes 4 (all.length : Int)
    ++ leBytes 4 (frame : Int) ++ leBytes 2 (d.length : Int)) ++ padTo 4064 d
  b ++ leBytes 4 (crc32c b : Nat)

/-- A block leaves through lane 47: even numbers on lane 0, odd ones on lane 1, all on the lane that is up. -/
def bulkSend (s : State) (k : Nat) (b : List Byte) : State :=
  let l := if fbUp s 0 && fbUp s 1 then k % 2 else if fbUp s 0 then 0 else 1
  laneSend s 47 (2 + l) b

/-- Blocks a frame may carry: 0x7000:8 per 250 µs of frame time. -/
def bulkRate (s : State) : Nat := (s.obj 0x7000 8 * s.tf / 250000).toNat

/-- Blocks sent in this frame. -/
def bulkSent (s : State) : Nat := if s.duplex.served.1 = s.frameNo then s.duplex.served.2 else 0

/-- The donor reads its state whole when a pull begins, and again when it has sent all of it and the partner still pulls. -/
def servePull (s : State) : State :=
  let fresh : Nat × List Byte × Nat := (s.cells.sealFrame.getD s.cells.imageFrame, pullBytes s, 0)
  let (f, b, k) := match s.duplex.serve with
    | some x => if x.2.2 < blocksOf x.2.1.length then x else fresh
    | none => fresh
  let n := bulkSent s + 1
  bulkSend (s.mapDup fun d => { d with serve := some (f, b, k + 1), served := (s.frameNo, n) }) k (bulkBlock 0 k f b)

/-- A bulk block may leave (R323, R331): for a partner that pulls, else of an image being forwarded. -/
def execPullBlockSend (s : State) : Out :=
  onHost s fun s =>
    if s.pairOn = false ∨ s.isActive = false ∨ s.obj 0x7008 1 = 0 ∨ bulkRate s ≤ bulkSent s then s
    else if partnerHeard s ∧ s.duplex.beat.role = 1 ∧ s.duplex.beat.pulled = false then servePull s
    else
      let s := s.mapDup fun d => { d with serve := none }
      match s.prog.fwd with
      | some (b, k) =>
        if (s.obj 0xA011 1 ≠ 2 ∧ s.obj 0xA011 1 ≠ 4) ∨ blocksOf b.length ≤ k then s else
        let n := bulkSent s + 1
        let s := (s.setObj 0xA011 1 4).mapDup fun d => { d with served := (s.frameNo, n) }
        bulkSend (s.mapProg fun p => { p with fwd := some (b, k + 1) }) k (bulkBlock 1 k 0 b)
      | none => s

/-! ### Installation (R323, R324) -/

/-- A byte string behind its length, and what follows it. -/
def unblob (l : List Byte) : List Byte × List Byte :=
  let n := getLe l 0 4
  ((l.drop 4).take n, l.drop (4 + n))

/-- `n` entries of a key and a byte string. -/
def readDoms : Nat → List Byte → List (Nat × List Byte) × List Byte
  | 0, l => ([], l)
  | n + 1, l =>
    let (b, r) := unblob (l.drop 4)
    let (es, r') := readDoms n r
    ((getLe l 0 4, b) :: es, r')

/-- The keys of two lists, rising, each once. -/
def keysOf (a b : List Nat) : List Nat := ((a ++ b).foldl (fun m k => storePut (fun _ => 0) m k 1) ([] : List (Nat × Nat))).map (·.1)

/-- One change-log entry for each safety object that differs (R324). -/
def logPulled (s : State) (objs : List (Nat × Int)) (doms : List (Nat × List Byte)) : State :=
  let nvs (k : Nat) : Option ObjRow := match configRow k with | some r => if r.persist = .nvs then some r else none | none => none
  let s := (keysOf (s.objs.map (·.1)) (objs.map (·.1))).foldl (fun s k =>
    match nvs k with
    | some r =>
      let old := storeGet objDefault s.objs k
      let new := storeGet objDefault objs k
      if old = new then s
      else logChange s (k / 65536) (k % 65536) .module (typeSize r.ty) (encodeVal r.ty old) (encodeVal r.ty new)
    | none => s) s
  (keysOf (s.doms.map (·.1)) (doms.map (·.1))).foldl (fun s k =>
    match nvs k with
    | some _ =>
      let old := storeGet (fun _ => []) s.doms k
      let new := storeGet (fun _ => []) doms k
      if old = new then s else logChange s (k / 65536) (k % 65536) .module new.length (logValue old) (logValue new)
    | none => s) s

/-- The configuration is taken; the rest of the bytes. -/
def takeConfig (s : State) (l : List Byte) : State × List Byte :=
  let n := getLe l 0 4
  let objs : List (Nat × Int) := (List.range n).map (fun k => (getLe l (4 + 16 * k) 4, getSle l (8 + 16 * k) 12))
  let l := l.drop (4 + 16 * n)
  let (doms, l) := readDoms (getLe l 0 4) (l.drop 4)
  let (salt, l) := unblob l
  let (derived, l) := unblob l
  let (psk, l) := unblob l
  let s := logPulled s objs doms
  let s := if derived = s.log.derived ∧ salt = s.log.salt then s
    else logChange s 0x6890 1 .module 16 (List.replicate 16 0#8) (List.replicate 16 0#8)
  let s := { s with
    objs := objs.foldl (fun m (p : Nat × Int) => storePut objDefault m p.1 p.2) (s.objs.filter (fun p => (configRow p.1).isNone))
    doms := doms.foldl (fun m (p : Nat × List Byte) => storePut (fun _ => []) m p.1 p.2) (s.doms.filter (fun p => (configRow p.1).isNone))
    log := { s.log with salt := salt, derived := derived }
    host := { s.host with psk := psk } }
  let s := (s.setB 0x6890 4 (decide (derived ≠ []))).setB 0x1210 4 (decide (psk ≠ []))
  (showFilters (s.setObj 0x2020 7 (configCrc s)), l)

/-- A count list with the counts of another, and remainders in ns. -/
def addCounts (a : List (Nat × Nat)) (ar : List (Nat × Int)) (b : List (Nat × Nat)) (br : List (Nat × Int)) :
    List (Nat × Nat) × List (Nat × Int) :=
  let ks := b.map (·.1) ++ (br.map (·.1)).filter (fun k => !(b.any (fun p => p.1 == k)))
  ks.foldl (fun acc k =>
    addTime acc.1 acc.2 k ((storeGet (fun _ => 0) b k : Nat) * 1000000000 + storeGet (fun _ => 0) br k)) (a, ar)

/-- The contribution of a frame enters a record (R324). -/
def addRec (a : CellRec × RecRest) (b : CellRec × RecRest) : CellRec × RecRest :=
  let (c, m) := a
  let (d, r) := b
  let (grid, gr) := addCounts c.grid m.grid d.grid r.grid
  let (bands, br) := addCounts c.bands m.bands d.bands r.bands
  let gs := m.gridSum + r.gridSum + d.gridSecs * 1000000000
  let ch := m.charge + r.charge + 36 * d.charge
  let dis := m.discharge + r.discharge + 36 * d.discharge
  let bl := m.bleed + r.bleed + 18 / 5 * d.bleed
  let bt := m.bleedTime + r.bleedTime + d.bleedTime * 1000000000
  let whole (x u : Rat) : Nat := (floorR (x / u)).toNat
  let ext := [0, 2, 4].foldl (fun e k =>
    match d.ext.getD k none with
    | some (v, t) => takeExt e k v t
    | none => e) c.ext
  ({ c with grid := grid, bands := bands, ext := ext, gridSecs := addCount c.gridSecs (gs / 1000000000).toNat,
            charge := addCount c.charge (whole ch 36), discharge := addCount c.discharge (whole dis 36),
            bleed := addCount c.bleed (whole bl (18 / 5)), bleedTime := addCount c.bleedTime (bt / 1000000000).toNat },
   { m with grid := gr, bands := br, gridSum := gs % 1000000000, charge := ch - 36 * whole ch 36,
            discharge := dis - 36 * whole dis 36, bleed := bl - 18 / 5 * whole bl (18 / 5), bleedTime := bt % 1000000000 })

/-- The card's own contributions of the frames sealed after the donor's seal frame, oldest first. -/
def ownAfter (s : State) (frame n : Nat) : List (CellRec × RecRest) :=
  ((s.duplex.kept.filter (fun p => p.1 != frame && frameReached p.1 frame)).reverse).flatMap (fun p =>
    (p.2.filter (fun e => e.1 == n)).map (·.2))

/-- A cell takes the estimator record and the band parameters of the donor; one whose CM18 is another receives a first estimate
(R148, R324). -/
def installCell (s : State) (n : Nat) (b : List Byte) : State :=
  let ident := identDigest (s.objN (0x3100 + slotOf s n) 6)
  let s := applyCell s n (sliceAt b 2 64) none
  let m := getLe b 66 1
  let q (k j : Nat) : Rat := f32Value (getLe b (67 + 20 * k + 4 * j) 4)
  let bands := (List.range 8).map (fun k => if m.testBit k then some (⟨q k 0, q k 1, q k 2, q k 3, q k 4⟩ : Band) else none)
  s.setCell n { s.cell n with bands := bands, first := if getLe b 0 2 = ident then 0 else 2 }

/-- A cell takes its record, its own later contributions added. -/
def installRec (s : State) (frame n : Nat) (b : List Byte) : State :=
  let ident := identDigest (s.objN (0x3100 + slotOf s n) 6)
  let c := cellRecParse b
  let c := if c.digest = 0 ∨ c.digest = ident then c else { c with digest := ident, changes := (countUp 16 c.changes).toNat }
  let x := (ownAfter s frame n).foldl addRec (c, ({} : RecRest))
  recObjs (s.setCell n { s.cell n with rec_ := x.1, rest := x.2 }) n

/-- The pulled program image runs from Plaza; HK stores it when it may (R323, R333). -/
def installImage (s : State) (raw : List Byte) : State :=
  let im := parseImage raw
  imageObjs (s.mapProg fun p => { p with
    image := some im, consts := im.consts, data := im.initData, outVec := [], stations := [], latch := [], latchOld := [],
    changes := [], forceReqs := [], tasks := [], storeDue := true }) im

/-- The force table is taken as the donor holds it. -/
def installForces (s : State) (b : List Byte) : State :=
  setForces s ((List.range (b.length / 48)).map (fun k =>
    let e := sliceAt b (48 * k) 48
    let tasks := match symbolAt s (getLe e 36 2) (getLe e 38 2) with | some y => ownerTasks s y | none => []
    (⟨sliceAt e 0 32, getLe e 32 1, getLe e 36 2, getLe e 38 2, getLe e 40 8, tasks.map (fun k => (k, getLe e 40 8)), none⟩ : Force)))

/-- Avenue, Sliproad and thermal state are taken as the donor holds them. -/
def installControl (s : State) (av sl th : List Byte) : State :=
  let s := if av = [] then s else applyAvenue { s with duplex := { s.duplex with snap := none } } ⟨1, 0, s.frameNo, 0, av⟩
  let s := if sl = [] then s else
    [0, 1, 2, 3].foldl (fun s c => applySlip s c (sliceAt sl (64 * c) 64) none (s.now / 65536)) s
  applyTherm s th

/-- All that was pulled is installed; the number of cells whose CM18 has changed. -/
def installPull (s : State) (frame : Nat) (all : List Byte) : Nat × State :=
  let base := getLe all 0 4
  let raw := all.drop base
  let (s, l) := takeConfig s (all.drop 12)
  let n := getLe l 0 2
  let l := l.drop 2
  let ns := (List.range n).map (· + 1)
  let w := 2 + 64 + 161
  let changed := (ns.filter (fun k =>
    getLe l (w * (k - 1)) 2 != identDigest (s.objN (0x3100 + slotOf s k) 6))).length
  let s := ns.foldl (fun s k => installCell s k (sliceAt l (w * (k - 1)) w)) s
  let l := l.drop (w * n)
  let s := ns.foldl (fun s k => installRec s frame k (sliceAt l (800 * (k - 1)) 800)) s
  let l := l.drop (800 * n)
  let s := ns.foldl (fun s k => (s.setObj 0x4108 k (getLe l (8 * (k - 1)) 4 : Nat)).setObj 0x4109 k (getLe l (8 * (k - 1) + 4) 4 : Nat)) s
  let l := l.drop (8 * n)
  let layout := getLe l 0 4
  let (ret, l) := unblob (l.drop 4)
  let (forces, l) := unblob l
  let (av, l) := unblob l
  let (sl, l) := unblob l
  let (th, l) := unblob l
  let s := if raw = [] then s else installImage s raw
  let s := match s.prog.image with
    | some im => restoreRetained s im 1 layout im.symbols ret
    | none => s
  let s := installControl (installForces s forces) av sl th
  let st := getLe l 0 1
  let s := if s.prog.image ≠ none ∧ s.obj 0xA000 2 = 0 then setProgState s 1 5 else s
  (changed, if (st = 2 ∨ st = 3) ∧ s.prog.image ≠ none ∧ progRuns s = false then startTasks s 5 else s)

/-- Every block has arrived: installation, and the shadow run begins (R323, R325). -/
def finishPull (s : State) (frame need : Nat) : State :=
  let k := blocksOf need
  let all := ((List.range k).flatMap (fun i => storeGet (fun _ => []) s.duplex.pull i)).take need
  let c := s.duplex.pullC
  let (changed, s) := installPull s frame all
  let s := s.mapDup fun d => { d with pullHead := none, pull := [], kept := [] }
  let s := s.setObjs 0x7009 [(1, 2), (3, 0)]
  raiseDup s 0x0B0A [d32 (s.obj 0x7009 2), d32 (elapsedNs s.clk c s.clk.c / 1000000), d32 changed]

/-- Bytes the card needs of what the donor sends: the image only when its CRC differs from its own. -/
def pullNeed (s : State) (d : List Byte) : Nat :=
  let own : Nat := match s.prog.image with | some im => im.imgCrc | none => 0
  if getLe d 8 4 = own then getLe d 0 4 else getLe d 0 4 + getLe d 4 4

/-- A block of the pull. One of another reading of the donor's state starts the pull anew; the first block names its size. -/
def takePull (s : State) (k frame : Nat) (d : List Byte) : State :=
  let s := match s.duplex.pullHead with
    | some (f, _) => if f = frame then s else (s.mapDup fun x => { x with pullHead := none, pull := [] }).setObj 0x7009 2 0
    | none => s
  let s := if s.duplex.pullHead.isSome ∨ k ≠ 0 then s else
    let need := pullNeed s d
    raiseDup (s.mapDup fun x => { x with pullHead := some (frame, need), pullC := s.clk.c }) 0x0B09 [d32 need]
  let had := s.duplex.pull.any (fun p => p.1 == k)
  let s := if had then s else
    (s.mapDup fun x => { x with pull := storePut (fun _ => []) x.pull k d }).setObj 0x7009 2 (s.obj 0x7009 2 + d.length)
  match s.duplex.pullHead with
  | some (f, need) =>
    if (List.range (blocksOf need)).all (fun i => s.duplex.pull.any (fun p => p.1 == i)) then finishPull s f need else s
  | none => s

/-- A block of an image the ACTIVE card forwards: with the last one the image is checked and ready here too (R331). -/
def takeImage (s : State) (k total : Nat) (d : List Byte) : State :=
  let have_ : List (Nat × List Byte) := match s.prog.fwdIn with | some (t, l) => if t = total ∧ k ≠ 0 then l else [] | none => []
  let l := storePut (fun _ => []) have_ k d
  if (List.range (blocksOf total)).all (fun i => l.any (fun p => p.1 == i)) then
    let b := ((List.range (blocksOf total)).flatMap (fun i => storeGet (fun _ => []) l i)).take total
    let s := checkStaged (s.mapProg fun p => { p with fwdIn := none }) b
    if s.obj 0xA011 1 = 2 then (s.mapProg fun p => { p with fwd := none }).setObj 0xA011 1 5 else s
  else s.mapProg fun p => { p with fwdIn := some (total, l) }

/-- A bulk block arrives on a lane; one whose CRC fails is counted and dropped (R302). -/
def execPullBlockReceived (lane : Fin 2) (block : List Byte) (s : State) : Out :=
  onHost s fun s =>
    if s.pairOn = false then s
    else if block.length ≠ 4100 ∨ crc32c (block.take 4096) ≠ getLe block 4096 4 then fbBad s lane
    else if getLe block 0 2 ≠ 0xF0B2 then s
    else
      let k := getLe block 4 4
      let d := (block.drop 32).take (getLe block 16 2)
      if getLe block 2 1 = 0 then (if s.role = 1 ∧ s.obj 0x7009 1 = 1 then takePull s k (getLe block 12 4) d else s)
      else if s.isActive then s else takeImage s k (getLe block 8 4) d

end Sys2Proof.Machine
end

