-- ==== Sys2Proof/Machine/DomainValue.lean ====
section
/-!
DEFINITION. The bytes a DOMAIN object returns to a segmented read (R371, R420, R436), fixed when the read starts.
-/
namespace Sys2Proof.Machine

/-- The header of an event area read (R420). -/
def areaHeader (s : State) (area sub : Nat) : List Byte :=
  let b := leBytes 4 (s.obj 0x8000 1) ++ leBytes 2 (4096 : Nat) ++ [BitVec.ofNat 8 area, BitVec.ofNat 8 sub]
    ++ List.replicate 4 0#8
  b ++ leBytes 4 (crc32c b : Nat)

/-- 4,096 slots of an event area, empty slots as 64 zero bytes (R420). -/
def areaSlots (l : List (Nat × List Byte)) (from_ : Nat) : List Byte :=
  (List.range 4096).flatMap (fun k => padTo 64 (storeGet (fun _ => []) l (from_ + k)))

/-- The object is write only. -/
def writeOnly (i sub : Nat) : Bool :=
  match objRow i sub with
  | some r => decide (r.access = .wo)
  | none => false

/-- The value of a DOMAIN object; one that is write only reads as the zero value of its type, no bytes (R10). -/
def domValue (s : State) (i sub : Nat) : List Byte :=
  if writeOnly i sub then []
  else if i = 0x8002 then
    if sub = 0 then areaHeader s 0 0 ++ areaSlots s.evt.founding 0
    else areaHeader s 1 sub ++ areaSlots s.evt.circ (4096 * (sub - 1))
  else if i = 0x4115 then bandBytes s sub
  else if i = 0x4120 then spectrumBytes s sub
  else if i = 0x4400 then cellRecBytes sub (s.cell sub).sealed
  else if i = 0x6891 ∧ sub = 0 then logBytes s
  else if (canQueueOf i sub).isSome then canQueueBytes s i sub
  else if i = 0x6891 ∧ sub = 2 then padTo 32 (s.dom i sub)
  else s.dom i sub

/-- What reading a DOMAIN object changes: the entries read leave a receive queue (R405). -/
def domRead (s : State) (i sub : Nat) : State :=
  match canQueueOf i sub with
  | some (b, q) => setCanQueue s b q []
  | none => s

/-- A read that ends without completing gives its entries back (R405). -/
def domReturn (s : State) (i sub : Nat) (b : List Byte) : State :=
  match canQueueOf i sub with
  | some (c, q) => canGiveBack s c q ((List.range (b.length / 88)).map (fun k => sliceAt b (88 * k) 88))
  | none => s

end Sys2Proof.Machine
end

