-- ==== Sys2Proof/Machine/Host.lean ====
section
/-!
DEFINITION. Sessions, reading and writing, segmented transfer, safety sessions, the serialisation of writes, PRP and the
IP answers (R353 to R373, R379, R380).
Marks (notes/assumptions): DESIGN CHOICE 20, 91, 92.
-/
namespace Sys2Proof.Machine

/-! ### Keys and handshakes (R360 to R364) -/

/-- The key a handshake on a channel takes at its HELLO, a later change applying from the next one: over the service port, 32 zero bytes while no key is set (R364) and in RETIRED,
whose secrets are wiped (R366). -/
def shakeKey (s : State) (c : Channel) : List Byte :=
  if c = .service ∧ (s.obj 0x1210 4 = 0 ∨ s.obj 0x2040 1 = 4) then List.replicate 32 0#8 else s.host.psk

/-- The session identifier as the proofs carry it. -/
def sidBytes (sid : Nat) : List Byte := leBytes 4 (sid : Int)

/-- The client proof of R361. -/
def clientProof (h : Handshake) : List Byte :=
  hmacSha256 h.key (asciiBytes "EOP-C" ++ h.nc ++ h.nm ++ h.client ++ sidBytes h.sid)

/-- The module proof of R361. -/
def moduleProof (h : Handshake) : List Byte :=
  hmacSha256 h.key (asciiBytes "EOP-M" ++ h.nm ++ h.nc ++ sidBytes h.sid)

/-- The session key of R361. -/
def sessionKey (h : Handshake) : List Byte :=
  hmacSha256 h.key (asciiBytes "EOP-S" ++ h.nc ++ h.nm ++ sidBytes h.sid)

/-- Seconds for which an address is still blocked (R360). -/
def blockLeft (s : State) (addr : Nat) : Nat :=
  match s.host.blocked.find? (fun p => p.1 == addr) with
  | some (_, c) => if s.clk.c < c then (c - s.clk.c + 249999999) / 250000000 else 0
  | none => 0

/-- A step of a handshake is refused (R360); the answer carries the number of the message it answers (R357). -/
def refuseShake (s : State) (c : Channel) (reason addr seq : Nat) : State :=
  let s := sendPlain s c 0x05 0 seq ([BitVec.ofNat 8 reason, 0#8, 0#8, 0#8] ++ leBytes 4 (blockLeft s addr : Int))
  raise s 0x0D04 2 [d32 reason, d32 addr]

/-- The state of a channel's session object. -/
def markSession (s : State) (c : Channel) (v : Int) : State :=
  match c with
  | .eop => s.setObj 0x1200 1 v
  | .service => s.setObj 0x1500 1 (if v = 2 then 2 else if s.obj 0x1500 1 = 0 then 0 else 1)

/-- Whether a channel takes sessions at all: the network address must be set (R356); the service port must be attached and
the life-cycle state one of R366. -/
def channelUp (s : State) (c : Channel) : Bool :=
  match c with
  | .eop => decide (s.host.ip ≠ 0)
  | .service => decide (s.obj 0x1500 1 ≠ 0) && [1, 3, 4].contains (s.obj 0x2040 1)

/-- Why a HELLO is refused, or 0 (R360, R362, R364). -/
def helloRefusal (s : State) (c : Channel) (addr : Nat) (takeover : Bool) : Nat :=
  if blockLeft s addr ≠ 0 then 4
  else if c = .eop ∧ s.obj 0x1210 4 = 0 then 5
  else if (s.session c).isOpen ∧ takeover = false then 1
  else if takeover ∧ s.obj 0x1210 3 = 0 then 3
  else if s.host.shakes.any (fun h => h.chan == c) then 1
  else 0

/-- HELLO: answered with CHALLENGE, carrying a fresh nonce and a fresh non-zero session identifier, or with REFUSE. -/
def execEopHello (chan : Channel) (addr : BitVec 32) (udp : BitVec 16) (seq : BitVec 32) (takeover : Bool) (nonce : List Byte)
    (client : List Byte) (s : State) : Out :=
  onHost s fun s =>
    if channelUp s chan = false then s else
    let s := comesIn s chan
    let r := helloRefusal s chan addr.toNat takeover
    if r ≠ 0 then refuseShake s chan r addr.toNat seq.toNat else
    let (k, s) := s.draw
    let (j, s) := s.draw
    let sid := Config.freeBits j % 4294967295 + 1
    let h : Handshake := ⟨chan, addr.toNat, udp.toNat, seq.toNat, takeover, padTo 16 nonce, freeBytes 16 k, sid, padTo 16 client, shakeKey s chan⟩
    let s := { s with host := { s.host with shakes := s.host.shakes ++ [h] } }
    let s := if (s.session chan).isOpen then s else markSession s chan 1
    sendPlain s chan 0x02 0 seq.toNat (h.nm ++ sidBytes sid ++ [BitVec.ofNat 8 s.role.toNat, BitVec.ofNat 8 (tfCode s), 0#8, 0#8])

/-! ### The end of a session (R363) -/

/-- The bit of a channel in 0x1211:2. -/
def chanBit : Channel → Nat
  | .eop => 0
  | .service => 1

/-- The number of a channel's writer in 0x2020:4. -/
def chanOwner : Channel → Int
  | .eop => 1
  | .service => 2

/-- A safety session opens (1), closes (2) or fails (3) on channel 1 EOP, 2 service port, 3 Alley (R365). -/
def safetyEvent (s : State) (channel what : Int) : State := raise s 0x0D05 2 [d32 channel, d32 what]

/-- Closes a channel's safety session. -/
def closeSafety (s : State) (c : Channel) : State :=
  let x := s.session c
  if x.safety then
    safetyEvent ((s.setSession c { x with safety := false, nonce := none }).setObjBit 0x1211 2 (chanBit c) false)
      (chanOwner c) 2
  else s.setSession c { x with nonce := none }

/-- A transfer ends without completing (R372). -/
def abortEvent (s : State) (t : Transfer) (reason : Int) : State :=
  raise (if t.write then s else domReturn s t.index t.sub t.data) 0x0D0E 2 [d16 t.index, d16 t.sub, d32 reason]

/-- The transfers of a channel are aborted. -/
def abortChannel (s : State) (c : Channel) (reason : Int) : State :=
  let mine := s.host.transfers.filter (fun t => t.chan == c)
  let s := { s with host := { s.host with transfers := s.host.transfers.filter (fun t => !(t.chan == c)) } }
  mine.foldl (fun s t => abortEvent s t reason) s

/-- The session ends: its safety session closes, its transfers abort, its publish sets stop and its pending set is
discarded (R363). -/
def endSession (s : State) (c : Channel) (reason : Nat) : State :=
  let x := s.session c
  if x.isOpen = false then s else
  let s := closeSafety s c
  let s := abortChannel s c 2
  let s := if s.obj 0x2020 4 = chanOwner c then discardPending s 1 else s
  let s := { s with host := { s.host with resps := s.host.resps.filter (fun p => !(p.chan == c)) } }
  let s := markSession (s.setSession c {}) c 0
  let s := match c with
    | .eop => ((((s.setObj 0x1200 2 0).setObj 0x1200 4 0).setObj 0x1200 5 0).setObj 0x1200 6 0).setDom 0x1200 3 []
    | .service => s
  raise s 0x0D02 2 [d32 reason, padTo 16 x.client]

/-- A verified PROOF opens the session of its handshake; a takeover first closes the old one (R360, R362). -/
def openSession (s : State) (h : Handshake) (seq : Nat) : State :=
  let c := h.chan
  let old := s.session c
  let took := old.isOpen && h.takeover
  let s := if old.isOpen then
      endSession (originate s c 0x07 [3#8, 0#8, 0#8, 0#8]) c 3 else s
  let s := s.setSession c { isOpen := true, sid := h.sid, key := sessionKey h, addr := h.addr, udp := h.udp, client := h.client }
  let s := markSession s c 2
  let s := match c with
    | .eop => ((((s.setObj 0x1200 2 h.sid).setObj 0x1200 4 h.addr).setObj 0x1200 5 h.udp).setObj 0x1200 6 (time80 s.now)).setDom
        0x1200 3 h.client
    | .service => s
  let s := raise s 0x0D01 2 [h.client, d32 h.addr]
  let s := if took then
      raise (s.bump 0x1201 6) 0x0D03 2 [old.client, d32 old.addr, h.client, d32 h.addr] else s
  sendPlain s c 0x04 h.sid seq (moduleProof h ++ leBytes 2 (s.obj 0x1210 2) ++ [0#8, 0#8])

/-- A failed proof: three from one address within 60 s block it for 60 s (R360). -/
def failProof (s : State) (h : Handshake) (seq : Nat) : State :=
  let recent := (s.host.failures.filter (fun p => p.1 == h.addr && decide (elapsedNs s.clk p.2 s.clk.c < 60000000000)))
  let others := s.host.failures.filter (fun p => p.1 != h.addr)
  let s := { s with host := { s.host with failures := others ++ recent ++ [(h.addr, s.clk.c)] } }
  let s := if 3 ≤ recent.length + 1 then
      { s with host := { s.host with
        blocked := s.host.blocked.filter (fun p => p.1 != h.addr) ++ [(h.addr, s.clk.c + 15000000000)] } } else s
  refuseShake (s.bump 0x1201 5) h.chan 2 h.addr seq

/-- PROOF: verified against the handshake in progress from that address (R361). -/
def execEopProof (chan : Channel) (addr : BitVec 32) (seq : BitVec 32) (proof : List Byte) (s : State) : Out :=
  onHost s fun s =>
    let s := comesIn s chan
    match s.host.shakes.find? (fun h => h.chan == chan && h.addr == addr.toNat) with
    | none => s
    | some h =>
      let s := { s with host := { s.host with shakes := s.host.shakes.filter (fun x => !(x.chan == chan)) } }
      if proof = clientProof h then openSession s h seq.toNat
      else failProof (if (s.session chan).isOpen then s else markSession s chan 0) h seq.toNat

/-- No verified PROOF within 2 s of CHALLENGE (R360). -/
def execHandshakeTimeout (chan : Channel) (s : State) : Out :=
  onHost s fun s =>
    match s.host.shakes.find? (fun h => h.chan == chan) with
    | none => s
    | some h =>
      let s := { s with host := { s.host with shakes := s.host.shakes.filter (fun x => !(x.chan == chan)) } }
      refuseShake (if (s.session chan).isOpen then s else markSession s chan 0) chan 6 h.addr h.seq

/-! ### The gate every authenticated message passes (R357, R359) -/

/-- A sequence number may be accepted: above the highest accepted so far, or among the 64 below it and not yet accepted. -/
def seqFresh (x : Session) (q : Nat) : Bool :=
  match x.high with
  | none => true
  | some m => decide (m < q) || (decide (m ≤ q + 64) && decide (q < m) && !x.seen.contains q)

/-- The session after it has accepted a number. -/
def seqTaken (x : Session) (q : Nat) : Session :=
  match x.high with
  | none => { x with high := some q }
  | some m =>
    if m < q then { x with high := some q, seen := ((m :: x.seen).filter (fun n => decide (q ≤ n + 64))) }
    else { x with seen := q :: x.seen }

/-- The tag of a message verifies under the open session's key. -/
def tagOk (s : State) (h : MsgHead) (typ flags : Nat) (payload : List Byte) : Bool :=
  let x := s.session h.chan
  x.isOpen && x.sid == h.sid.toNat && h.tag == msgTag x.key (msgBody typ flags h.sid.toNat h.seq.toNat payload)

/-- A client message: discarded where its tag fails, answered again from store where the request was answered before,
discarded where its number is stale; else `f` handles it. -/
def gated (s : State) (h : MsgHead) (typ flags : Nat) (payload : List Byte) (f : State → State) : State :=
  let s := comesIn s h.chan
  let x := s.session h.chan
  let q := h.seq.toNat
  if x.isOpen = false then s
  else if tagOk s h typ flags payload = false then s.bump 0x1201 2
  else match x.answered.find? (fun p => p.1 == q) with
    | some (_, m) => sendOn s h.chan m
    | none =>
      if seqFresh x q then
        let s := s.setSession h.chan (seqTaken x q)
        f (s.bump 0x1201 1)
      else s.bump 0x1201 3

/-- KEEPALIVE: answered with time, role and safety state (R358, R363). -/
def execEopKeepalive (h : MsgHead) (s : State) : Out :=
  onHost s fun s => gated s h 0x06 0 [] fun s =>
    respond s h.chan 0x06 h.seq.toNat (d80 (time80 s.now) ++ [BitVec.ofNat 8 s.role.toNat,
      BitVec.ofNat 8 (s.objN 0x6800 1), 0#8, 0#8, 0#8, 0#8])

/-- CLOSE from the client ends the session (R363). -/
def execEopClose (h : MsgHead) (reason : BitVec 8) (s : State) : Out :=
  onHost s fun s => gated s h 0x07 0 [reason, 0#8, 0#8, 0#8] fun s => endSession s h.chan reason.toNat

/-- No authenticated message for the keep-alive timeout (R363). -/
def execKeepaliveTimeout (chan : Channel) (s : State) : Out :=
  onHost s fun s =>
    if (s.session chan).isOpen then endSession (originate s chan 0x07 [2#8, 0#8, 0#8, 0#8]) chan 2 else s

/-! ### READ and DESCRIBE (R353, R367) -/

/-- A value padded with zeros to a multiple of 4. -/
def pad4 (b : List Byte) : List Byte := b ++ List.replicate ((4 - b.length % 4) % 4) 0#8

/-- The answer to one item of a READ: error, type code and value. -/
def readItem (s : State) (pendingView : Bool) (i sub : Nat) : Nat × Nat × List Byte :=
  match objInfo s i sub with
  | none => (errNoObject, 0, [])
  | some r =>
    if r.ty = .domain then (errSegmented, 14, [])
    else match (if pendingView then s.host.pendSet.find? (fun e => e.index == i && e.sub == sub) else none) with
      | some e => (errOk, typeCode r.ty, encodeVal r.ty e.val)
      | none => (errOk, typeCode r.ty, readBytes s r i sub)

/-- The items of a READ response; one that no longer fits carries TOO_LONG and no value. -/
def readItems (s : State) (pendingView : Bool) : Nat → List ObjRef → List Byte
  | _, [] => []
  | room, q :: l =>
    let i := q.index.toNat
    let sub := q.sub.toNat
    let (e, t, v) := readItem s pendingView i sub
    let fits := decide (8 * (l.length + 1) + (pad4 v).length ≤ room)
    let e := if fits then e else errTooLong
    let v := if fits then v else []
    leBytes 2 (i : Int) ++ leBytes 2 (sub : Int) ++ [BitVec.ofNat 8 e, BitVec.ofNat 8 t] ++ leBytes 2 (v.length : Int)
      ++ pad4 v ++ readItems s pendingView (room - 8 - (pad4 v).length) l

/-- The payload of a READ or DESCRIBE request. -/
def readReqBytes (pendingView : Bool) (items : List ObjRef) : List Byte :=
  [BitVec.ofNat 8 items.length, if pendingView then 1#8 else 0#8, 0#8, 0#8]
    ++ items.flatMap (fun q => leBytes 2 (q.index.toNat : Int) ++ leBytes 2 (q.sub.toNat : Int))

/-- A READ of 0x1000 on the service port without a session (R366). -/
def plainRead (s : State) (h : MsgHead) (items : List ObjRef) : Bool :=
  decide (h.chan = .service) && !(s.session .service).isOpen && items.all (fun q => q.index == 0x1000#16)

/-- READ, up to 64 items, each on its own. The service port answers a READ of 0x1000 without a session (R366), in boot ROM too
(R434). -/
def execEopRead (h : MsgHead) (pendingView : Bool) (items : List ObjRef) (s : State) : Out :=
  let items := items.take 64
  let body (s : State) := [BitVec.ofNat 8 items.length, 0#8, 0#8, 0#8] ++ readItems s pendingView 1430 items
  if s.pwr.bootRom ∧ s.hostUp = false then
    .next (if plainRead s h items then sendPlain s .service 0x10 0 h.seq.toNat (body s) else s)
  else onHost s fun s =>
    if plainRead s h items ∧ s.obj 0x1500 1 ≠ 0 then sendPlain s .service 0x10 0 h.seq.toNat (body s)
    else gated s h 0x10 0 (readReqBytes pendingView items) fun s => respond s h.chan 0x10 h.seq.toNat (body s)

/-- A numeric field of a DESCRIBE record, 8 bytes. -/
def descNum (t : ObjType) (v : Int) : List Byte :=
  match t with
  | .str => List.replicate 8 0#8
  | .domain => List.replicate 8 0#8
  | _ => leBytes 8 v

/-- Smallest and largest value of a row, as raw values. -/
def rowBounds (r : ObjRow) : Int × Int :=
  match r.range with
  | .ints l => (l.foldl (fun a p => if p.1 < a then p.1 else a) ((l.headD (0, 0)).1),
      l.foldl (fun a p => if a < p.2 then p.2 else a) ((l.headD (0, 0)).2))
  | .tenths lo hi => ((f32Word ((lo : Rat) / 10) : Nat), (f32Word ((hi : Rat) / 10) : Nat))
  | .positive => (1, 2139095039)
  | .nonNegative => (0, 2139095039)
  | .any =>
    let w := 8 * typeSize r.ty
    match r.ty with
    | .bool => (0, 1)
    | .f32 => (4286578687, 2139095039)
    | .i8 | .i16 | .i32 | .i64 => (-((2 ^ (w - 1) : Nat) : Int), ((2 ^ (w - 1) : Nat) : Int) - 1)
    | _ => (0, ((2 ^ w : Nat) : Int) - 1)

/-- The access code of a DESCRIBE record. -/
def accessCode : Access → Nat
  | .ro => 0 | .rw => 1 | .wo => 2 | .rws => 3 | .const => 4

/-- The persistence code of a DESCRIBE record. -/
def persistCode : Persist → Nat
  | .vol => 0 | .mir => 1 | .nv => 2 | .nvs => 3 | .fixed => 4

/-- The 40-byte record of R353; the default of an object that differs from card to card is the card's own. -/
def describe (s : State) (r : ObjRow) (i sub : Nat) : List Byte :=
  let flags := (if (arrayCount s i).isSome ∧ sub ≠ 0 then 1 else 0) + (if programTarget s i sub then 2 else 0)
    + (if s.host.pendSet.any (fun e => e.index == i && e.sub == sub) then 4 else 0)
  leBytes 2 (i : Int) ++ leBytes 2 (sub : Int) ++ [BitVec.ofNat 8 (typeCode r.ty), BitVec.ofNat 8 (accessCode r.access),
    BitVec.ofNat 8 (persistCode r.persist), BitVec.ofNat 8 (ownerOf i), if staged i sub then 1#8 else 0#8,
    BitVec.ofNat 8 flags, 0#8, 0#8] ++ leBytes 4 (maxLen s i sub r : Int)
    ++ descNum r.ty (if perCardKeys.contains (objKey i sub) then Config.perCard (objKey i sub) else r.dflt)
    ++ descNum r.ty (rowBounds r).1 ++ descNum r.ty (rowBounds r).2

/-- DESCRIBE: at most 35 records; an object that does not exist has none. -/
def execEopDescribe (h : MsgHead) (items : List ObjRef) (s : State) : Out :=
  onHost s fun s => gated s h 0x12 0 (readReqBytes false items) fun s =>
    let recs := (items.filterMap (fun q => (objInfo s q.index.toNat q.sub.toNat).map
      (fun r => describe s r q.index.toNat q.sub.toNat))).take 35
    respond s h.chan 0x12 h.seq.toNat (BitVec.ofNat 8 recs.length :: [0#8, 0#8, 0#8] ++ recs.flatten)

/-! ### WRITE (R354, R367 to R370, R373) -/

/-- The writer of a channel. -/
def chanOrigin : Channel → Origin
  | .eop => .eop
  | .service => .service

/-- The number a writer has in 0x2020:4. -/
def originOwner : Origin → Int
  | .eop => 1
  | .service => 2
  | .alley => 3
  | _ => 0

/-- A staged value enters the pending set, or the error that keeps it out (R373). -/
def stageValue (s : State) (o : Origin) (i sub : Nat) (v : Int) (rws : Bool) : Nat × State :=
  let set := s.host.pendSet
  if set ≠ [] ∧ s.obj 0x2020 4 ≠ originOwner o then (errState, s)
  else
    let rest := set.filter (fun e => !(e.index == i && e.sub == sub))
    if 256 ≤ rest.length then (errBusy, s)
    else
      let set' := rest ++ [⟨i, sub, v, rws⟩]
      let s := { s with host := { s.host with pendSet := set' } }
      let s := if s.pairOn then
          { s with duplex := { s.duplex with stagedOut := s.duplex.stagedOut ++ [⟨i, sub, v, [], o, rws, 0, 255, 0⟩] } }
        else s
      (errOk, ((s.setObj 0x2020 2 set'.length).setObj 0x2020 3 1).setObj 0x2020 4 (originOwner o))

/-- AC2 finds lane 41 full (R66, R368): it counts the occasion (0x2101) and does not wait. -/
def lane41Full (s : State) : Bool := decide (64 ≤ (s.lane 41).elems.length)

/-- One item of a WRITE: its checks, then the pending set or lane 41. The answer is known at once unless the write waits for
its serialisation. -/
def writeItem (s : State) (c : Channel) (seq : Nat) (k : Nat) (w : WriteItem) : RespItem × State :=
  let i := w.ref.index.toNat
  let sub := w.ref.sub.toNat
  let o := chanOrigin c
  if c = .service ∧ s.obj 0x2040 1 = 4 then (⟨i, sub, some errAccess, 0⟩, s) else
  let err := checkItem s false (s.session c).safety i sub w.ty.toNat w.value
  if err ≠ 0 then (⟨i, sub, some err, 0⟩, itemRefused { s with host := { s.host with lastErr := err } } i sub err w.value)
  else
    let r := objInfo s i sub
    let t := match r with | some r => r.ty | none => .u8
    let v := decodeVal t w.value
    if staged i sub then
      let (e, s) := stageValue s o i sub v (match r with | some r => r.access == .rws | none => false)
      (⟨i, sub, some e, if e = 0 then 1 else 0⟩, { s with host := { s.host with lastErr := e } })
    else if lane41Full s then
      (⟨i, sub, some errBusy, 0⟩, { s.bump 0x2101 42 with host := { s.host with lastErr := errBusy } })
    else
      (⟨i, sub, none, 0⟩, lanePush s 41 (.write ⟨i, sub, v, w.value, o, false, seq, k, 0⟩))

/-- Every item of a WRITE in order. -/
def writeItems (s : State) (c : Channel) (seq : Nat) : Nat → List WriteItem → List RespItem × State
  | _, [] => ([], s)
  | k, w :: l =>
    let (r, s) := writeItem s c seq k w
    let (rs, s) := writeItems s c seq (k + 1) l
    (r :: rs, s)

/-- The payload of a WRITE request. -/
def writeReqBytes (items : List WriteItem) : List Byte :=
  BitVec.ofNat 8 items.length :: [0#8, 0#8, 0#8] ++ items.flatMap (fun w =>
    leBytes 2 (w.ref.index.toNat : Int) ++ leBytes 2 (w.ref.sub.toNat : Int) ++ [w.ty, 0#8]
      ++ leBytes 2 (w.value.length : Int) ++ pad4 w.value)

/-- WRITE, up to 16 items. -/
def execEopWrite (h : MsgHead) (items : List WriteItem) (s : State) : Out :=
  onHost s fun s => gated s h 0x11 0 (writeReqBytes items) fun s =>
    let (rs, s) := writeItems s h.chan h.seq.toNat 0 (items.take 16)
    flushAnswers { s with host := { s.host with resps := s.host.resps ++ [⟨h.chan, h.seq.toNat, rs⟩] } }

/-! ### Serialisation (R369) -/

/-- The rank of a writer: the lower wins. -/
def writeRank (s : State) (w : WriteReq) : Nat :=
  match w.origin with
  | .safety => 1
  | .module => 1
  | .alley => if w.locked ∧ s.obj 0x2040 1 = 3 then 2 else 4
  | .eop => 3
  | .service => 3

/-- Whether another write of the batch to the same object beats `w`: a better rank, or the same rank and earlier. -/
def beaten (s : State) (earlier later : List WriteReq) (w : WriteReq) : Bool :=
  earlier.any (fun x => x.index == w.index && x.sub == w.sub && decide (writeRank s x ≤ writeRank s w))
    || later.any (fun x => x.index == w.index && x.sub == w.sub && decide (writeRank s x < writeRank s w))

/-- The batch split into the writes that take effect and those superseded. -/
def rankBatch (s : State) : List WriteReq → List WriteReq → List WriteReq × List WriteReq
  | _, [] => ([], [])
  | done, w :: r =>
    let (win, lost) := rankBatch s (done ++ [w]) r
    if beaten s done r w then (win, w :: lost) else (w :: win, lost)

/-- The writes among lane elements. -/
def writesOf : List Elem → List WriteReq
  | [] => []
  | .write w :: r => w :: writesOf r
  | _ :: r => writesOf r

/-- The writes of the guard core and the safety functions in the frame in course. -/
def guardWrites (s : State) : List WriteReq :=
  (s.host.rankOne.filter (fun p => p.1 == s.frameNo)).map (fun p => ⟨p.2.1, p.2.2, 0, [], .safety, false, 0, 0, 0⟩)

/-- AC3 closes the batch of frame k: up to 16 elements of lane 41 in arrival order; the losers return SUPERSEDED. -/
def execWriteBatchClose (s : State) : Out :=
  onHost s fun s =>
    let l := (s.lane 41).elems
    let s := s.setLane 41 { s.lane 41 with elems := l.drop 16 }
    let (win, lost) := rankBatch s (guardWrites s) (writesOf (l.take 16))
    let s := { s with host := { s.host with batch := s.host.batch ++ win } }
    flushAnswers (lost.foldl (fun s w => answerWrite (s.bump 0x1201 4) w errSuperseded) s)

/-! ### Segmented transfer (R371, R372) -/

/-- The transfer of a channel and an identifier. -/
def findTransfer (s : State) (c : Channel) (tid : Nat) : Option Transfer :=
  s.host.transfers.find? (fun t => t.chan == c && t.tid == tid)

/-- Stores a transfer in place of the one of its identifier. -/
def putTransfer (s : State) (t : Transfer) : State :=
  { s with host := { s.host with
    transfers := s.host.transfers.map (fun x => if x.chan == t.chan && x.tid == t.tid then t else x) } }

/-- Drops a transfer. -/
def dropTransfer (s : State) (c : Channel) (tid : Nat) : State :=
  { s with host := { s.host with transfers := s.host.transfers.filter (fun t => !(t.chan == c && t.tid == tid)) } }

/-- The payload of a SEG_DATA. -/
def segDataBytes (tid off : Nat) (b : List Byte) : List Byte :=
  [BitVec.ofNat 8 tid, 0#8, 0#8, 0#8] ++ leBytes 4 (off : Int) ++ b

/-- Segments leave while the window has room; `n` bounds their number. -/
def pumpRead : Nat → State → Transfer → State × Transfer
  | 0, s, t => (s, t)
  | n + 1, s, t =>
    if t.sentTo < t.len ∧ t.sentTo < t.acked + t.window * 1408 then
      let b := (t.data.drop t.sentTo).take 1408
      pumpRead n (originate s t.chan 0x21 (segDataBytes t.tid t.sentTo b)) { t with sentTo := t.sentTo + b.length }
    else (s, t)

/-- Why a SEG_INIT is refused, or OK: the object must exist and be a DOMAIN, writable where it is written; a write passes
the checks of R368; a length beyond the object's is RANGE; one write and four reads at once. -/
def segRefusal (s : State) (c : Channel) (write : Bool) (i sub len : Nat) : Nat :=
  match objInfo s i sub with
  | none => errNoObject
  | some r =>
    if r.ty ≠ .domain then errType
    else if write then
      if r.access = .ro ∨ r.access = .const then errAccess
      else if maxLength i sub r < len then errRange
      else if s.isActive = false then errState
      else if r.access = .rws ∧ (s.session c).safety = false then (if lockedOut s then errLocked else errSafety)
      else if 1 ≤ (s.host.transfers.filter (fun t => t.chan == c && t.write)).length then errBusy
      else errOk
    else if 4 ≤ (s.host.transfers.filter (fun t => t.chan == c && !t.write)).length then errBusy
    else errOk

/-- A whole value has arrived: its length and CRC-32C are judged, and it enters lane 41 as one element. -/
def finishWrite (s : State) (t : Transfer) : State :=
  if t.data.length ≠ t.len ∨ crc32c t.data ≠ t.crc then
    originate (dropTransfer s t.chan t.tid) t.chan 0x22 (segAckBytes t.tid 2 t.window errTransfer t.acked)
  else if lane41Full s then
    originate (dropTransfer (s.bump 0x2101 42) t.chan t.tid) t.chan 0x22 (segAckBytes t.tid 2 t.window errBusy t.acked)
  else
    let s := putTransfer s { t with queued := true, unacked := 0 }
    lanePush s 41 (.write ⟨t.index, t.sub, 0, t.data, chanOrigin t.chan, false, 0, 0, t.tid⟩)

/-- The payload of a SEG_INIT request. -/
def segInitBytes (tid : BitVec 8) (write : Bool) (i sub len crc : Nat) : List Byte :=
  [tid, if write then 1#8 else 0#8, 0#8, 0#8] ++ leBytes 2 (i : Int) ++ leBytes 2 (sub : Int) ++ leBytes 4 (len : Int)
    ++ leBytes 4 (crc : Int)

/-- The payload of a SEG_INIT response. -/
def segInitResp (tid err window len crc : Nat) : List Byte :=
  [BitVec.ofNat 8 tid, BitVec.ofNat 8 err, BitVec.ofNat 8 window, 0#8] ++ leBytes 4 (len : Int) ++ leBytes 4 (crc : Int)

/-- A filter list of more than 1,024 bytes is refused with its event, as R402 refuses one that has come in whole: reason 1, the element
after the last whole one. -/
def filterTooLong (s : State) (i sub len : Nat) : State :=
  if [0x7808, 0x7848, 0x7888].contains i && sub == 1 then
    raise s 0x0E08 14 [d32 ((i - 0x7808) / 64), d32 (objKey i 1 : Nat), d32 (len / 8), d32 1]
  else s

/-- SEG_INIT starts a read, whose value is fixed now, or a write, one of no bytes being complete with it; a firmware image is held at window 0 while the die temperature
inhibits programming (R256, R372). Every segmented write of a session on a retired card is refused with ACCESS (R366). -/
def execSegInit (h : MsgHead) (tid : BitVec 8) (write : Bool) (ref : ObjRef) (len : BitVec 32) (crc : BitVec 32)
    (s : State) : Out :=
  onHost s fun s =>
    let i := ref.index.toNat
    let sub := ref.sub.toNat
    gated s h 0x20 0 (segInitBytes tid write i sub len.toNat crc.toNat) fun s =>
      let err := if write ∧ h.chan = .service ∧ s.obj 0x2040 1 = 4 then errAccess
        else if tid = 0#8 ∨ (findTransfer s h.chan tid.toNat).isSome then errBusy
        else segRefusal s h.chan write i sub len.toNat
      let s := if write ∧ err = errRange then filterTooLong s i sub len.toNat else s
      if err ≠ 0 then respond s h.chan 0x20 h.seq.toNat (segInitResp tid.toNat err 0 0 0)
      else if write then
        let w := if i = 0x2050 ∧ sub = 1 ∧ s.objB 0x6040 2 then 0 else 8
        let t : Transfer := ⟨h.chan, tid.toNat, true, i, sub, len.toNat, crc.toNat, [], 0, 0, w, 0, false⟩
        let s := { s with host := { s.host with transfers := s.host.transfers ++ [t] } }
        let s := if i = 0xA010 then s.setObj 0xA011 1 1 else s
        let s := respond s h.chan 0x20 h.seq.toNat (segInitResp tid.toNat 0 w len.toNat 0)
        if len.toNat = 0 then finishWrite s t else s
      else
        let b := domValue s i sub
        let s := domRead s i sub
        let t : Transfer := ⟨h.chan, tid.toNat, false, i, sub, b.length, crc32c b, b, 0, 0, 8, 0, false⟩
        let s := respond s h.chan 0x20 h.seq.toNat (segInitResp tid.toNat 0 8 b.length t.crc)
        let (s, t) := pumpRead 8 s t
        { s with host := { s.host with transfers := s.host.transfers ++ [t] } }

/-- A segment of a write: taken where it continues the bytes received in order; every fourth is acknowledged. The bytes are complete
once they reach the declared length; where they pass it the length differs. -/
def execSegData (h : MsgHead) (tid : BitVec 8) (offset : BitVec 32) (bytes : List Byte) (s : State) : Out :=
  onHost s fun s => gated s h 0x21 0 (segDataBytes tid.toNat offset.toNat bytes) fun s =>
    match findTransfer s h.chan tid.toNat with
    | none => s
    | some t =>
      if t.write = false ∨ t.queued then s else
      let b := bytes.take 1408
      let t := if offset.toNat = t.acked then
          { t with data := t.data ++ b, acked := t.acked + b.length, unacked := t.unacked + 1 }
        else { t with unacked := t.unacked + 1 }
      let s := putTransfer s t
      if t.len ≤ t.acked then finishWrite s t
      else if 4 ≤ t.unacked then
        originate (putTransfer s { t with unacked := 0 }) h.chan 0x22 (segAckBytes t.tid 0 t.window 0 t.acked)
      else s

/-- An acknowledgement advances the window of a read. -/
def execSegAck (h : MsgHead) (tid : BitVec 8) (status : AckStatus) (window : BitVec 8) (received : BitVec 32) (s : State) : Out :=
  onHost s fun s => gated s h 0x22 0 (segAckBytes tid.toNat status.code.toNat window.toNat status.error.toNat received.toNat) fun s =>
    match findTransfer s h.chan tid.toNat with
    | none => s
    | some t =>
      if t.write then s
      else if status.code.toNat = 2 then abortEvent (dropTransfer s h.chan t.tid) t 3
      else
        let a := if received.toNat ≤ t.sentTo ∧ t.acked ≤ received.toNat then received.toNat else t.acked
        if status.code.toNat = 1 ∨ a = t.len then dropTransfer s h.chan t.tid
        else
          let (s, t) := pumpRead 8 s { t with acked := a, window := window.toNat }
          putTransfer s t

/-- The peer aborts a transfer. -/
def execSegAbort (h : MsgHead) (tid : BitVec 8) (reason : BitVec 8) (s : State) : Out :=
  onHost s fun s => gated s h 0x23 0 [tid, reason, 0#8, 0#8] fun s =>
    match findTransfer s h.chan tid.toNat with
    | none => s
    | some t => abortEvent (dropTransfer s h.chan t.tid) t reason.toNat

/-- 10 ms after the last unacknowledged segment the receiver acknowledges. -/
def execSegAckTimer (chan : Channel) (tid : BitVec 8) (s : State) : Out :=
  onHost s fun s =>
    match findTransfer s chan tid.toNat with
    | none => s
    | some t =>
      if t.write ∧ t.queued = false ∧ 0 < t.unacked then
        originate (putTransfer s { t with unacked := 0 }) chan 0x22 (segAckBytes t.tid 0 t.window 0 t.acked)
      else s

/-- No progress for 200 ms: the sender resends from the acknowledged count. -/
def execSegResendTimer (chan : Channel) (tid : BitVec 8) (s : State) : Out :=
  onHost s fun s =>
    match findTransfer s chan tid.toNat with
    | none => s
    | some t =>
      if t.write then s else
      let (s, t) := pumpRead 8 s { t with sentTo := t.acked }
      putTransfer s t

/-- No progress for 5 s aborts the transfer, except while the module holds the window at 0. -/
def execSegTransferTimeout (chan : Channel) (tid : BitVec 8) (s : State) : Out :=
  onHost s fun s =>
    match findTransfer s chan tid.toNat with
    | none => s
    | some t =>
      if t.queued ∨ (t.write ∧ t.window = 0) then s else
      let s := originate (dropTransfer s chan t.tid) chan 0x23 [BitVec.ofNat 8 t.tid, 1#8, 0#8, 0#8]
      abortEvent s t 1

/-! ### Safety sessions (R365) -/

/-- SAFETY_OPEN: a challenge, or result 2 at once during a lockout; on the service port of a retired card it is refused with the error for
access (R366). -/
def execSafetyOpen (h : MsgHead) (s : State) : Out :=
  onHost s fun s => gated s h 0x40 0 [] fun s =>
    if h.chan = .service ∧ s.obj 0x2040 1 = 4 then
      respond s h.chan 0x43 h.seq.toNat (BitVec.ofNat 8 errAccess :: leBytes 4 0)
    else if lockedOut s then
      respond s h.chan 0x43 h.seq.toNat (2#8 :: leBytes 4 (lockoutLeft s : Int))
    else
      let (k, s) := s.draw
      let n := freeBytes 16 k
      let s := s.setSession h.chan { s.session h.chan with nonce := some n }
      respond s h.chan 0x41 h.seq.toNat (padTo 16 s.log.salt ++ leBytes 4 100000 ++ n)

/-- SAFETY_PROOF: hmac_sha256(D, "EOP-P" | nonce | sid) opens the safety session; a failure counts (R292, R365). -/
def execSafetyProof (h : MsgHead) (proof : List Byte) (s : State) : Out :=
  onHost s fun s => gated s h 0x42 0 proof fun s =>
    let x := s.session h.chan
    match x.nonce with
    | none => s
    | some n =>
      let s := s.setSession h.chan { x with nonce := none }
      if lockedOut s then respond s h.chan 0x43 h.seq.toNat (2#8 :: leBytes 4 (lockoutLeft s : Int))
      else if s.log.derived ≠ [] ∧ proof = hmacSha256 s.log.derived (asciiBytes "EOP-P" ++ n ++ sidBytes x.sid) then
        let s := passwordPassed s
        let s := (s.setSession h.chan { s.session h.chan with safety := true }).setObjBit 0x1211 2 (chanBit h.chan) true
        respond (safetyEvent s (chanOwner h.chan) 1) h.chan 0x43 h.seq.toNat (0#8 :: leBytes 4 0)
      else
        let s := safetyEvent (passwordFailed s (chanOwner h.chan).toNat) (chanOwner h.chan) 3
        respond s h.chan 0x43 h.seq.toNat (1#8 :: leBytes 4 (lockoutLeft s : Int))

/-- SAFETY_CLOSE. -/
def execSafetyClose (h : MsgHead) (s : State) : Out :=
  onHost s fun s => gated s h 0x44 0 [] fun s => closeSafety s h.chan

/-- No RWS write for 0x1211:1 seconds. -/
def execSafetySessionTimeout (chan : Channel) (s : State) : Out := onHost s fun s => closeSafety s chan

/-! ### The network (R356, R379, R380) -/

/-- A LAN comes up. -/
def lanUp (s : State) (lan : Nat) : State :=
  if bitOf (s.obj 0x1101 1) lan then s else
  let secs := elapsedNs s.clk (storeGet (fun _ => 0) s.host.lanDown lan) s.clk.c / 1000000000
  raise (s.setObjBit 0x1101 1 lan true) 0x0D0C 2 [d32 lan, d32 secs]

/-- A frame arrives on a LAN: counted, the node table refreshed, an identifier that names the other LAN and duplicates judged. -/
def execPrpFrameReceived (lan : Fin 2) (src : BitVec 48) (trailer : Bool) (lanId : BitVec 4) (seq : BitVec 16) (s : State) :
    Out :=
  onHost s fun s =>
    let p := lan.val
    let s := (lanUp s p).bump 0x1101 (2 + p)
    let h := s.host
    let known := h.nodes.any (fun n => n.1 == src.toNat)
    let nodes := if known then h.nodes.map (fun n => if n.1 == src.toNat then (n.1, s.clk.c) else n)
      else if h.nodes.length < 128 then h.nodes ++ [(src.toNat, s.clk.c)] else h.nodes
    let s := { s with host := { h with nodes := nodes, lanHeard := storePut (fun _ => 0) h.lanHeard p s.clk.c } }
    let s := s.setObj 0x1101 7 nodes.length
    if trailer = false then s else
    let wrong := decide (lanId.toNat = 0xB - p)
    let onset := wrong && !s.host.wrongLan.contains p
    let s := if wrong then s.bump 0x1101 (4 + p) else s
    let s := { s with host := { s.host with wrongLan :=
      if wrong then (if onset then s.host.wrongLan ++ [p] else s.host.wrongLan) else s.host.wrongLan.filter (· != p) } }
    let s := if onset then raise s 0x0D0D 2 [d32 p, d32 (s.obj 0x1101 (4 + p))] else s
    let live := s.host.seen.filter (fun e => decide (elapsedNs s.clk e.2.2 s.clk.c < s.obj 0x1100 1 * 1000000))
    if live.any (fun e => e.1 == src.toNat && e.2.1 == seq.toNat) then
      { s.bump 0x1101 6 with host := { s.host with seen := live } }
    else { s with host := { s.host with seen := live ++ [(src.toNat, seq.toNat, s.clk.c)] } }

/-- A supervision frame on both LANs (R379). -/
def execPrpSupervisionSend (s : State) : Out :=
  onHost s fun s =>
    prpSend s ([0x01#8, 0x15#8, 0x4E#8, 0x00#8, 0x01#8, BitVec.ofNat 8 (s.objN 0x1100 4)] ++ beBytes 6 (s.obj 0x1010 4))

/-- A LAN has no link, or hears nothing for three life-check intervals while the other LAN does (R380). -/
def execPrpLanTimeout (lan : Fin 2) (noLink : Bool) (s : State) : Out :=
  onHost s fun s =>
    let p := lan.val
    if bitOf (s.obj 0x1101 1) p ∧ (noLink ∨ bitOf (s.obj 0x1101 1) (1 - p)) then
      let s := { s with host := { s.host with lanDown := storePut (fun _ => 0) s.host.lanDown p s.clk.c } }
      raise (s.setObjBit 0x1101 1 p false) 0x0D0B 2 [d32 p]
    else s

/-- A node table entry is forgotten. -/
def execPrpNodeForget (src : BitVec 48) (s : State) : Out :=
  onHost s fun s =>
    let nodes := s.host.nodes.filter (fun n => n.1 != src.toNat)
    { s with host := { s.host with nodes := nodes } }.setObj 0x1101 7 nodes.length

/-- An ARP request for the module's address is answered (R356). -/
def execArpRequest (lan : Fin 2) (target : BitVec 32) (sender : BitVec 32) (senderMac : BitVec 48) (s : State) : Out :=
  onHost s fun s =>
    if s.host.ip = 0 ∨ target.toNat ≠ s.host.ip ∨ 2 ≤ lan.val then s else
    prpSend s (beBytes 6 (senderMac.toNat : Int) ++ beBytes 6 (s.obj 0x1010 4) ++ beBytes 2 (0x0806 : Nat)
      ++ beBytes 2 (1 : Nat) ++ beBytes 2 (0x0800 : Nat) ++ [6#8, 4#8] ++ beBytes 2 (2 : Nat) ++ beBytes 6 (s.obj 0x1010 4)
      ++ beBytes 4 (s.host.ip : Int) ++ beBytes 6 (senderMac.toNat : Int) ++ beBytes 4 (sender.toNat : Int))

/-- An ICMP echo request to the module's address is answered with the same body; fragments are discarded (R356). -/
def execIcmpEcho (dst : BitVec 32) (src : BitVec 32) (fragment : Bool) (body : List Byte) (s : State) : Out :=
  onHost s fun s =>
    if s.host.ip = 0 ∨ dst.toNat ≠ s.host.ip ∨ fragment then s else
    prpSend s (beBytes 4 (src.toNat : Int) ++ beBytes 4 (s.host.ip : Int) ++ [0#8, 0#8] ++ body)

/-! ### The service port (R366) -/

/-- The port is attached. -/
def execServicePortAttach (s : State) : Out :=
  onHost s fun s => if s.obj 0x1500 1 = 0 then raise (s.setObj 0x1500 1 1) 0x0D10 2 [d32 1] else s

/-- The port is detached: its session ends. -/
def execServicePortDetach (s : State) : Out :=
  onHost s fun s =>
    if s.obj 0x1500 1 = 0 then s else
    let s := endSession s .service 1
    let s := { s with host := { s.host with shakes := s.host.shakes.filter (fun x => !(x.chan == Channel.service)) } }
    raise (s.setObj 0x1500 1 0) 0x0D10 2 [d32 0]

/-- The pre-shared key is written: in COMMISSION, or inside the writer's safety session; it is logged with both values as
zero bytes and used from the next handshake (R364). -/
def execPreSharedKeyWrite (key : List Byte) (s : State) : Out :=
  onHost s fun s =>
    let o := match (takeWrite 0x1210 1 (s.host.due ++ s.host.batch)).1 with
      | some w => w.origin
      | none => Origin.eop
    let inSafety : Bool := match originChan o with
      | some c => (s.session c).safety
      | none => s.alley.lock
    let err := if key.length ≠ 32 then errType else if s.obj 0x2040 1 = 1 ∨ inSafety then errOk else errSafety
    rwsWrite s 0x1210 1 err (fun s => logChange s 0x1210 1 o 32 [] []) fun s =>
      let s := { s.setB 0x1210 4 true with host := { s.host with psk := key } }
      raise s 0x0D11 2 [d32 (originOwner o)]

end Sys2Proof.Machine
end

