-- ==== Sys2Proof/Machine/Alley.lean ====
section
/-!
DEFINITION. Alley, the management target (R66, R381 to R386, R421), but the two commands that reset the module.
Marks (notes/assumptions): DEDUCED 96, 167.
-/
namespace Sys2Proof.Machine

/-- The management target has its supply, the 3.3 V standby (R381, R423). -/
def hkUp (s : State) : Bool := s.pwr.standbyUp

/-- The CRC of a command frame: over the address byte with its write bit and every byte before the CRC (R382). -/
def cmdCrc (s : State) (code : Nat) (payload : List Byte) : Nat :=
  crc8 (BitVec.ofNat 8 (2 * s.objN 0x1400 1) :: BitVec.ofNat 8 code :: BitVec.ofNat 8 payload.length :: payload)

/-- HK holds a response until the next command (R382). -/
def holdResponse (s : State) (status : Nat) (payload : List Byte) : State :=
  { s with alley := { s.alley with response := some (status, payload) } }

/-- A command frame has come in: it is counted and, while the host domain runs, passes lane 33. -/
def alleyIn (s : State) : State := whenS s.hostUp (s.bump 0x1400 3) (passLane · 33)

/-- A state-changing command is recorded with its result. -/
def alleyEvent (s : State) (code result : Nat) : State := raiseHk s 0x0D0F [d32 code, d32 result]

/-- A command is refused with a status; one that R383 records is recorded, the status as its result. -/
def alleyRefuse (s : State) (code status : Nat) : State :=
  holdResponse (if [0x06, 0x08, 0x09, 0x11, 0x12].contains code then alleyEvent s code status else s) status []

/-- A command frame: counted, its CRC checked, refused with status 5 where it needs the host domain and that is down whatever its
length (R384), with status 7 for its length, and with status 6 where it needs the lock and that is closed; else `f` carries it out. -/
def alleyCmd (s : State) (code : Nat) (payload : List Byte) (crc : BitVec 8) (len : Nat) (onStandby needsLock : Bool)
    (f : State → State) : State :=
  if hkUp s = false then s else
  let s := alleyIn s
  if crc.toNat ≠ cmdCrc s code payload then holdResponse (s.bump 0x1400 4) 2 []
  else if s.hostUp = false ∧ onStandby = false then alleyRefuse s code 5
  else if payload.length ≠ len then alleyRefuse s code 7
  else if needsLock ∧ s.alley.lock = false then alleyRefuse s code 6
  else f s

/-- IDENTITY (R383). -/
def execIdentity (payload : List Byte) (crc : BitVec 8) (s : State) : Out :=
  .next (alleyCmd s 0x01 payload crc 0 true false fun s =>
    holdResponse s 0 (asciiBytes "SC576-01" ++ serialBytes ++ d16 (s.obj 0x1000 4) ++ d32 (s.obj 0x1000 5)
      ++ d8 (s.obj 0x1400 2)))

/-- HEALTH (R383, R384): what the host domain supplies reads with every bit set while it is down. -/
def execHealth (payload : List Byte) (crc : BitVec 8) (s : State) : Out :=
  .next (alleyCmd s 0x02 payload crc 0 true false fun s =>
    let h (n : Nat) (v : Int) : List Byte := if s.hostUp then leBytes n v else leBytes n (-1)
    let flags : Int := (if s.pwr.mainUp then 1 else 0) + (if s.hostUp then 2 else 0)
      + (if s.hostUp ∧ s.stringUp then 4 else 0) + (if s.obj 0x6801 0 ≠ 0 then 8 else 0)
    holdResponse s 0 (d8 flags ++ d8 (s.obj 0x2040 1) ++ h 1 s.profile ++ h 1 s.role ++ h 1 (s.obj 0x6800 1)
      ++ h 4 (s.obj 0x2004 0) ++ h 2 (s.obj 0x2805 0) ++ d16 (s.obj 0x6040 1) ++ d32 (s.obj 0x2060 4)
      ++ leBytes 3 (s.obj 0x2060 3) ++ d8 (s.obj 0x2050 3) ++ d8 (s.obj 0x2060 1)))

/-- EVENT_NEWEST (R383). -/
def execEventNewest (payload : List Byte) (crc : BitVec 8) (s : State) : Out :=
  .next (alleyCmd s 0x03 payload crc 0 true false fun s =>
    holdResponse s 0 (d32 (s.obj 0x8000 1) ++ leBytes 2 (s.evt.founding.length : Int) ++ leBytes 2 (s.evt.circ.length : Int)))

/-- The stored record of a number, if an area holds it and it is not torn (R421). -/
def recordOf (s : State) (num : Nat) : Option (List Byte) :=
  ((s.evt.founding ++ s.evt.circ).find? (fun p => recNumber p.2 == num && recValid p.2)).map (·.2)

/-- EVENT_READ: a quarter of a record by number; a number no area holds is answered with status 7 (R421). -/
def execEventRead (payload : List Byte) (crc : BitVec 8) (s : State) : Out :=
  .next (alleyCmd s 0x04 payload crc 5 true false fun s =>
    let q := getLe payload 4 1
    match recordOf s (getLe payload 0 4) with
    | some r => if q ≤ 3 then holdResponse s 0 (BitVec.ofNat 8 q :: sliceAt r (16 * q) 16) else holdResponse s 7 []
    | none => holdResponse s 7 [])

/-- LIFECYCLE_GET (R383). -/
def execLifecycleGet (payload : List Byte) (crc : BitVec 8) (s : State) : Out :=
  .next (alleyCmd s 0x05 payload crc 0 true false fun s =>
    holdResponse s 0 (d8 (s.obj 0x2040 1) ++ d8 (s.obj 0x2040 3)))

/-- BANK_GET (R383). -/
def execBankGet (payload : List Byte) (crc : BitVec 8) (s : State) : Out :=
  .next (alleyCmd s 0x07 payload crc 0 true false fun s =>
    holdResponse s 0 (d8 (s.obj 0x2050 3) ++ d8 (s.obj 0x2050 4) ++ d8 (s.obj 0x2050 5)))

/-- BANK_SELECT under the lock: a valid bank only (R383, R436). -/
def execBankSelect (payload : List Byte) (crc : BitVec 8) (s : State) : Out :=
  .next (alleyCmd s 0x08 payload crc 2 true true fun s =>
    let k := getLe payload 0 1
    if getLe payload 1 1 ≠ 0x5A ∨ 1 < k then alleyRefuse s 0x08 7
    else if bitOf (s.obj 0x2050 5) k = false then holdResponse (alleyEvent s 0x08 1) 0 [1#8]
    else
      let s := if s.obj 0x2050 4 = k then s else { s with pwr := { s.pwr with trialNext := true } }
      let s := raiseHk (s.setObj 0x2050 4 k) 0x0F0A [d8 k, d32 2]
      holdResponse (alleyEvent s 0x08 0) 0 [0#8])

/-- The lock object 0x1400:5: 2 where it is open in SERVICE. -/
def showLock (s : State) : State :=
  let s := s.setObj 0x1400 5 (if s.alley.lock then (if s.obj 0x2040 1 = 3 then 2 else 1) else 0)
  s.setObjBit 0x1211 2 2 s.alley.lock

/-- A safety session of Alley opens, closes or fails. -/
def alleySafety (s : State) (what : Int) : State := raiseHk s 0x0D05 [d32 3, d32 what]

/-- Closes the lock; a pending set it owns is discarded (R373). -/
def closeLock (s : State) : State :=
  if s.alley.lock then
    let s := showLock { s with alley := { s.alley with lock := false, nonce := none } }
    let s := alleySafety s 2
    if s.obj 0x2020 4 = 3 then discardPending s 1 else s
  else { s with alley := { s.alley with nonce := none } }

/-- LOCK_CHALLENGE: salt, iteration count and a fresh nonce (R385); status 6 while a lockout runs, in which no attempt is evaluated (R292,
R382; DEDUCED 167). -/
def execLockChallenge (payload : List Byte) (crc : BitVec 8) (s : State) : Out :=
  .next (alleyCmd s 0x10 payload crc 0 true false fun s =>
    if lockedOut s then holdResponse s 6 [] else
    let (k, s) := s.draw
    let n := freeBytes 8 k
    holdResponse { s with alley := { s.alley with nonce := some n } } 0 (padTo 16 s.log.salt ++ leBytes 4 100000 ++ n))

/-- LOCK_PROOF: the first 16 bytes of hmac_sha256(D, "ALY-P" | nonce) open the lock (R292, R385). -/
def execLockProof (payload : List Byte) (crc : BitVec 8) (s : State) : Out :=
  .next (alleyCmd s 0x11 payload crc 16 true false fun s =>
    let s1 := { s with alley := { s.alley with nonce := none } }
    if lockedOut s then holdResponse (alleyEvent s1 0x11 2) 0 (2#8 :: leBytes 4 (lockoutLeft s : Int))
    else match s.alley.nonce with
      | some n =>
        if s.log.derived ≠ [] ∧ payload = (hmacSha256 s.log.derived (asciiBytes "ALY-P" ++ n)).take 16 then
          let s := passwordPassed s1
          let s := alleySafety (showLock { s with alley := { s.alley with lock := true } }) 1
          holdResponse (alleyEvent s 0x11 0) 0 (0#8 :: leBytes 4 0)
        else
          let s := alleySafety (passwordFailed s1 3) 3
          holdResponse (alleyEvent s 0x11 1) 0 (1#8 :: leBytes 4 (lockoutLeft s : Int))
      | none => holdResponse (alleyEvent s1 0x11 1) 0 (1#8 :: leBytes 4 0))

/-- LOCK_CLOSE (R385). -/
def execLockClose (payload : List Byte) (crc : BitVec 8) (s : State) : Out :=
  .next (alleyCmd s 0x12 payload crc 0 true false fun s => holdResponse (alleyEvent (closeLock s) 0x12 0) 0 [])

/-- The lock idles past 0x1211:1 (R385). -/
def execAlleyLockTimeout (s : State) : Out := .next (closeLock s)

/-- OBJECT_READ (R383). -/
def execObjectRead (payload : List Byte) (crc : BitVec 8) (s : State) : Out :=
  .next (alleyCmd s 0x20 payload crc 4 false false fun s =>
    let i := getLe payload 0 2
    let sub := getLe payload 2 2
    let (e, t, v) := readItem s false i sub
    let e := if 24 < v.length then errTooLong else e
    let v := if 24 < v.length then [] else v
    holdResponse s 0 ([BitVec.ofNat 8 e, BitVec.ofNat 8 t, BitVec.ofNat 8 v.length] ++ v))

/-- OBJECT_WRITE: refused where Alley writes are off, where the lock is missing for an RWS or staged object, for a DOMAIN, for a
value longer than the frame allows, on a card that is not ACTIVE and on a retired one (R444); else placed in the mailbox and answered BUSY (R66, R385).
A frame of another length than its length byte says is answered with status 7 (R382). -/
def execObjectWrite (payload : List Byte) (crc : BitVec 8) (s : State) : Out :=
  let n := getLe payload 5 1
  .next (alleyCmd s 0x21 payload crc (if 6 ≤ payload.length ∧ 21 < n then payload.length else 6 + n) false false fun s =>
    let i := getLe payload 0 2
    let sub := getLe payload 2 2
    let rws : Bool := match objInfo s i sub with | some r => r.access == .rws | none => false
    let dom : Bool := match objInfo s i sub with | some r => r.ty == .domain | none => false
    if s.obj 0x1400 6 = 0 ∨ s.obj 0x2040 1 = 4 then holdResponse s 4 []
    else if (rws ∨ staged i sub) ∧ s.alley.lock = false then holdResponse s 6 []
    else if dom then holdResponse s 0 [BitVec.ofNat 8 errSegmented]
    else if 21 < n then holdResponse s 0 [BitVec.ofNat 8 errTooLong]
    else if s.isActive = false ∧ !(i == 0x7005 && sub == 0) then
      holdResponse (itemRefused s i sub errState (payload.drop 6)) 0 [BitVec.ofNat 8 errState]
    else
      let w : WriteReq := ⟨i, sub, (getLe payload 4 1 : Nat), payload.drop 6, .alley, s.alley.lock, 0, 0, 0⟩
      holdResponse { s with alley := { s.alley with mailbox := some ⟨w, false, none⟩ } } 1 [])

/-- AC2 examines the mailbox: the write is checked as an EOP write is; one that fails gets its error at once, one that passes
goes to the pending set or, where it has room, to lane 41 (R66). -/
def execAlleyMailboxPoll (s : State) : Out :=
  onHost s fun s =>
    match s.alley.mailbox with
    | none => s
    | some m =>
      if m.pushed ∨ m.result.isSome then s else
      let w := m.req
      let put (s : State) (m : Mailbox) : State := { s with alley := { s.alley with mailbox := some m } }
      let err := checkItem s true w.locked w.index w.sub w.val.toNat w.bytes
      if err ≠ 0 then put (itemRefused s w.index w.sub err w.bytes) { m with result := some err }
      else
        let r := objInfo s w.index w.sub
        let v := decodeVal (match r with | some r => r.ty | none => .u8) w.bytes
        if staged w.index w.sub then
          let (e, s) := stageValue s .alley w.index w.sub v (match r with | some r => r.access == .rws | none => false)
          put s { m with result := some e }
        else if lane41Full s then s.bump 0x2101 42
        else
          let w := { w with val := v }
          put (lanePush s 41 (.write w)) { m with req := w, pushed := true }

/-- A response frame as it is read: status, length, payload and the CRC over the address byte with its read bit and what
precedes (R382). -/
def responseFrame (s : State) (status : Nat) (payload : List Byte) : List Byte :=
  let b := BitVec.ofNat 8 status :: BitVec.ofNat 8 payload.length :: payload
  b ++ [BitVec.ofNat 8 (crc8 (BitVec.ofNat 8 (2 * s.objN 0x1400 1 + 1) :: b))]

/-- A response leaves for the chassis manager, through lane 12 while the host domain runs. -/
def alleyOut (s : State) (status : Nat) (payload : List Byte) : State :=
  (whenS s.hostUp s (passLane · 12)).send 4 (responseFrame s status payload)

/-- The chassis manager reads: the response held, BUSY while a write waits, its result once known (the mailbox is then
free), or status 8 where nothing is held (R66, R382, R385). -/
def execAlleyResponseRead (s : State) : Out :=
  if hkUp s = false then .next s else
  let s := match s.alley.mailbox with
    | some m => match m.result with
      | some e => holdResponse { s with alley := { s.alley with mailbox := none } } 0 [BitVec.ofNat 8 e]
      | none => s
    | none => s
  match s.alley.response with
  | some (st, p) => .next (alleyOut s st p)
  | none => .next (alleyOut s 8 [])

end Sys2Proof.Machine
end

