-- ==== Sys2Proof/Machine/Can.lean ====
section
/-!
DEFINITION. The CAN FD controllers (R387 to R407). The error counters follow ISO 11898-1, which the spec names.
Marks (notes/assumptions): DEDUCED 81, 82, 83; PRESUMED 80; DESIGN CHOICE 150, 168.
-/
namespace Sys2Proof.Machine

/-- An event of a controller. -/
def raiseCan (s : State) (b code : Nat) (flds : List Fld) : State := raise s code 14 (d32 b :: flds)

/-- The data length a DLC gives; a classic frame has at most 8 bytes. -/
def canLen (fd : Bool) (dlc : Nat) : Nat :=
  if dlc ≤ 8 then dlc else if fd then ([12, 16, 20, 24, 32, 48, 64] : List Nat).getD (dlc - 9) 64 else 8

/-- The smallest DLC whose length is at least `n`. -/
def canDlc (fd : Bool) (n : Nat) : Nat := ((List.range 16).find? (fun d => decide (n ≤ canLen fd d))).getD 15

/-! ### Bit timing (R388, R389) -/

/-- Prescaler of the nominal phase, of a rate in kbit/s. -/
def nominalPrescaler (rate : Nat) : Nat := 1000 / rate

/-- Prescaler of the data phase. -/
def dataPrescaler (rate : Nat) : Nat := if rate = 1000 then 2 else 1

/-- Quanta per bit, N = 80 MHz / (prescaler × rate). -/
def canQuanta (prescaler rate : Nat) : Nat := 80000 / (prescaler * rate)

/-- tseg1 = round(N × sample point) − 1, half up. -/
def canTseg1 (n point : Nat) : Nat := (n * point + 500) / 1000 - 1

/-- tseg2 = N − 1 − tseg1. -/
def canTseg2 (n point : Nat) : Nat := n - 1 - canTseg1 n point

/-- The synchronisation jump width, SJW = tseg2. -/
def canSjw (n point : Nat) : Nat := canTseg2 n point

/-- The secondary sample point, ns: the delay measured and tseg1 + 1 quanta of the data phase. -/
def canSecond (x : CanRate) (delay : Nat) : Rat :=
  let p := dataPrescaler x.rate
  (delay : Rat) + ((canTseg1 (canQuanta p x.rate) x.point + 1) * p : Nat) * 25 / 2

/-- At a reset the rates and sample points of B+0x01 come into force, and the filter lists stand as stored (R388, R402). -/
def canStart (s : State) : State :=
  showFilters ([0, 1, 2].foldl (fun s b =>
    let i := canIx b + 1
    s.setCan b { s.can b with nominal := ⟨s.objN i 1, s.objN i 2⟩, data := ⟨s.objN i 3, s.objN i 4⟩ }) s)

/-! ### The parts of an element (R391) -/

/-- The identifier word. -/
def elWord (e : List Byte) : Nat := getLe e 0 4

/-- The identifier. -/
def wordId (w : Nat) : Nat := w % 536870912

/-- The source. -/
def elSource (e : List Byte) : Nat := getLe e 5 1 / 32

/-- The retry limit that holds for it (R395). -/
def elLimit (s : State) (b : Nat) (e : List Byte) : Nat :=
  let r := getLe e 5 1
  if r.testBit 4 then r % 16 else s.objN (canIx b) 3

/-- The element is malformed: BRS without FDF, RTR with FDF, identifier bits beyond its format, or bits of byte 4 that are not
zero; a CAN FD frame is not sent while the controller has CAN FD disabled (R387, R391). -/
def elBad (s : State) (b : Nat) (e : List Byte) : Bool :=
  let w := elWord e
  let f := getLe e 4 1
  (w.testBit 31 && !w.testBit 30) || (f.testBit 4 && w.testBit 30) || (!w.testBit 29 && decide (2048 ≤ wordId w))
    || decide (32 ≤ f) || (w.testBit 30 && !s.objB (canIx b + 1) 5)

/-- The frame that goes to the bus for an element: identifier word, format, and as many data bytes as its DLC gives, 8 for a classic
frame with a DLC of 9 to 15, none for a remote frame (R391). -/
def canFrame (e : List Byte) : List Byte :=
  let w := elWord e
  let f := getLe e 4 1
  e.take 5 ++ (if f.testBit 4 then [] else sliceAt e 8 (canLen (w.testBit 30) (f % 16)))

/-- The arbitration field as it goes to the bus, most significant bit first: identifier, then the format bits (R393). A lower
number wins. -/
def arbField (e : List Byte) : Nat :=
  let w := elWord e
  let rtr := if (getLe e 4 1).testBit 4 then 1 else 0
  let i := wordId w
  if w.testBit 29 then i / 262144 * 2097152 + 1572864 + i % 262144 * 2 + rtr
  else i * 2097152 + rtr * 1048576

/-! ### Results (R394, R395) -/

/-- A frame has ended with a status: the host's result, and the event of every status but SENT. -/
def canResult (s : State) (b : Nat) (e : List Byte) (status attempts : Nat) : State :=
  let tag := getLe e 6 2
  let s := if elSource e = 0 then s.setObj (canIx b + 0x19) 4 ((tag + 65536 * status + 16777216 * attempts : Nat) : Int) else s
  if status = 1 then s else
  raiseCan s b 0x0E03 [d32 (wordId (elWord e) : Nat), d32 status, d32 attempts, d32 (elSource e : Nat), d32 tag]

/-- The buffers' states show in B+0x19. -/
def canShow (s : State) (b : Nat) : State :=
  let x := s.can b
  (List.range 3).foldl (fun s k =>
    s.setObj (canIx b + 0x19) (k + 1) (if x.sending = some k then 2 else if (x.bufs.getD k none).isSome then 1 else 0)) s

/-- The transmit order of B+0x00:2 takes effect when all three buffers are free (R393). -/
def canOrder (s : State) (b : Nat) : State :=
  let x := s.can b
  if x.bufs.all (·.isNone) ∧ x.order ≠ s.objN (canIx b) 2 then s.setCan b { x with order := s.objN (canIx b) 2 } else s

/-- A buffer is freed. -/
def canFree (s : State) (b k : Nat) : State :=
  let x := s.can b
  canShow (canOrder (s.setCan b { x with bufs := x.bufs.set k none, sending := if x.sending = some k then none else x.sending }) b) b

/-- A buffer aborts with a status other than UNACKED, which ends a row of UNACKED (R397). -/
def canDrop (s : State) (b k status : Nat) : State :=
  match (s.can b).bufs.getD k none with
  | some f => (canResult (canFree s b k) b f.elem status f.attempts).setObj (canIx b + 2) 15 0
  | none => s

/-- Every loaded buffer aborts with a status. -/
def canAbortAll (s : State) (b status : Nat) : State := (List.range 3).foldl (fun s k => canDrop s b k status) s

/-! ### States (R390, R398, R399, R406) -/

/-- Every station of a bus is LOST (R343). Causes: 2 bus-off, 5 controller disabled. -/
def canLose (s : State) (b cause : Nat) : State :=
  match s.prog.image with
  | some im => im.stations.foldl (fun s x => if x.bus = b then stationLost s x.num cause else s) s
  | none => s

/-- The state is brought up to date, with the event of a change and what entering a state does. -/
def canUpdate (s : State) (b : Nat) : State :=
  let i := canIx b + 2
  let old := s.obj i 1
  let new := canState s b
  if old = new then s else
  let s := raiseCan (s.setObj i 1 new) b 0x0E01 [d8 old, d8 new, d16 (s.obj i 2), d16 (s.obj i 3)]
  if new = 3 then canAbortAll s b 8 else if new = 4 then canLose s b 5 else s

/-- The frame goes to the bus next, by the order in force (R393). -/
def canNext (x : CanSt) : Option Nat :=
  let l := (List.range 3).filterMap (fun k => (x.bufs.getD k none).map (fun f => (k, f)))
  let better (a c : Nat × CanBuf) : Bool :=
    if x.order = 1 then decide (a.2.order < c.2.order) else decide (arbField a.2.elem < arbField c.2.elem)
  (l.foldl (fun (m : Option (Nat × CanBuf)) c => match m with
    | none => some c
    | some a => if better c a then some c else some a) none).map (·.1)

/-- Buffers whose frame is CAN FD, once B+0x01:5 is false: such a frame is not sent, and is dropped as INVALID like one that comes to
be loaded (R387; DESIGN CHOICE 168). -/
def canDropFd (s : State) (b : Nat) : State :=
  (List.range 3).foldl (fun s k =>
    match (s.can b).bufs.getD k none with
    | some f => if (elWord f.elem).testBit 30 ∧ s.objB (canIx b + 1) 5 = false then canDrop s b k 9 else s
    | none => s) s

/-- At a bus idle the controller starts the next frame, if it may send. -/
def canIdle (s : State) (b : Nat) : State :=
  let s := canDropFd s b
  let x := s.can b
  let may := decide (s.obj (canIx b + 2) 1 ≤ 1)
  canShow (s.setCan b { x with sending := if may then canNext x else none }) b

/-- The bus state is brought up to date; a frame on its way stays the one chosen at its bus idle, unless the controller may no longer
send (R390, R393, R406). -/
def canSettle (s : State) (b : Nat) : State :=
  let s := canOrder (canUpdate s b) b
  if (s.can b).sending.isSome ∧ s.obj (canIx b + 2) 1 ≤ 1 then s else canIdle s b

/-- At a boundary: roles take effect (R406). -/
def canBoundary (s : State) : State := [0, 1, 2].foldl canSettle s

/-! ### Error counters -/

/-- The transmit error counter takes a value; from 256 the controller is bus-off (R399). -/
def setTec (s : State) (b : Nat) (v : Int) : State :=
  let i := canIx b + 2
  if v < 256 then canUpdate (s.setObj i 2 v) b else
  let s := (s.setObj i 2 256).bump i 14
  let s := canUpdate (s.setCan b { s.can b with off := some s.clk.c, recovering := false }) b
  canLose (canAbortAll s b 6) b 2

/-- LONE_NODE ends with the count of aborts (R397). Causes: 1 acknowledged, 2 received. -/
def canCompany (s : State) (b cause : Nat) : State :=
  let i := canIx b + 2
  let s := s.setObj i 15 0
  if bitOf (s.obj i 4) 0 then raiseCan (s.setObjBit i 4 0 false) b 0x0E06 [d32 cause] else s

/-- An abort with UNACKED is counted; the third in a row sets LONE_NODE (R397). -/
def canUnacked (s : State) (b : Nat) : State :=
  let i := canIx b + 2
  let s := s.bumpSat i 15 255
  if 3 ≤ s.obj i 15 ∧ bitOf (s.obj i 4) 0 = false then raiseCan (s.setObjBit i 4 0 true) b 0x0E05 [d16 (s.obj i 2)] else s

/-! ### Transmission (R391 to R397) -/

/-- An element of lane 9 to 11 enters a free buffer by the transmit order, or is discarded (R391, R393, R395). -/
def execCanBufferLoad (bus : Fin 3) (s : State) : Out :=
  onString s fun s =>
    let b := bus.val
    let st := canState s b
    let x := s.can b
    match (s.lane (9 + b)).elems with
    | .bytes e :: _ =>
      let take (s : State) : State := (laneTake s (9 + b)).2
      if st = 3 then canResult (take s) b e 8 0
      else if st = 2 ∨ st = 4 ∨ st = 5 then canResult (take s) b e 7 0
      else if elBad s b e then canResult (take s) b e 9 0
      else
        let slot := if x.order = 1 then (if (x.bufs.getD x.rotate none).isNone then some x.rotate else none)
          else (List.range 3).find? (fun k => (x.bufs.getD k none).isNone)
        match slot with
        | none => s
        | some k =>
          let x := { x with bufs := x.bufs.set k (some { elem := e, order := x.loads }), loads := x.loads + 1,
                            rotate := if x.order = 1 then (k + 1) % 3 else x.rotate }
          let s := (take s).setCan b x
          if x.sending.isSome then canShow s b else canIdle s b
    | _ => s

/-- The transmit error counter after a failed attempt, as ISO 11898-1 provides: an acknowledgement error of an error-passive
transmitter that saw no dominant bit, and a stuff error in the arbitration field, leave it. -/
def failTec (s : State) (b : Nat) (r : CanResult) : State :=
  let i := canIx b + 2
  let t := s.obj i 2
  match r with
  | .sent => setTec s b (if t = 0 then 0 else t - 1)
  | .arbitration => s
  | .stuff true => s
  | .ack quiet => if quiet ∧ (128 ≤ t ∨ 128 ≤ s.obj i 3) then s else setTec s b (t + 8)
  | _ => setTec s b (t + 8)

/-- Further rises by 8 that the error and overload flags after an attempt bring its transmitter: a bit error in the flag, and every 8
dominant bits after it, as ISO 11898-1 provides; none once the controller has gone bus-off (R398). -/
def moreTec (s : State) (b more : Nat) : State :=
  if more = 0 ∨ (s.can b).off.isSome then s else setTec s b (s.obj (canIx b + 2) 2 + 8 * more)

/-- The counters of a failed attempt. -/
def countFail (s : State) (b : Nat) (r : CanResult) : State :=
  let i := canIx b + 2
  match r with
  | .sent => s
  | .arbitration => s.bump i 7
  | .bit c => if c then (s.bump i 8).bump i 13 else s.bump i 8
  | .stuff _ => s.bump i 9
  | .form => s.bump i 10
  | .ack _ => s.bump i 12

/-- The status of an abort by the last failed attempt. -/
def failStatus (r : CanResult) : Nat :=
  match r with
  | .sent => 1
  | .arbitration => 2
  | .bit true => 5
  | .ack _ => 4
  | _ => 3

/-- The buffer aborts after its last attempt (R395 to R397); an abort of another status ends a row of UNACKED. -/
def canAbort (s : State) (b k : Nat) (f : CanBuf) (r : CanResult) : State :=
  let s := canResult (canFree s b k) b f.elem (failStatus r) f.attempts
  match r with
  | .bit true => raiseCan (s.setObj (canIx b + 2) 15 0) b 0x0E04 [d32 (wordId (elWord f.elem) : Nat), d32 f.collisions]
  | .ack _ => canUnacked s b
  | _ => s.setObj (canIx b + 2) 15 0

/-- The attempt came past the FDF-to-res transition, which follows the arbitration field. -/
def pastFdf (r : CanResult) : Bool :=
  match r with
  | .arbitration => false
  | .stuff true => false
  | _ => true

/-- The transmitter delay measured of a frame sent with bit-rate switching at 2,000 kbit/s or more in force (R389). -/
def canDelay (s : State) (b : Nat) (e : List Byte) (r : CanResult) (delay : Nat) : State :=
  let x := s.can b
  if (elWord e).testBit 31 ∧ 2000 ≤ x.data.rate ∧ pastFdf r then
    (s.setCan b { x with second := canSecond x.data delay }).setObj (canIx b + 1) 6 delay
  else s

/-- An attempt of the buffer that transmits ends; `delay` holds the transmitter delay measured (R389) and how many
further rises by 8 its error and overload flags bring (R398). A frame sent whole has left on the bus's link. -/
def execCanAttemptEnd (bus : Fin 3) (result : CanResult) (delay : CanMeasured) (s : State) : Out :=
  onString s fun s =>
    let b := bus.val
    match (s.can b).sending with
    | none => s
    | some k =>
      match (s.can b).bufs.getD k none with
      | none => s
      | some f =>
        let s := canDelay s b f.elem result delay.ns.toNat
        match result with
        | .sent =>
          let s := canResult ((canFree (s.send (14 + b) (canFrame f.elem)) b k).bump (canIx b + 2) 5) b f.elem 1 (f.attempts + 1)
          canIdle (moreTec (failTec (canCompany s b 1) b .sent) b delay.more.toNat) b
        | r =>
          let c := match r with | .bit true => 1 | _ => 0
          let f := { f with attempts := f.attempts + 1, collisions := f.collisions + c }
          let x := s.can b
          let s := moreTec (failTec (countFail (s.setCan b { x with bufs := x.bufs.set k (some f) }) b r) b r) b delay.more.toNat
          if ((s.can b).bufs.getD k none).isNone then s
          else if elLimit s b f.elem < f.attempts then canIdle (canAbort s b k f r) b
          else canIdle s b

/-- A host frame is pushed into the controller's lane (R394). -/
def execCanHostTransmit (bus : Fin 3) (element : List Byte) (s : State) : Out :=
  onHost s fun s =>
    let b := bus.val
    if element.length ≠ 72 then settle s (canIx b + 0x18) 0 errRange
    else settle (lanePush s (9 + b) (.bytes element)) (canIx b + 0x18) 0 errOk

/-! ### Recovery (R399) -/

/-- The recovery sequence starts. -/
def canRecover (s : State) (b : Nat) : State := canUpdate (s.setCan b { s.can b with recovering := true }) b

/-- The hold-off has passed in automatic mode. -/
def execCanRecoveryHoldoff (bus : Fin 3) (s : State) : Out :=
  onString s fun s =>
    let b := bus.val
    match (s.can b).off with
    | some c =>
      if (s.can b).recovering = false ∧ s.obj (canIx b) 4 = 0 ∧ s.obj (canIx b) 5 * 1000000 ≤ elapsedNs s.clk c s.clk.c then
        canRecover s b else s
    | none => s

/-- A write of 1 to B+0x00:6: STATE in any state but bus-off. -/
def execCanRecoverNow (bus : Fin 3) (s : State) : Out :=
  onHost s fun s =>
    let b := bus.val
    hostWrite s (canIx b) 6 (if canState s b = 2 then errOk else errState) fun s => canRecover s b

/-- The sequence ends: error active, both counters 0. -/
def execCanRecoveryComplete (bus : Fin 3) (s : State) : Out :=
  onString s fun s =>
    let b := bus.val
    match (s.can b).off with
    | some c =>
      if (s.can b).recovering = false then s else
      let i := canIx b + 2
      let s := (s.setObj i 2 0).setObj i 3 0
      let s := canUpdate (s.setCan b { s.can b with off := none, recovering := false }) b
      canIdle (raiseCan s b 0x0E02 [d32 (elapsedNs s.clk c s.clk.c / 1000000)]) b
    | none => s

/-- A write of 1 to B+0x02:16: :5 to :13 and :17 read 0. -/
def execCanClearCounters (bus : Fin 3) (s : State) : Out :=
  onHost s fun s =>
    let i := canIx bus.val + 2
    hostWrite s i 16 errOk fun s => ([5, 6, 7, 8, 9, 10, 11, 12, 13, 17] : List Nat).foldl (fun s k => s.setObj i k 0) s

/-! ### Filters (R400 to R403) -/

/-- What the filters decide of a frame: the element or pair, and the queues (A, B). -/
abbrev FilterHit := Nat × Bool × Bool

/-- An element of the native list matches a frame. -/
def nativeMatch (l : List Byte) (k word : Nat) : Bool :=
  let w0 := getLe l (8 * k) 4
  let w1 := getLe l (8 * k + 4) 4
  let i := wordId word
  let a := wordId w0
  let c := wordId w1
  w0.testBit 29 == word.testBit 29 &&
    (match w0 / 1073741824 with
    | 1 => decide (a ≤ i) && decide (i ≤ c)
    | 2 => i == a || i == c
    | 3 => (i &&& c) == (a &&& c)
    | _ => false)

/-- The native filter list: the first matching element decides, else the default action. -/
def nativeFilter (s : State) (b word : Nat) : FilterHit :=
  let l := s.dom (canIx b + 8) 1
  match (List.range (l.length / 8)).find? (fun k => nativeMatch l k word) with
  | some k =>
    match getLe l (8 * k + 4) 4 / 1073741824 with
    | 0 => (k, true, false)
    | 1 => (k, false, true)
    | 2 => (k, false, false)
    | _ => (k, true, true)
  | none => (127, decide (s.obj (canIx b) 9 = 0), false)

/-- The mask and match pairs of compatibility mode. -/
def pairFilter (s : State) (b word : Nat) : FilterHit :=
  let hit (p : Nat) : Bool :=
    let m := wordId (s.objN (canIx b + 9) p)
    let w := s.objN (canIx b + 10) p
    w.testBit 31 && (w.testBit 29 == word.testBit 29) && ((wordId word &&& m) == (wordId w &&& m))
  match ((List.range 8).map (· + 1)).find? hit with
  | some p => let q := (s.objN (canIx b + 10) p).testBit 30; (p, !q, q)
  | none => (0, false, false)

/-- The first element of a filter list that is refused, with the reason: 1 length, 2 range order, 3 identifier bits, 4 bit 29 of
word 1 (R402). -/
def filterBad (l : List Byte) : Option (Nat × Nat) :=
  if l.length % 8 ≠ 0 ∨ 1024 < l.length then some (l.length / 8, 1) else
  (List.range (l.length / 8)).findSome? (fun k =>
    let w0 := getLe l (8 * k) 4
    let w1 := getLe l (8 * k + 4) 4
    if w0 / 1073741824 = 1 ∧ wordId w1 < wordId w0 then some (k, 2)
    else if w0.testBit 29 = false ∧ (2048 ≤ wordId w0 ∨ 2048 ≤ wordId w1) then some (k, 3)
    else if w1.testBit 29 then some (k, 4) else none)

/-- A write of B+0x08:1 at the boundary where it takes effect (R402). -/
def execCanFilterListWrite (bus : Fin 3) (list : List Byte) (s : State) : Out :=
  onHost s fun s =>
    let i := canIx bus.val + 8
    match filterBad list with
    | some (k, r) => settle (raiseCan s bus.val 0x0E08 [d32 (objKey i 1 : Nat), d32 k, d32 r]) i 1 errRange
    | none => settle ((s.setDom i 1 list).setObj i 2 ((list.length / 8 : Nat) : Int)) i 1 errOk

/-! ### Reception (R400, R404) -/

/-- A station of the bus whose identifier and IDE the frame has; those whose format and length it also meets come first. -/
def canStations (s : State) (b word : Nat) : List Station :=
  match s.prog.image with
  | some im => im.stations.filter (fun x => x.bus == b && x.rxId == wordId word && (x.flags.testBit 0 == word.testBit 29))
  | none => []

/-- The receive error counter of a valid frame, as ISO 11898-1 provides: above 127 it takes a value from 119 to 127 that the
spec leaves open. -/
def goodRec (s : State) (b : Nat) : State :=
  let i := canIx b + 2
  let v := s.obj i 3
  if v = 0 ∨ canState s b = 3 then s
  else if v < 128 then canUpdate (s.setObj i 3 (v - 1)) b
  else
    let (t, s) := s.draw
    canUpdate (s.setObj i 3 ((119 + Config.freeBits t % 9 : Nat) : Int)) b

/-- Time after the boundary in 0.25 µs, 12 bits, under the frame number's low 4 bits. -/
def canTime (s : State) : Nat := s.frameNo % 16 * 4096 + ((s.now / 65536 - s.frame.sAt) / 250 % 4096).toNat

/-- The element a received frame reaches AC2 as: mark and place in byte 5. -/
def rxElem (s : State) (word fmt place : Nat) (mark qb : Bool) (data : List Byte) : List Byte :=
  leBytes 4 (word : Int) ++ [BitVec.ofNat 8 (fmt % 64 + (if mark then 64 else 0)), BitVec.ofNat 8 (place % 128 + (if qb then 128 else 0))]
    ++ leBytes 2 (canTime s : Nat) ++ padTo 64 data

/-- A received frame passes through lane 27 to 29. -/
def rxLane (s : State) (b : Nat) (e : List Byte) : State := (laneTake (lanePush s (27 + b) (.bytes e)) (27 + b)).2

/-- A queue entry of 88 bytes. -/
def queueEntry (s : State) (word fmt place : Nat) (data : List Byte) : List Byte :=
  leBytes 4 (word : Int) ++ [BitVec.ofNat 8 (fmt % 64), BitVec.ofNat 8 (place % 128), 0#8, 0#8] ++ d80 (time80 s.now) ++ [0#8, 0#8]
    ++ leBytes 4 (s.frameNo : Nat) ++ padTo 64 data

/-- A frame of a station's identifier that fails its format or length (R400). -/
def formatMiss (s : State) (b : Nat) (x : Station) (word len : Nat) : State :=
  let c := s.can b
  let last := c.formatC.find? (fun p => p.1 == x.num)
  let first : Bool := match last with | some p => decide (1000000000 ≤ elapsedNs s.clk p.2 s.clk.c) | none => true
  let s := (s.bump (canIx b + 2) 17).setCan b { c with formatC := storePut (fun _ => 0) c.formatC x.num s.clk.c }
  if first then raiseCan s b 0x0E09 [d32 x.num, d32 (wordId word : Nat), d32 len] else s

/-- The filters judge a frame that is no station's message. -/
def filterFrame (s : State) (b word fmt : Nat) (data : List Byte) : State :=
  let h := if s.obj (canIx b) 8 = 1 then pairFilter s b word else nativeFilter s b word
  let put (s : State) (q : Bool) : State :=
    canStore (rxLane s b (rxElem s word fmt h.1 false q data)) b q (queueEntry s word fmt h.1 data)
  let s := if h.2.1 then put s false else s
  if h.2.2 then put s true else s

/-- A frame has been received without error: identifier word, DLC with ESI (bit 4) and RTR (bit 5), and its data. -/
def execCanFrameReceived (bus : Fin 3) (word : BitVec 32) (fmt : BitVec 6) (data : List Byte) (s : State) : Out :=
  onString s fun s =>
    let b := bus.val
    let w := word.toNat
    let f := fmt.toNat
    let st := canState s b
    if st = 4 ∨ st = 2 ∨ st = 5 then s else
    let fd := w.testBit 30
    let len := if f.testBit 5 then 0 else canLen fd (f % 16)
    let data := data.take len
    let s := goodRec (canCompany (s.bump (canIx b + 2) 6) b 2) b
    let l := canStations s b w
    let s := match l.find? (fun x => (x.flags.testBit 1 == fd) && decide (x.rxLen ≤ len)) with
      | some x =>
        let s := rxLane s b (rxElem s w f (x.num - 48) true false data)
        stationHeard s x.num (data.take x.rxLen)
      | none => filterFrame (l.foldl (fun s x => formatMiss s b x w len) s) b w f data
    canIdle s b

/-- The controller detects an error in a frame it receives: its kind, and whether the receive error counter rises by 8 (a dominant
bit after the error flag, a bit error in it) or by 1 (R398, R406). -/
def execCanReceiveError (bus : Fin 3) (kind : CanError) (by8 : Bool) (s : State) : Out :=
  onString s fun s =>
    let b := bus.val
    let st := canState s b
    if st = 4 ∨ st = 2 ∨ st = 5 then s else
    let i := canIx b + 2
    let s := s.bump i (match kind with | .bit => 8 | .stuff => 9 | .form => 10 | .crc => 11)
    let s := if st = 3 then s else
      let v := s.obj i 3 + (if by8 then 8 else 1)
      canUpdate (s.setObj i 3 (if 255 < v then 255 else v)) b
    canIdle s b

/-! ### Messages of the release unit (R392, R407) -/

/-- The fan speed message: at every release of a frame whose number is a multiple of the period, while an enabled loop delivers to
a fan channel. -/
def fanMessage (s : State) : State :=
  let serves (f : Nat) : Bool := (List.range 16).any (fun l => loopOn s l && decide (s.objN (loopIx l) 9 = 0x0300 + f))
  if s.drivesAll = false ∨ (List.range 8).all (fun f => !serves f) ∨ (s.frameNo : Int) % s.obj 0x7820 3 ≠ 0 then s else
  let word := s.objN 0x7820 1 + (if s.obj 0x7820 2 = 1 then 536870912 else 0)
  lanePush s 9 (canElem word 8 2 ((List.range 8).map (fun f => if serves f then BitVec.ofNat 8 (fanSpeed s f) else 0xFF#8)))

/-- A station's message in the format of its entry (R392). -/
def stationElem (x : Station) (data : List Byte) : Elem :=
  let fd := x.flags.testBit 1
  let word := x.txId + (if x.flags.testBit 0 then 536870912 else 0) + (if fd then 1073741824 else 0)
    + (if fd ∧ x.flags.testBit 2 then 2147483648 else 0)
  canElem word (canDlc fd x.txLen) 1 (data.take x.txLen)

end Sys2Proof.Machine
end

