-- ==== Sys2Proof/Machine/Publish.lean ====
section
/-!
DEFINITION. The publish sets (R377, R378, R326).
Marks (notes/assumptions): DEDUCED 95; DESIGN CHOICE 148.
-/
namespace Sys2Proof.Machine

/-- The entries of a list: index and sub-index. -/
def pubEntries (b : List Byte) : List (Nat × Nat) :=
  (List.range (b.length / 4)).map (fun k => (getLe b (4 * k) 2, getLe b (4 * k + 2) 2))

/-- The bytes of an entry, none where it cannot be read: a missing object, a DOMAIN, or 0xFFFF of no array. A sub-index
of 0xFFFF names the elements 1 to N of an array. -/
def pubValue (s : State) (i sub : Nat) : Option (List Byte) :=
  let one (k : Nat) : Option (List Byte) :=
    match objInfo s i k with
    | some r => if r.ty = .domain then none else some (readBytes s r i k)
    | none => none
  if sub = 0xFFFF then
    match arrayCount s i with
    | some n => (List.range n).foldl (fun acc k =>
        match acc, one (k + 1) with
        | some b, some v => some (b ++ v)
        | _, _ => none) (some [])
    | none => none
  else one sub

/-- What an entry that cannot be read sends: zeros in the size of its type, for every element of an array; none where nothing names
a type any more (R378). -/
def pubZeros (s : State) (i sub : Nat) : List Byte :=
  let one (k : Nat) : Nat := match objRow i k with | some r => typeSize r.ty | none => 0
  List.replicate (if sub = 0xFFFF then (arrayCount s i).getD 0 * one 1 else one sub) 0#8

/-- The bytes an entry sends. -/
def pubBytes (s : State) (e : Nat × Nat) : List Byte := (pubValue s e.1 e.2).getD (pubZeros s e.1 e.2)

/-- The parts a value block of `n` bytes takes (R378). -/
def pubParts (n : Nat) : Nat := (n + 1393) / 1394

/-- The bytes of the value block of a list. -/
def pubSize (s : State) (b : List Byte) : Nat :=
  ((pubEntries b).map (fun p => (pubBytes s p).length)).sum

/-- Messages in 1,000 s of an enabled set with `parts` parts. -/
def pubRate (s : State) (p parts : Nat) : Rat :=
  (parts : Rat) * 1000000000 / ((s.obj (0x1300 + p) 2 : Rat) * (s.tf : Rat))

/-- Whether set p takes an entry list (R377): every entry can be read, at most 16 parts, at most 8,000 messages per second
over the enabled sets. -/
def pubListOk (s : State) (p : Nat) (b : List Byte) : Bool :=
  let parts := pubParts (pubSize s b)
  let others := ((List.range 8).map (fun q =>
    if q ≠ p ∧ s.objB (0x1300 + q) 1 then pubRate s q (pubParts (pubSize s (s.dom (0x1300 + q) 4))) else 0)).sum
  let own := if s.objB (0x1300 + p) 1 then pubRate s p parts else 0
  decide (b.length % 4 = 0) && decide (b.length ≤ 256) && (pubEntries b).all (fun e => (pubValue s e.1 e.2).isSome)
    && decide (parts ≤ 16) && decide (own + others ≤ 8000)

/-- Parts and value bytes of set p as they stand. -/
def pubRefresh (s : State) (p : Nat) : State :=
  let n := pubSize s (s.dom (0x1300 + p) 4)
  (s.setObj (0x1300 + p) 5 (pubParts n)).setObj (0x1300 + p) 6 n

/-- The invalid mask of a list: bit i for an entry that cannot be read. -/
def pubMask (s : State) (l : List (Nat × Nat)) : Nat :=
  ((List.range l.length).map (fun k =>
    match l[k]? with
    | some e => if (pubValue s e.1 e.2).isNone then 2 ^ k else 0
    | none => 0)).sum

/-- A message of set p in lane 1; the oldest there is dropped where the lane is full (R63, R378). -/
def pubPush (s : State) (p : Nat) (payload : List Byte) : State :=
  let full := decide ((laneInfo 1).depth ≤ (s.lane 1).elems.length)
  let s := match full, (s.lane 1).elems with
    | true, .bytes b :: _ => s.bump (0x1300 + getLe b 0 1) 8
    | _, _ => s
  let first := full && (match s.host.pubDrop with
    | some c => decide (1000000000 ≤ elapsedNs s.clk c s.clk.c)
    | none => true)
  let q : Nat := match (s.lane 1).elems with
    | .bytes b :: _ => getLe b 0 1
    | _ => p
  let s := if full then { s with host := { s.host with pubDrop := some s.clk.c } } else s
  let s := if first then raise s 0x0D0A 2 [d32 q, d32 (s.obj (0x1300 + q) 8)] else s
  lanePush s 1 (.bytes payload)

/-- Set p leaves for frame n: its parts in order (R378). -/
def pubSet (s : State) (p n : Nat) : State :=
  let l := pubEntries (s.dom (0x1300 + p) 4)
  let block := l.flatMap (pubBytes s)
  let parts := pubParts block.length
  let seq := (storeGet (fun _ => 0) s.host.pubSeq p + 1) % 4294967296
  let s := { s with host := { s.host with pubSeq := storePut (fun _ => 0) s.host.pubSeq p seq } }
  let mask := pubMask s l
  (List.range parts).foldl (fun s k =>
    let head := [BitVec.ofNat 8 p, BitVec.ofNat 8 k, BitVec.ofNat 8 parts, BitVec.ofNat 8 s.role.toNat] ++ leBytes 4 (seq : Int)
      ++ leBytes 4 (n : Int) ++ d80 (time80 (s.frame.prevAt * 65536)) ++ leBytes 2 s.frame.prevStat ++ [0#8, 0#8]
      ++ leBytes 8 (mask : Int) ++ leBytes 4 ((1394 * k : Nat) : Int) ++ [0#8, 0#8]
    pubPush s p (head ++ sliceAt block (1394 * k) (min 1394 (block.length - 1394 * k)))) s

/-- Whether set p is due for frame n. -/
def pubDue (s : State) (p n : Nat) : Bool :=
  s.objB (0x1300 + p) 1 && decide (((n : Int) - s.obj (0x1300 + p) 3) % s.obj (0x1300 + p) 2 = 0)
    && decide (s.dom (0x1300 + p) 4 ≠ [])

/-- The messages of lane 1 leave, in the session open on Ethernet. -/
def pubDrain (s : State) : State :=
  let (l, s) := laneDrain s 1
  l.foldl (fun s e =>
    match e with
    | .bytes b => (originate s .eop 0x30 b).bump (0x1300 + getLe b 0 1) 7
    | _ => s) s

/-- The publish sets due for frame n, sent after its seal while the EOP session is open, by the ACTIVE card, or by both cards
where 0x7000:9 is true (R377, R326). -/
def publish (s : State) (n : Nat) : State :=
  if s.host.eop.isOpen && (s.isActive || s.objB 0x7000 9) then
    pubDrain ((List.range 8).foldl (fun s p => if pubDue s p n then pubSet s p n else s) s)
  else s

end Sys2Proof.Machine
end

