-- ==== Sys2Proof/Machine/Apply.lean ====
section
/-!
DEFINITION. Writes that take effect at a boundary and the configuration commit (R354, R373 to R376, with the commit checks of
R85, R204, R247, R266 and R283).
Marks (notes/assumptions): DEDUCED 93, 94; DESIGN CHOICE 52, 117, 135, 149.
-/
namespace Sys2Proof.Machine

/-! ### Objects without a row of their own (R354) -/

/-- Objects whose write a row of the table of its own carries out. -/
def ownRow (s : State) (i sub : Nat) : Bool :=
  (match objInfo s i sub with
    | some r => decide (r.access = .wo)
    | none => true)
    || [(0x2001, 0), (0x2821, 0), (0x2830, 0), (0x34C0, 15), (0x34C0, 17), (0x3460, 2), (0x4410, 0), (0x5440, 8), (0x6850, 2),
      (0x6880, 1), (0x2050, 4), (0x2070, 4), (0x7808, 1), (0x7848, 1), (0x7888, 1)].contains (i, sub)
    || (within 0x3010 0x3013 i && sub == 1) || (within 0x3461 0x3468 i && sub == 6) || (within 0x4020 0x402F i && sub == 1)
    || (within 0x5100 0x510F i && sub == 19) || (within 0x5200 0x525F i && sub == 13) || within 0x9000 0x9FFF i

/-- The value as the object holds it: the mantissa words of a section keep bits 31 to 8 (R195). -/
def storedVal (i sub : Nat) (v : Int) : Int :=
  if (within 0x5200 0x525F i || within 0x5490 0x549F i) && within 2 5 sub then v / 256 * 256 else v

/-- What follows from a new value besides the value itself: a scale restarts the checks of its channel (R116), a start time is
taken as a schedule (R159, R217), a target is sealed (R229), rings are enabled or disabled (R69), thresholds are sent (R282), and
a CAN controller takes its enables and its transmit order (R387, R390, R393). -/
def appliedHook (s : State) (i sub : Nat) : State :=
  if i = 0x3410 ∧ (sub = 1 ∨ sub = 12 ∨ sub = 13) then scaleWritten s 0
  else if i = 0x3420 ∧ (sub = 1 ∨ sub = 12) then scaleWritten s 1
  else if i = 0x3430 ∧ sub = 1 then scaleWritten s 2
  else if i = 0x3440 ∧ sub = 1 then scaleWritten s 3
  else if i = 0x4050 ∧ sub = 8 then walkScheduled s
  else if i = 0x5400 ∧ sub = 12 then scheduleWritten s
  else if within 0x5810 0x5813 i && sub == 3 then targetWritten s (i - 0x5810)
  else if i = 0x3000 ∧ sub = 1 then ringsEnabled s
  else if i = 0x6821 then { s with rings := { s.rings with threshDue := true } }
  else if [0x7800, 0x7840, 0x7880].contains i && (sub == 1 || sub == 2) then canSettle s ((i - 0x7800) / 64)
  else if [0x7801, 0x7841, 0x7881].contains i && sub == 5 then canSettle s ((i - 0x7801) / 64)
  else s

/-- A plain value takes effect, and what follows from it. -/
def applyValue (s : State) (i sub : Nat) (v : Int) : State := appliedHook (s.setObj i sub v) i sub

/-- Why a value of bytes is refused as it takes effect: an entry list of a publish set that R377 does not take. -/
def bytesRefusal (s : State) (i sub : Nat) (b : List Byte) : Nat :=
  if within 0x1300 0x1307 i && sub == 4 && !pubListOk s (i - 0x1300) b then errRange else errOk

/-- A value of bytes takes effect. -/
def applyBytes (s : State) (i sub : Nat) (b : List Byte) : State :=
  let s := s.setDom i sub b
  if within 0x1300 0x1307 i && sub == 4 then pubRefresh s (i - 0x1300) else s

/-- Whether an object's value is bytes. -/
def isBytes (r : ObjRow) : Bool := decide (r.ty = .str) || decide (r.ty = .domain)

/-- The bytes an object of bytes holds once `b` has been written to it: a string is padded to its length. -/
def storedBytes (r : ObjRow) (i sub : Nat) (b : List Byte) : List Byte := if r.ty = .str then padTo (maxLength i sub r) b else b

/-- A serialised write to an object without a row of its own takes effect, and its answer leaves (R354, R370); that of an RWS object
once its change-log entry is committed (R293). An object whose write has its own row is left as it is. -/
def execObjectWriteApply (ref : ObjRef) (s : State) : Out :=
  onHost s fun s =>
    let i := ref.index.toNat
    let sub := ref.sub.toNat
    match (takeWrite i sub s.host.due).1, objInfo s i sub with
    | some w, some r =>
      let write (err : Nat) (log f : State → State) : State :=
        if r.access = .rws then rwsWrite s i sub err log f else hostWrite s i sub err f
      if ownRow s i sub then s
      else if isBytes r then
        let b := storedBytes r i sub w.bytes
        write (bytesRefusal s i sub w.bytes)
          (fun s => logChange s i sub w.origin b.length (logValue (s.dom i sub)) (logValue b)) (fun s => applyBytes s i sub b)
      else
        let v := storedVal i sub w.val
        write errOk (fun s => logObj s r i sub w.origin v) (fun s => applyValue s i sub v)
    | some _, none => settle s i sub errNoObject
    | none, _ => s

/-! ### Commit checks (R374) -/

/-- A check that failed: the owner's event, the object and the event's data. -/
structure CommitFail where
  code : Nat
  index : Nat
  sub : Nat
  flds : List Fld
  deriving DecidableEq, Repr

/-- The values in force with the pending values laid over them. -/
def overlaid (s : State) (l : List PendEntry) : State := l.foldl (fun s e => s.setObj e.index e.sub e.val) s

/-- The positions of a slot's channels, in rising channel order. -/
def slotPositions (s : State) (k : Nat) : List Nat :=
  if s.obj (0x3100 + k) 1 = 255 then []
  else (List.range (popCount 18 (s.objN (0x3100 + k) 5))).map (fun j => s.objN (0x3100 + k) 4 + j)

/-- The CM18 table (R85): reasons 1 ring and hop shared, 2 hop outside 1 to 12, 3 a position twice or beyond 576, 4 a gap. A slot in
use whose first cell position is 0, which none of the four names, is refused with reason 3 (DESIGN CHOICE 117). -/
def ringFails (s : State) : List CommitFail :=
  let fail (k sub reason : Nat) : CommitFail := ⟨0x0310, 0x3100 + k, sub, [d32 k, d32 reason]⟩
  let on := (List.range 40).filter (fun k => s.obj (0x3100 + k) 1 ≠ 255)
  let all := on.flatMap (slotPositions s)
  let earlier (k : Nat) : List Nat := (on.filter (fun j => decide (j < k))).flatMap (slotPositions s)
  let one (k : Nat) : List CommitFail :=
    let hop := s.obj (0x3100 + k) 2
    (if on.any (fun j => decide (j < k) && decide (s.obj (0x3100 + j) 1 = s.obj (0x3100 + k) 1)
        && decide (s.obj (0x3100 + j) 2 = hop)) then [fail k 2 1] else [])
      ++ (if hop < 1 ∨ 12 < hop then [fail k 2 2] else [])
      ++ (if (slotPositions s k).any (fun p => p == 0 || decide (576 < p) || (earlier k).contains p) then [fail k 4 3] else [])
  let gap := (List.range all.length).find? (fun p => !all.contains (p + 1))
  let gaps : List CommitFail := match gap with
    | some p => match on.find? (fun k => (slotPositions s k).any (fun q => decide (p + 1 < q))) with
      | some k => [fail k 4 4]
      | none => []
    | none => []
  on.flatMap one ++ gaps

/-- Whether a source code names an instance the spec gives (R200). -/
def sourceKnown (s : State) (l code : Nat) : Bool :=
  within 0x0100 0x0103 code || code == 0 || code == 0x0200 || code == 0x0300 || code == 0x0301 || within 0x0400 0x0403 code
    || within 0x0500 0x050F code || code == 0x0600 || within 0x0701 0x0710 code || within 0x0801 0x08A0 code
    || (code == 0x0900 && (match objInfo s (s.objN (loopIx l) 29 / 65536) (s.objN (loopIx l) 29 % 65536) with
        | some r => !isBytes r
        | none => false))

/-- The loops a loop names as sources. -/
def loopSources (s : State) (l : Nat) : List Nat :=
  [s.objN (loopIx l) 7, s.objN (loopIx l) 8].filterMap (fun c => if c / 256 = 5 then some (c % 256) else none)

/-- The loops reached from a list in at most `n` more steps. -/
def loopReach (s : State) : Nat → List Nat → List Nat
  | 0, l => l
  | n + 1, l => loopReach s n ((List.range 16).filter (fun k => l.contains k || (l.flatMap (loopSources s)).contains k))

/-- Avenue's configuration (R204). -/
def avenueFails (s : State) : List CommitFail :=
  let fail (l sub reason : Nat) : CommitFail := ⟨0x0716, loopIx l, sub, [d32 l, d32 reason]⟩
  let ls := List.range 16
  let words : List (Nat × Nat × Nat) := ls.flatMap (fun l => ([3, 4, 5, 6] : List Nat).map (fun b => (l, b, s.objN (loopIx l) b)))
  let span (w : Nat) : List Nat := (List.range (w % 256)).map (fun k => w / 256 + k)
  let meets (a b : Nat) : Bool := (span a).any (fun q => (span b).contains q)
  let shared := ls.flatMap (fun l =>
    let d := s.obj (loopIx l) 9
    if loopOn s l && decide (d ≠ 0) && ls.any (fun k => decide (k < l) && loopOn s k && decide (s.obj (loopIx k) 9 = d)) then
      [fail l 9 1] else [])
  let above := words.flatMap (fun p =>
    if words.any (fun q => (decide (q.1 < p.1) || (q.1 == p.1 && decide (q.2.1 < p.2.1))) && meets q.2.2 p.2.2) then
      [fail p.1 p.2.1 2] else [])
  let long := words.flatMap (fun p =>
    if 8 < p.2.2 % 256 ∨ (p.2.2 % 256 ≠ 0 ∧ 96 < p.2.2 / 256 + p.2.2 % 256) then [fail p.1 p.2.1 3] else [])
  let disp : List CommitFail := match dispatchLoop s with
    | some l =>
      (if s.obj (loopIx l) 7 ≠ 0x0400 ∨ (s.obj 0x5000 3 ≠ 0x0300 ∧ s.obj 0x5000 3 ≠ 0x0301) then [fail l 7 4] else [])
        ++ (if s.obj (loopIx l) 9 ≠ 0x0100 then [fail l 9 5] else [])
    | none => []
  let srcs := ls.flatMap (fun l => ([7, 8] : List Nat).flatMap (fun b =>
    if sourceKnown s l (s.objN (loopIx l) b) then [] else [fail l b 6]))
  let chain := ls.flatMap (fun l =>
    if (loopSources s l).any (fun k => k == l || (decide (l < k) && (loopReach s 16 [k]).contains l)) then [fail l 7 7] else [])
  let halve := ls.flatMap (fun l =>
    if s.obj (0x5480 + l) 6 = 1 ∧ (banksOf s l).any (fun w => match (bankSections w).head? with
        | some q => recursive (activeWords s q)
        | none => false) then ([⟨0x0716, 0x5480 + l, 6, [d32 l, d32 8]⟩] : List CommitFail) else [])
  shared ++ above ++ long ++ disp ++ srcs ++ chain ++ halve

/-- Sliproad's configuration (R230, R247). -/
def sliproadFails (s : State) : List CommitFail :=
  let fail (i sub c reason : Nat) : CommitFail := ⟨0x080C, i, sub, [d32 c, d32 reason]⟩
  let f (c sub : Nat) : Rat := s.objF (slipIx c) sub
  let chan (c : Nat) : List CommitFail :=
    (if 0 ≤ f c 4 ∧ f c 4 ≤ f c 6 ∧ 0 ≤ f c 5 ∧ f c 5 ≤ f c 6 ∧ f c 6 ≤ f c 7 ∧ 0 < f c 7
        ∧ 0 < f c 8 ∧ 0 < f c 9 ∧ 0 < f c 10 ∧ 0 < f c 11 then [] else [fail (slipIx c) 4 c 1])
      ++ (if f c 13 < f c 12 then [fail (slipIx c) 12 c 2] else [])
      ++ (if 2 ≤ c ∧ s.obj (slipIx c) 1 = 2 then [fail (slipIx c) 1 c 3] else [])
      ++ (if c < 2 ∧ s.obj (slipIx c) 2 ≠ 0x0600 then [fail (slipIx c) 2 c 4] else [])
  let valve (v : Nat) : List CommitFail :=
    let c := v + 2
    let inp := s.obj (valveIx v) 4
    (if minR (f c 4) (f c 5) < s.objF (valveIx v) 8 then [fail (valveIx v) 8 c 5] else [])
      ++ (if f c 7 < s.objF (valveIx v) 7 then [fail (valveIx v) 7 c 6] else [])
      ++ (if inp = 2 ∨ inp = 3 ∨ (v = 1 ∧ inp = s.obj (valveIx 0) 4) then [fail (valveIx v) 4 c 7] else [])
  [0, 1, 2, 3].flatMap chan ++ [0, 1].flatMap valve

/-- The thermal configuration (R266). -/
def thermalFails (s : State) : List CommitFail :=
  let fail (i sub reason : Nat) : CommitFail := ⟨0x090F, i, sub, [d32 (objKey i sub : Nat), d32 reason]⟩
  let input (k : Nat) : List CommitFail :=
    let lo := s.obj (0x6010 + k) 12
    let hi := s.obj (0x6010 + k) 13
    if lo ≠ 0x7FFF ∧ hi ≠ 0x7FFF ∧ hi ≤ lo then [fail (0x6010 + k) 12 4] else []
  let shunt := s.objN 0x3410 13
  (if s.obj 0x6030 2 ≤ s.obj 0x6030 1 then [fail 0x6030 1 1] else [])
    ++ (if s.obj 0x6030 4 ≤ s.obj 0x6030 3 then [fail 0x6030 3 1] else [])
    ++ (if s.obj 0x6060 1 ≤ s.obj 0x6050 1 then [fail 0x6050 1 2] else [])
    ++ (if s.obj 0x6830 1 ≤ s.obj 0x6060 1 then [fail 0x6060 1 3] else [])
    ++ (List.range 16).flatMap input
    ++ (if shunt ≠ 0 ∧ s.obj (0x6010 + (shunt - 1)) 1 = 0 then [fail 0x3410 13 5] else [])

/-- The staged objects of the safety functions (R354). -/
def safetyStaged (i : Nat) : Bool := within 0x6800 0x68FF i

/-- The safety configuration (R283), as `s` holds it with the pending values; `judged` says that it is judged. -/
def safetyFails (s : State) : List CommitFail :=
  let fail (i sub reason : Nat) : CommitFail := ⟨0x0A0E, i, sub, [d32 (objKey i sub : Nat), d32 reason]⟩
  let hall (k : Nat) : List CommitFail :=
    if s.objF 0x6840 k < 21 / 20 * (s.objF 0x6810 k + s.objF 0x6810 3) then [fail 0x6840 k 1] else []
  let env (k : Nat) : List CommitFail := if s.objF 0x6810 k < s.objF 0x6811 k then [fail 0x6811 k 5] else []
  hall 1 ++ hall 2
    ++ (if s.obj 0x6821 1 * 1000 < s.obj 0x6820 1 + 20000 then [fail 0x6821 1 2] else [])
    ++ (if s.obj 0x6820 2 - 20000 < s.obj 0x6821 2 * 1000 then [fail 0x6821 2 2] else [])
    ++ (if s.obj 0x6821 3 ≤ s.obj 0x6830 1 then [fail 0x6821 3 3] else [])
    ++ (if s.obj 0x6830 1 ≤ s.obj 0x6060 1 then [fail 0x6830 1 4] else [])
    ++ env 1 ++ env 2
    ++ (if s.objF 0x6840 4 ≠ 0 ∧ s.objF 0x6840 3 ≤ s.objF 0x6840 4 then [fail 0x6840 4 6] else [])
    ++ (if s.obj 0x6820 1 = 0 ∨ s.obj 0x6820 1 ≤ s.obj 0x6820 2 then [fail 0x6820 1 7] else [])
    ++ (if s.objF 0x6840 3 = 0 then [fail 0x6840 3 8] else [])

/-- The MF pins (R376, R330). -/
def pinFails (s : State) : List CommitFail :=
  let fail (i sub pin a b : Nat) : CommitFail := ⟨0x0D08, i, sub, [d32 pin, d32 a, d32 b]⟩
  let ps := List.range 8
  let code (p : Nat) : Nat := s.objN 0x2030 (p + 1)
  let twice := ps.flatMap (fun p =>
    if within 2 7 (code p) && ps.any (fun q => decide (q < p) && code q == code p) then [fail 0x2030 (p + 1) p (code p) (code p)]
    else [])
  let routed := [4, 5, 6, 7].flatMap (fun k =>
    if s.obj (0x2850 + k) 9 = 1 ∧ ps.all (fun p => code p != k - 2) then [fail (0x2850 + k) 9 255 (k - 2) 0] else [])
  let driven := match s.prog.image with
    | some im => ps.flatMap (fun p => if im.mfMask.testBit p && code p != 1 then [fail 0x2030 (p + 1) p (code p) 1] else [])
    | none => []
  twice ++ routed ++ driven

/-- Every check on a pending set (R374): those of R283 with a Safety-owned value pending, or once the SLV window has been
committed. -/
def commitFails (s : State) (l : List PendEntry) : List CommitFail :=
  let v := overlaid s l
  ringFails v ++ avenueFails v ++ sliproadFails v ++ thermalFails v
    ++ (if s.obj 0x6820 1 ≠ 0 ∨ l.any (fun e => safetyStaged e.index) then safetyFails v else []) ++ pinFails v

/-! ### The commit (R373 to R375) -/

/-- The commit is refused whole: up to 16 events of owners, CONFIG_REFUSED, the first failure (R374). -/
def refuseCommit (s : State) (l : List CommitFail) : State :=
  let s := (l.take 16).foldl (fun s x => raise s x.code 3 x.flds) s
  match l with
  | x :: _ =>
    let key : Int := (objKey x.index x.sub : Nat)
    let s := s.setObjs 0x2020 [(3, 3), (5, x.code), (6, key)]
    raise s 0x0D07 3 [d32 l.length, d32 key, d16 x.code]
  | [] => s

/-- The writer holds what a commit of RWS values asks for: a safety session, or the Alley lock; a card that is not ACTIVE takes
the commit its partner has judged. -/
def commitSafety (s : State) (w : Option WriteReq) : Bool :=
  match w with
  | some w =>
    if s.isActive = false then true
    else match originChan w.origin with
      | some c => (s.session c).safety
      | none => w.origin != .alley || w.locked
  | none => true

/-- Whether the writer owns the pending set, or the set is empty. -/
def ownsSet (s : State) (w : Option WriteReq) : Bool :=
  decide (s.host.pendSet = []) || (match w with
    | some w => decide (s.obj 0x2020 4 = originOwner w.origin)
    | none => true)

/-- A write of 1 to 0x2020:1 (R374). -/
def execConfigCommit (s : State) : Out :=
  onHost s fun s =>
    let w := writeOf s 0x2020 1
    let l := s.host.pendSet
    if s.host.commit.isSome then settle s 0x2020 1 errBusy
    else if ownsSet s w = false then settle s 0x2020 1 errState
    else if l.any (·.rws) ∧ commitSafety s w = false then settle s 0x2020 1 errSafety
    else match commitFails s l with
    | [] =>
      let o := match w with | some w => w.origin | none => .module
      { s with host := { s.host with pendSet := [], commit := some ⟨l, o⟩ } }
    | fs => settle (refuseCommit s fs) 0x2020 1 errConfig

/-- A write of 2 to 0x2020:1 by the owner of the set (R373). -/
def execConfigDiscard (s : State) : Out :=
  onHost s fun s =>
    hostWrite s 0x2020 1 (if ownsSet s (writeOf s 0x2020 1) then errOk else errState) fun s => discardPending s 2

/-- Entries in index:sub order. -/
def sortEntries (l : List PendEntry) : List PendEntry :=
  l.foldl (fun acc e =>
    acc.takeWhile (fun x => decide (objKey x.index x.sub < objKey e.index e.sub)) ++ e
      :: acc.dropWhile (fun x => decide (objKey x.index x.sub < objKey e.index e.sub))) []

/-- The change-log entries of a commit (R375, step 1). -/
def logEntries (s : State) (o : Origin) (l : List PendEntry) : State :=
  l.foldl (fun s e =>
    match objRow e.index e.sub with
    | some r => if e.rws then logObj s r e.index e.sub o e.val else s
    | none => s) s

/-- The full scales Avenue takes at a commit (R191). -/
def takeScales (s : State) : State :=
  { s with av := { s.av with fs := [fullScale s 0, fullScale s 1, fullScale s 2, fullScale s 3, s.objF 0x5600 15] } }

/-- The committed values take effect together (R375, steps 3 and 4). -/
def commitValues (s : State) (l : List PendEntry) : State :=
  let s := overlaid s l
  let s := l.foldl (fun s e => appliedHook s e.index e.sub) s
  let s := takeScales s
  let s := (List.range 8).foldl pubRefresh s
  let crc := configCrc s
  let s := (s.setObj 0x2020 7 crc).bump 0x2020 8
  let s := if s.host.pendSet = [] then s.setObjs 0x2020 [(2, 0), (3, 2), (4, 0)] else s
  raise s 0x0D06 3 [d32 l.length, d32 crc]

/-- The commit cannot be stored: nothing takes effect, and the set stands as it was (R375, R442). -/
def commitLost (s : State) (c : Commit) : State :=
  let back := c.entries.filter (fun e => !(s.host.pendSet.any (fun x => x.index == e.index && x.sub == e.sub)))
  let s := { s with host := { s.host with pendSet := back ++ s.host.pendSet } }
  let s := commitFailed s 4 0
  let s := s.setObjs 0x2020 [(2, s.host.pendSet.length), (3, 3), (5, 0x0F0E), (6, 0)]
  raise s 0x0D07 3 [d32 1, d32 0, d16 0x0F0E]

/-- The configuration record is written and the values of an accepted commit take effect (R375); `stored` says that the record's
read-back held (R442). A commit waits while a power-fail warning stands (R426, R427). -/
def execConfigCommitEffect (stored : Bool) (s : State) : Out :=
  onHost s fun s =>
    match s.host.commit with
    | none => s
    | some c =>
      if s.pwr.warning then s else
      let s := { s with host := { s.host with commit := none } }
      if stored then
        let l := sortEntries c.entries
        settle (commitValues (logEntries s c.origin l) l) 0x2020 1 errOk
      else settle (commitLost s c) 0x2020 1 errConfig

end Sys2Proof.Machine
end

