-- ==== Sys2Proof/Machine/FrameTime.lean ====
section
/-!
DEFINITION. Clocktower, PTP, plant sync, the timed pulse outputs, the frame windows, the lanes' stalls and the profile
(R21 to R26, R31 to R63): the commands of chapters 01 and 02 but the frame boundary itself.
Marks (notes/assumptions): DEDUCED 24, 27, 28, 32; PRESUMED 25; DESIGN CHOICE 13, 20, 26, 112, 114, 115, 131, 132, 133, 152, 153, 154, 155, 156.
-/
namespace Sys2Proof.Machine

/-! ### The servo -/

/-- The servo state, 0 FREE, 1 ACQUIRE, 2 LOCKED, 3 HOLD (R51). -/
def State.servo (s : State) : Int := s.obj 0x2804 0

/-- A new rate, continuous in module time: O takes floor(4·C·(ρ_old − ρ_new) / 2^24) on the same tick (R42). -/
def setRho (s : State) (r : Int) : State :=
  let k := s.clk
  let dO := 4 * (k.c : Int) * (k.rho - r) / 16777216
  { s with clk := { k with rho := r, o := k.o + dO } }

/-- The PI filter over θ in 2^-16 ns with the gains kp and ki (R50); a fraction of a rate unit is rounded toward
minus infinity, as R41 rounds. -/
def piFilter (s : State) (theta kp ki : Int) : State :=
  let lim := s.obj 0x2826 0
  let ri := clampI (-lim) lim (s.clk.rhoInt + (-(ki * theta)) / 65536)
  let s := { s with clk := { s.clk with rhoInt := ri } }
  setRho s (clampI (-lim) lim (ri + (-(kp * theta)) / 65536))

/-- θ as the events carry it, in ns. -/
def nsOf (t : Int) : Int := t / 65536

/-- Plant coherence ends (bit 0 of 0x2805:0). -/
def loseCoherence (s : State) : State :=
  if bitOf (s.obj 0x2805 0) 0 then
    { s.setObjBit 0x2805 0 0 false with clk := { s.clk with lostAt := s.clk.c } }
  else s

/-- The servo enters ACQUIRE (R51). Causes: 1 first θ, 2 new grandmaster, 3 θ again in HOLD, 4 unlock. -/
def enterAcquire (s : State) (cause theta : Int) : State :=
  let s := loseCoherence (s.setObj 0x2804 0 1)
  let s := s.setObjBit 0x2805 0 3 false
  let s := { s with clk := { s.clk with lockRun := 0, unlockRun := 0, autoStep := none, ppsAid := false } }
  raise s 0x0208 2 [d32 cause, d32 (nsOf theta)]

/-- The servo enters HOLD (R51, R52). Causes: 1 no θ, 2 host. The proportional term is dropped. -/
def enterHold (s : State) (cause : Int) : State :=
  let locked := decide (s.servo = 2)
  let s := if locked then s else loseCoherence s
  let s := setRho (s.setObj 0x2804 0 3) s.clk.rhoInt
  let s := { s with clk := { s.clk with heldLocked := locked, holdFrom := s.clk.c, heldC := s.clk.c, autoStep := none, lockRun := 0, unlockRun := 0 } }
  raise s 0x0202 2 [d32 cause, d32 s.clk.rhoInt]

/-! ### Comparators -/

/-- Comparator k. -/
def State.comp (s : State) (k : Nat) : Comp := storeGet (fun _ => {}) s.clk.comps k

/-- Stores comparator k. -/
def State.setComp (s : State) (k : Nat) (c : Comp) : State :=
  { s with clk := { s.clk with comps := storePut (fun _ => {}) s.clk.comps k c } }

/-- The start time of comparator k, in ns. -/
def compStart (s : State) (k : Nat) : Int := time80Ns (s.obj (0x2850 + k) 2)

/-- The first edge index of a periodic comparator whose edge lies after the time `ns` (R60, R61). -/
def firstEdge (start period ns : Int) : Nat := if ns < start then 0 else ((ns - start) / period + 1).toNat

/-- Arms comparator k (R60): out-of-range settings are refused, a once comparator whose start has passed reads
status 4, a periodic one starts at its first edge in the future. With mode 0 there is nothing to arm, and the write is answered OK: the spec does
not say (DESIGN CHOICE 155). -/
def armComp (s : State) (k : Nat) : State :=
  let i := 0x2850 + k
  let now := s.now / 65536
  let start := compStart s k
  if s.obj i 1 = 1 then
    if start ≤ now then (s.setComp k { s.comp k with armed := false }).setObj i 8 4
    else (s.setComp k { s.comp k with armed := true, count := 0, j := 0 }).setObj i 8 1
  else if s.obj i 1 = 2 then
    (s.setComp k { s.comp k with armed := true, count := 0, j := firstEdge start (s.obj i 3) now }).setObj i 8 1
  else s

/-- Whether the settings of comparator k allow arming (R60). -/
def compOk (s : State) (k : Nat) : Bool :=
  let w := s.obj (0x2850 + k) 4
  let p := s.obj (0x2850 + k) 3
  decide (40 ≤ p) && decide (20 ≤ w) && decide (w ≤ p - 20)

/-- The comparators whose arm-at-lock flag is set arm when the servo first enters LOCKED (R62). One whose settings R60 does not allow is
passed over without an event: the spec does not say (DESIGN CHOICE 154). -/
def armAtLock (s : State) : State :=
  (List.range 8).foldl (fun s k => if s.objB (0x2850 + k) 10 ∧ compOk s k then armComp s k else s) s

/-- After a step each armed comparator takes the first edge after the new time (R61). -/
def recompute (s : State) : State :=
  (List.range 8).foldl (fun s k =>
    let c := s.comp k
    let i := 0x2850 + k
    let now := s.now / 65536
    if c.armed then
      if s.obj i 1 = 2 then s.setComp k { c with j := firstEdge (compStart s k) (s.obj i 3) now }
      else if compStart s k ≤ now then (s.setComp k { c with armed := false }).setObj i 8 4
      else s
    else s) s

/-- The link a comparator drives: L20 to L23 for C0 to C3; C4 to C7 drive an MF pin or an internal trigger. -/
def compDrive (s : State) (k : Nat) (level : Bool) : State :=
  if k < 4 ∧ s.drivesAll then s.send (20 + k) [if level then 1#8 else 0#8] else s

/-- A write of 1 to 0x2850+k:7 (R60). -/
def execComparatorArm (k : Fin 8) (s : State) : Out :=
  onHost s fun s => hostWrite s (0x2850 + k) 7 (if compOk s k then errOk else errRange) (fun s => armComp s k)

/-- A write of 2 to 0x2850+k:7 (R60): a pulse in progress ends at its width. -/
def execComparatorDisarm (k : Fin 8) (s : State) : Out :=
  onHost s fun s => hostWrite s (0x2850 + k) 7 errOk
    (fun s => (s.setComp k { s.comp k with armed := false }).setObj (0x2850 + k) 8 0)

/-- An armed comparator reaches its edge (R60): the leading edge is high-going where the polarity is false, and
the pulse ends its width later in counter time. Toward the edge count only the edges produced count, not those a late arming or a
step passes over: the spec is silent on these (DESIGN CHOICE 115). -/
def execComparatorEdge (k : Fin 8) (s : State) : Out :=
  onHost s fun s =>
    let c := s.comp k
    let i := 0x2850 + k.val
    if c.armed then
      let n := c.count + 1
      let last := decide (s.obj i 1 = 1) || (decide (s.obj i 6 ≠ 0) && decide (s.obj i 6 ≤ n))
      let c' : Comp := { armed := !last, count := n, j := c.j + 1, pulse := true,
                         endC := s.clk.c + ((s.objN i 4 + 3) / 4) }
      let s := compDrive ((s.setComp k c').setObj i 8 2) k (!s.objB i 5)
      if 4 ≤ k.val ∧ s.obj i 9 = 0 then triggerCapture s 2 else s
    else s

/-- The pulse of comparator k ends (R60). -/
def execComparatorPulseEnd (k : Fin 8) (s : State) : Out :=
  onHost s fun s =>
    let c := s.comp k
    let i := 0x2850 + k.val
    if c.pulse then
      let s := compDrive (s.setComp k { c with pulse := false, endC := 0 }) k (s.objB i 5)
      if c.armed ∨ s.obj i 8 ≠ 2 then s else s.setObj i 8 3
    else s

/-! ### Entering LOCKED -/

/-- The servo enters LOCKED (R51, R52, R62). -/
def enterLocked (s : State) (theta : Int) : State :=
  let first := !s.clk.everLocked
  let degraded := bitOf (s.obj 0x2805 0) 1
  let secs := elapsedNs s.clk s.clk.lostAt s.clk.c / 1000000000
  let s := ((s.setObj 0x2804 0 2).setObjBit 0x2805 0 0 true).setObjBit 0x2805 0 1 false
  let s := { s with clk := { s.clk with lockRun := 0, unlockRun := 0, autoStep := none, everLocked := true } }
  let s := raise s 0x0201 2 [d8 (s.obj 0x2814 0), d32 (nsOf theta)]
  let s := if degraded then raise s 0x0209 2 [d32 secs] else s
  if first then armAtLock s else s

/-- θ in ACQUIRE: beyond the step threshold it steps at the next boundary and is not filtered (R55); else it is
filtered on acquire gains and counts toward the lock (R50, R51). -/
def acquireTheta (s : State) (theta : Int) : State :=
  let mag : Int := theta.natAbs
  if s.obj 0x2823 0 * 65536 < mag then
    { s with clk := { s.clk with autoStep := some (-theta), lockRun := 0 } }
  else
    let s := piFilter s theta (s.obj 0x2820 1) (s.obj 0x2820 2)
    if mag ≤ s.obj 0x2822 1 * 65536 then
      let n := s.clk.lockRun + 1
      if s.obj 0x2822 2 ≤ n then enterLocked s theta
      else { s with clk := { s.clk with lockRun := n } }
    else { s with clk := { s.clk with lockRun := 0 } }

/-- θ in LOCKED: steering by rate on lock gains; the third consecutive one above the unlock threshold returns to
ACQUIRE (R51, R53). -/
def lockedTheta (s : State) (theta : Int) : State :=
  let mag : Int := theta.natAbs
  if s.obj 0x2822 3 * 65536 < mag then
    if 3 ≤ s.clk.unlockRun + 1 then acquireTheta (enterAcquire s 4 theta) theta
    else
      let s := piFilter s theta (s.obj 0x2820 3) (s.obj 0x2820 4)
      { s with clk := { s.clk with unlockRun := s.clk.unlockRun + 1 } }
  else
    let s := piFilter s theta (s.obj 0x2820 3) (s.obj 0x2820 4)
    { s with clk := { s.clk with unlockRun := 0 } }

/-- What the servo does with θ of the grandmaster `gm` (R50, R51). A new grandmaster enters ACQUIRE also from ACQUIRE, with its event and
the lock count begun anew: the spec does not say (DESIGN CHOICE 152). -/
def servoTheta (s : State) (theta : Int) (gm : Nat) : State :=
  let old := s.clk.grandmaster
  let st := s.servo
  if st = 3 ∧ s.obj 0x2821 0 = 1 then s else
  let s := { s with clk := { s.clk with grandmaster := some gm, thetaMissed := 0 } }
  if st = 0 then acquireTheta (enterAcquire s 1 theta) theta
  else if st = 3 then acquireTheta (enterAcquire s 3 theta) theta
  else if old ≠ some gm then acquireTheta (enterAcquire s 2 theta) theta
  else if st = 1 then acquireTheta s theta
  else lockedTheta s theta

/-- The servo takes θ from lane 26 (R50). -/
def execServoTheta (s : State) : Out :=
  onHost s fun s =>
    match laneTake s 26 with
    | (some (.nums (theta :: gm :: _)), s) => servoTheta s theta gm.toNat
    | (_, s) => s

/-! ### PTP -/

/-- Port A or B. -/
def State.port (s : State) (p : Nat) : PtpPort := if p = 0 then s.clk.portA else s.clk.portB

/-- Stores a port. -/
def State.setPort (s : State) (p : Nat) (q : PtpPort) : State :=
  { s with clk := if p = 0 then { s.clk with portA := q } else { s.clk with portB := q } }

/-- The port read from 0x2814:0 as 0 or 1. -/
def State.selPort (s : State) : Nat := s.objN 0x2814 0 - 1

/-- The corrected ingress time of a capture, in 2^-16 ns (R47). -/
def ingressAt (s : State) (p : Nat) (t : Stamp) : Int :=
  timeAt s.clk t.c.toNat t.p - s.obj 0x2810 (p + 1) * 16384

/-- The corrected egress time of a capture (R47). -/
def egressAt (s : State) (p : Nat) (t : Stamp) : Int :=
  timeAt s.clk t.c.toNat t.p + s.obj 0x2811 (p + 1) * 16384

/-- The servo takes θ from the other port (R49). -/
def switchPort (s : State) (p : Nat) : State :=
  let old := s.selPort
  let s := s.setObj 0x2814 0 (p + 1)
  let s := { s with clk := { s.clk with hyst := 0 } }
  raise s 0x0206 2 [d8 (old + 1), d8 (p + 1), d32 (s.obj 0x2813 (old + 1)), d32 (s.obj 0x2813 (p + 1))]

/-- A Sync (with its follow-up) of the selected master on a port: θ = t_ingress − (origin + correction) − d (R48). The origin time and
correction come as one number in 2^-16 ns. The other port has measured the same Sync where it has that number of the same master and
has missed none since (R49). -/
def execPtpSyncReceived (port : Fin 2) (master : BitVec 64) (domain : BitVec 8) (seq : BitVec 16) (ingress : Stamp)
    (origin : Int) (s : State) : Out :=
  onHost s fun s =>
    let s := passLane s 31
    if (domain.toNat : Int) ≠ s.obj 0x2832 0 ∨ s.clk.selected ≠ some master.toNat then s else
    let p := port.val
    let d := (s.port p).delays.headD 0
    let theta := ingressAt s p ingress - origin - d
    let s := s.setPort p { s.port p with last := some (master.toNat, seq.toNat, theta), missed := 0 }
    let s := match (s.port (1 - p)).last with
      | some (m, q, u) =>
        if m = master.toNat ∧ q = seq.toNat ∧ (s.port (1 - p)).missed = 0 ∧ 65536000 < (theta - u).natAbs then
          raise s 0x0207 2 [d32 (nsOf (if p = 0 then theta else u)), d32 (nsOf (if p = 0 then u else theta))]
        else s
      | none => s
    if p = s.selPort then lanePush s 26 (.nums [theta, master.toNat]) else s

/-- The order of best master selection, IEEE 1588's data set comparison: the lower is the better. -/
def annKey (a : Announce) : List Nat :=
  [a.priority1.toNat, a.clockClass.toNat, a.accuracy.toNat, a.variance.toNat, a.priority2.toNat, a.identity.toNat,
    a.stepsRemoved.toNat]

/-- Lexicographic order of keys. -/
def keyLt : List Nat → List Nat → Bool
  | a :: l, b :: r => if a < b then true else if b < a then false else keyLt l r
  | _, _ => false

/-- The best of the masters heard on both ports together (R46). -/
def bestMaster : List Master → Option Master
  | [] => none
  | m :: r => match bestMaster r with
    | none => some m
    | some b => if keyLt (annKey b.ann) (annKey m.ann) then some b else some m

/-- Best master selection over the masters heard (R45, R46). -/
def reselect (s : State) : State :=
  { s with clk := { s.clk with selected := (bestMaster s.clk.masters).map (fun m => m.ann.identity.toNat) } }

/-- An Announce: best master selection runs, and the UTC offset follows the selected master (R45). -/
def execPtpAnnounceReceived (port : Fin 2) (ann : Announce) (s : State) : Out :=
  onHost s fun s =>
    let s := passLane s 31
    if (ann.domain.toNat : Int) ≠ s.obj 0x2832 0 then s else
    let others := s.clk.masters.filter (fun m => !(m.port == port.val && m.ann.identity == ann.identity))
    let s := reselect { s with clk := { s.clk with masters := others ++ [⟨port, ann⟩] } }
    if s.clk.selected = some ann.identity.toNat then s.setObj 0x2806 0 (toS 16 ann.utcOffset.toNat) else s

/-- No Announce from a master for three intervals: it leaves best master selection; the UTC offset keeps its value
(R45). -/
def execAnnounceReceiptTimeout (port : Fin 2) (master : BitVec 64) (s : State) : Out :=
  onHost s fun s =>
    reselect { s with clk := { s.clk with
      masters := s.clk.masters.filter (fun m => !(m.port == port.val && m.ann.identity == master)) } }

/-- A PTP message as the module sends it: message type, domain, sequence number and a time, most significant byte
first. -/
def ptpMsg (kind : Nat) (s : State) (seq : Nat) (t : Int) : List Byte :=
  BitVec.ofNat 8 kind :: BitVec.ofNat 8 (s.objN 0x2832 0) :: beBytes 2 seq ++
    (beBytes 6 (t / 65536 / 1000000000) ++ beBytes 4 (t / 65536 % 1000000000))

/-- A Pdelay_Req is answered in two-step mode: Pdelay_Resp with the time it came in, then the follow-up with the time
the response left (R45, R47). -/
def execPdelayReqReceived (port : Fin 2) (seq : BitVec 16) (ingress : Stamp) (egress : Stamp) (s : State) : Out :=
  onHost s fun s =>
    let s := passLane s 31
    let s := laneSend s 2 port (ptpMsg 3 s seq.toNat (ingressAt s port ingress))
    laneSend s 2 port (ptpMsg 10 s seq.toNat (egressAt s port egress))

/-- A port sends its Pdelay_Req and keeps t1 (R48). -/
def execPdelayReqSend (port : Fin 2) (egress : Stamp) (s : State) : Out :=
  onHost s fun s =>
    let q := s.port port
    let n := (q.reqSeq + 1) % 65536
    let s := s.setPort port { q with t1 := some (egressAt s port egress), reqSeq := n }
    laneSend s 2 port (ptpMsg 2 s n 0)

/-- The sample variance of values in 2^-16 ns, in ns², the fraction discarded (R49). While fewer than 16 values of d have been
measured it is taken over those there are, and below two it is 0: the spec states neither (DESIGN CHOICE 112). -/
def sampleVar (l : List Int) : Int :=
  let n : Int := l.length
  if n < 2 then 0 else
  let sum := l.foldl (· + ·) 0
  let q := l.foldl (fun a d => a + (n * d - sum) * (n * d - sum)) 0
  q / (n * n * (n - 1) * 4294967296)

/-- A number as a U32 object holds it; beyond its range the spec states no value. -/
def inU32 (v : Int) : Int := if v < 4294967296 then v else (Config.countBeyond v.toNat : Nat)

/-- A Pdelay response: d = ((t4 − t1) − (t3 − t2)) / 2 (R48), the variance of the last 16 values, and the switch to the
other port after enough measurements below the hysteresis ratio (R49). -/
def execPdelayRespReceived (port : Fin 2) (seq : BitVec 16) (ingress : Stamp) (turnaround : Int) (s : State) : Out :=
  onHost s fun s =>
    let s := passLane s 31
    let p := port.val
    let q := s.port p
    match q.t1 with
    | none => s
    | some t1 =>
      if q.reqSeq ≠ seq.toNat then s else
      let d := ((ingressAt s p ingress - t1) - turnaround) / 2
      let ds := (d :: q.delays).take 16
      let s := s.setPort p { q with t1 := none, delays := ds }
      let s := (s.setObj 0x2812 (p + 1) (d / 16384)).setObj 0x2813 (p + 1) (inU32 (sampleVar ds))
      if p = s.selPort then s else
      let below := decide (s.obj 0x2813 (p + 1) * 100 < s.obj 0x2831 1 * s.obj 0x2813 (s.selPort + 1))
      let n : Nat := if below then s.clk.hyst + 1 else 0
      let s := { s with clk := { s.clk with hyst := n } }
      if below ∧ s.obj 0x2831 2 ≤ (n : Int) then switchPort s p else s

/-- A Sync interval passes on a port without a Sync: on the selected port it counts as one without θ; three in a row switch to the
other port if that one does not miss them (R49), and the holdover count enters HOLD (R51). -/
def execSyncIntervalTimeout (port : Fin 2) (s : State) : Out :=
  onHost s fun s =>
    let p := port.val
    let s := s.setPort p { s.port p with missed := (s.port p).missed + 1 }
    if p ≠ s.selPort then s else
    let other := s.port (1 - p)
    let n : Nat := s.clk.thetaMissed + 1
    let s := { s with clk := { s.clk with thetaMissed := n } }
    let s := if 3 ≤ (s.port p).missed ∧ other.missed < 3 ∧ other.last.isSome then switchPort s (1 - p) else s
    if (s.servo = 1 ∨ s.servo = 2) ∧ s.obj 0x2824 0 ≤ (n : Int) then enterHold s 1 else s

/-- The holdover limit has elapsed in HOLD (R52); it does not run while the PPS aids (R59). While bit 1 of 0x2805:0 still stands from an
earlier HOLD the event is not written again: the spec does not say (DESIGN CHOICE 153). -/
def execHoldoverLimitExpiry (s : State) : Out :=
  onHost s fun s =>
    if s.servo = 3 ∧ bitOf (s.obj 0x2805 0) 1 = false ∧ s.clk.ppsAid = false then
      let secs := elapsedNs s.clk s.clk.heldC s.clk.c / 1000000000
      let s := (loseCoherence s).setObjBit 0x2805 0 1 true
      raise s 0x0203 2 [d32 secs]
    else s

/-- A step request of `d` ns (R56): a value of 0 cancels, in HOLD it waits for the next boundary, in any other state it is
held pending with bit 2 of 0x2805:0 and one event. -/
def requestStep (s : State) (d : Int) : State :=
  let s := s.setObj 0x2830 0 d
  if d = 0 then s.setObjBit 0x2805 0 2 false
  else if s.servo = 3 then s
  else if bitOf (s.obj 0x2805 0) 2 then s
  else raise (s.setObjBit 0x2805 0 2 true) 0x0205 2 [d64 d, d8 s.servo]

/-- A host step request (R56). -/
def execStepRequestWrite (v : BitVec 64) (s : State) : Out :=
  onHost s fun s =>
    let d := v.toInt
    hostWrite s 0x2830 0 (if d < -1000000000000 ∨ 1000000000000 < d then errRange else errOk) fun s => requestStep s d

/-- The servo mode 0x2821:0: 1 puts the servo into HOLD, 0 returns it to automatic (R51). -/
def setServoMode (s : State) (v : Int) : State :=
  let s := s.setObj 0x2821 0 v
  if v = 1 ∧ s.servo ≠ 3 then enterHold s 2 else s

/-- A write of 0x2821:0. -/
def execServoModeWrite (v : BitVec 8) (s : State) : Out :=
  onHost s fun s => hostWrite s 0x2821 0 (if v.toNat ≤ 1 then errOk else errRange) fun s => setServoMode s v.toNat

/-! ### Plant sync -/

/-- The distance of a time from the nearest whole second, in 2^-16 ns. -/
def secondError (t : Int) : Int :=
  let r := t % 65536000000000
  if r < 32768000000000 then r else r - 65536000000000

/-- A rising edge of the PPS input (R59): ignored, monitored, or, in HOLD after LOCKED with the aid selected, fed to
the servo on lock gains. With the aid selected, the edge is monitored in FREE and in a HOLD not entered from LOCKED as it is in ACQUIRE and
LOCKED: the spec does not say (DESIGN CHOICE 156). -/
def execPpsInputEdge (edge : Stamp) (s : State) : Out :=
  onHost s fun s =>
    let e := secondError (timeAt s.clk edge.c.toNat edge.p - s.obj 0x2841 0 * 16384)
    let ok := decide (e.natAbs ≤ 65536000)
    let mode := s.obj 0x2840 0
    if mode = 0 then s
    else if mode = 2 ∧ s.servo = 3 ∧ s.clk.heldLocked then
      if ok then
        let s := piFilter s e (s.obj 0x2820 3) (s.obj 0x2820 4)
        { s.setObjBit 0x2805 0 3 true with clk := { s.clk with ppsAid := true, holdFrom := s.clk.c } }
      else s
    else if ok then s
    else raise s 0x020A 2 [d32 (nsOf e)]

/-- No valid PPS for 3 s: the aid ends and the limit counts from the last valid pulse (R59). The rate stays as the last aided run of
the filter left it, its proportional term included: the spec says only that holdover continues (DESIGN CHOICE 114). -/
def execPpsLossTimeout (s : State) : Out :=
  onHost s fun s =>
    if s.clk.ppsAid then
      { s.setObjBit 0x2805 0 3 false with clk := { s.clk with ppsAid := false } }
    else s

/-- The PPS output rises on a whole TAI second, with its width, where its mode drives it (R58). -/
def execPpsOutputEdge (s : State) : Out :=
  onHost s fun s =>
    let m := s.obj 0x2842 0
    if m = 2 ∨ (m = 1 ∧ bitOf (s.obj 0x2805 0) 0) then s.send 5 (d16 (s.obj 0x2843 0)) else s

/-! ### Frame windows and lanes -/

/-- A supervised window misses its deadline (R38, R39). -/
def execFrameOverrun (window : Fin 6) (engine : Fin 16) (use : BitVec 16) (s : State) : Out :=
  onHost s fun s => overrun (noteUse s (window.val + 1) use.toNat) (window.val + 1) engine.val

/-- 64 consecutive frames without an overrun end the condition (R39). -/
def execOverrunConditionClear (s : State) : Out :=
  onHost s fun s => if 64 ≤ s.frame.clean then clearCause s 0 else s

/-- Drops the stored values of the indices `lo` to `hi`, which then read their defaults. -/
def dropObjs (s : State) (lo hi : Nat) : State :=
  { s with objs := s.objs.filter (fun p => !(decide (lo * 65536 ≤ p.1) && decide (p.1 < (hi + 1) * 65536))) }

/-- A write of 1 to 0x2113:0 clears 0x2100 to 0x2112. -/
def execClearBudgetCounters (s : State) : Out :=
  onHost s fun s => hostWrite s 0x2113 0 errOk (fun s => dropObjs s 0x2100 0x2112)

/-- A producer that waits on a full WAIT lane goes on once an element has been taken (R63). What waits for
lane 44 comes from the output release unit, for which the reserved slots stand (R65, R229). -/
def laneResume (s : State) (n : Nat) : State :=
  let l := s.lane n
  match l.waiting with
  | [] => s
  | e :: r => if l.elems.length < (laneInfo n).depth then (s.setLane n { l with waiting := r }).appendLane n e else s

/-- A stalled producer resumes (R63). -/
def execLaneWaitResume (lane : Fin 48) (s : State) : Out := onHost s fun s => laneResume s lane

/-! ### The profile -/

/-- Why R23 refuses a profile, or 0. -/
def profileRefusal (s : State) (v : Int) : Nat :=
  if v = 5 ∧ s.obj 0x2040 1 ≠ 3 then 1
  else if v = 3 ∧ ((match s.frame.restFrom with
      | none => true
      | some c => decide (elapsedNs s.clk c s.clk.c < 10000000000))
      || decide (s.obj 0x6050 8 ≠ 0) || decide (s.obj 0x6801 0 ≠ 0)) then 2
  else if v = 2 ∧ s.objF 0x5400 1 = 0 then 3
  else 0

/-- The profile `x` is asked for (R22, R23, R26): in Guarded, and during an orderly shutdown (R264), it is checked against its
range only and stored; 4 sets bit 6 of 0x2004:0; any other profile is taken at the next boundary unless R23 refuses it.
`mine` says that the card may take it: it is ACTIVE or a single module, or its partner's mirror carried the write. -/
def takeProfile (s : State) (mine : Bool) (x : Int) : Nat × State :=
  if x < 0 ∨ 5 < x then (errRange, refuseProfile s x 6)
  else if mine = false then (errState, refuseProfile s x 4)
  else if x = 4 then (errOk, setCause (s.setObj 0x2001 0 4) 6)
  else if s.profile = 4 ∨ bitOf (s.obj 0x6000 1) 4 then (errOk, clearCause (s.setObj 0x2001 0 x) 6)
  else
    let r := profileRefusal s x
    if r ≠ 0 then (errState, refuseProfile s x r)
    else
      let s := s.setObj 0x2001 0 x
      (errOk, { s with frame := { s.frame with change := some (x.toNat, 0) } })

/-- A write of 0x2001:0 (R22, R23, R26): on a card of a pair that is not ACTIVE only the mirror brings one (R22, R300). -/
def execRequestedProfileWrite (v : BitVec 8) (s : State) : Out :=
  onHost s fun s =>
    let r := takeProfile s (s.isActive || (writeOf s 0x2001 0).isSome) v.toNat
    settle r.2 0x2001 0 r.1

/-- A write of 1 to 0x2005:0 (R26): refused outside Guarded and while any cause stands; else the profile held in
0x2001:0 is entered, or Metrology where R23 refuses it. -/
def execGuardedRelease (s : State) : Out :=
  onHost s fun s =>
    if s.profile ≠ 4 ∨ s.obj 0x2004 0 ≠ 0 then settle s 0x2005 0 errState else
    let want := s.obj 0x2001 0
    let bad := profileRefusal s want
    let s := if bad ≠ 0 then refuseProfile s want 5 else s
    let tgt := if bad ≠ 0 then 0 else want
    let secs := elapsedNs s.clk s.frame.guardedC s.clk.c / 1000000000
    let s := changeProfile s tgt 0
    settle (raise s 0x0113 3 [d8 tgt, d32 secs]) 0x2005 0 errOk

end Sys2Proof.Machine
end

