-- ==== Sys2Proof/Machine/Trip.lean ====
section
/-!
DEFINITION. Trip causes, their latch and the reaction of the module (R267 to R271), the safety state (R288), and what a trip
does to an orderly shutdown (R263).
Marks (notes/assumptions): DEDUCED 62, 63; DESIGN CHOICE 31, 66, 147, 157.
-/
namespace Sys2Proof.Machine

/-- Changes Bollard. -/
def State.mapBol (s : State) (f : Bollard → Bollard) : State := { s with safe := { s.safe with bol := f s.safe.bol } }

/-- Changes the guard core. -/
def State.mapGuard (s : State) (f : Guard → Guard) : State := { s with safe := { s.safe with guard := f s.safe.guard } }

/-- An event of the guard core. -/
def raiseGuard (s : State) (code : Nat) (flds : List Fld) : State := raise s code 10 flds

/-! ### Causes (R270, R287) -/

/-- Class of a cause as events code it: 1 A, 2 B, 3 C, 0 for cause 23. -/
def causeClass (b : Nat) : Nat := if b < 8 then 1 else if b < 21 then 2 else if b < 23 then 3 else 0

/-- Latched causes. -/
def latched (s : State) (b : Nat) : Bool := bitOf (s.obj 0x6801 0) b

/-- Latched causes of classes B and C, which the guard core holds. -/
def latchedGuard (s : State) : Bool := (List.range 24).any (fun b => latched s b && decide (2 ≤ causeClass b))

/-- Latched causes of class A, which Bollard holds. -/
def latchedBollard (s : State) : Bool := (List.range 8).any (latched s)

/-- Causes that assert the partner trip line. -/
def relayed (b : Nat) : Bool := decide (b < 5) || (decide (8 ≤ b) && decide (b < 23))

/-- A STORE to a present CM18 has not ended (R154, R262). -/
def storesLeft (s : State) : Bool :=
  s.isActive && (List.range 40).any (fun k =>
    slotUsed s k && slotLive s k && (decide ((s.auth k).stage = 5) || decide ((s.auth k).stage = 6) || (s.auth k).store))

/-- Writes of step 4 that have not completed (R262): record slices and capacity commits in lane 43, where a commit the die
temperature inhibits does not stand, and STOREs; the state block is written at once. -/
def flushLeft (s : State) : Bool :=
  ((s.lane 43).elems ++ (s.lane 43).waiting).any (fun e => match e with | .nums [7, _] => true | .nums [6, _] => true | _ => false)
    || storesLeft s

/-- The SLV window has been committed (R283). -/
def configured (s : State) : Bool := decide (s.obj 0x6820 1 ≠ 0)

/-- Consecutive frames within the limit of a class B cause. -/
def okFrames (s : State) (b : Nat) : Nat := storeGet (fun _ => 0) s.safe.guard.okRun b

/-- 10 ms of counter time have passed. -/
def tenMs (s : State) (c : Nat) : Bool := decide (10000000 ≤ elapsedNs s.clk c s.clk.c)

/-- FAULT was last decoded within the last 20 µs, two periods of its bursts (R96): so long its condition is taken to stand, and the next
decode after that is a new onset; the spec gives no end of it (DESIGN CHOICE 157). -/
def faultRecent (s : State) (at_ : Option Nat) : Bool :=
  match at_ with
  | some c => decide (elapsedNs s.clk c s.clk.c < 20000)
  | none => false

/-- FAULT stands on some port. -/
def faultStands (s : State) : Bool := faultRecent s s.safe.bol.faultC

/-- The condition of a latched cause has ended (R287). -/
def causeEnded (s : State) (b : Nat) : Bool :=
  let y := s.safe.bol
  if b < 4 then !(y.beyond.testBit b)
  else if b = 4 then !(faultStands s)
  else if b = 5 then !y.partnerIn
  else if b = 6 then y.permit && tenMs s y.permitC
  else if b = 7 then tenMs s y.supplyC
  else if b < 21 then decide (16 ≤ okFrames s b)
  else if b = 21 then (decide (s.obj 0x6060 6 = 5) || decide (s.obj 0x6060 6 = 6)) && !(flushLeft s)
  else decide (b = 22)

/-- The safety state (R288): the first row that applies. A latched cause 5 counts as ended here. -/
def safetyState (s : State) : Nat :=
  let y := s.safe.bol
  if y.tested = false then 5
  else if configured s = false then 4
  else if y.rst.stuck.isSome then 3
  else if (List.range 24).any (fun b => latched s b && decide (b ≠ 5) && !(causeEnded s b)) then 1
  else if s.obj 0x6801 0 ≠ 0 then 2
  else if y.test.isSome then 2
  else 0

/-- The permit is produced (R269, R288, R324): the card has started with its window committed, no cause of class B or C is
latched, and what a pull brings stands. -/
def permitProduced (s : State) : Bool :=
  s.safe.bol.tested && configured s && !(latchedGuard s) && decide (s.obj 0x7009 1 ≠ 1) && decide (s.frame.released = 0)

/-- What Bollard drives follows the permit, the latch and the test (R268 to R271, R287), and the safety state is shown. -/
def refreshSafety (s : State) : State :=
  let p := permitProduced s
  let s := s.mapBol fun y =>
    { y with permit := p, permitC := (if p && !y.permit then s.clk.c else y.permitC), permitSeen := y.permitSeen || p
             trip := latchedGuard s, partnerOut := (List.range 24).any (fun b => latched s b && relayed b) }
  let hold := p && decide (s.obj 0x6801 0 = 0) && s.safe.bol.test.isNone
  let s := s.mapBol fun y => { y with hold := hold, high := hold, holdC := if hold = y.hold then y.holdC else s.clk.c }
  let s := if bitOf (s.obj 0x2004 0) 1 && !(latchedGuard s) then clearCause s 1 else s
  let s := if bitOf (s.obj 0x2004 0) 2 && !(latchedBollard s) then clearCause s 2 else s
  s.setObj 0x6800 1 (safetyState s)

/-! ### The orderly shutdown under a trip (R262, R263) -/

/-- A step of the orderly shutdown: its state, and the event with the milliseconds since the start. -/
def shutStep (s : State) (k : Nat) : State :=
  let s := (s.setObj 0x6060 6 k).mapTherm fun t => { t with stepC := s.clk.c }
  raise s 0x090D 3 [d8 k, d32 (elapsedNs s.clk s.therm.shutC s.clk.c / 1000000)]

/-- The writes of step 4: state block with origin 2, STORE to every present CM18, all record slices; queued capacity commits
stand in lane 43 already, unless they are inhibited. -/
def flushWrites (s : State) : State :=
  let s := checkpointRetained (storeAll (writeState s 2)) true
  (List.range 16).foldl (fun s (k : Nat) => lanePush s 43 (.nums [7, (k : Int)])) s

/-- An orderly shutdown runs and has not reached step 4. -/
def shutEarly (s : State) : Bool := bitOf (s.obj 0x6000 1) 4 && decide (s.obj 0x6060 6 < 4)

/-- A trip during steps 1 to 3: the module skips to step 4. -/
def shutTripped (s : State) : State :=
  if shutEarly s then
    let s := s.mapTherm fun t => { t with reached := s.objN 0x6060 6, shutDue := none }
    flushWrites (shutStep s 4)
  else s

/-! ### The trip (R270, R271) -/

/-- A cause trips: it is latched, Bollard releases the hold and every driver, the module enters Guarded with its snapshot, and
the event names cause, class, frame, value and position or channel. -/
def trip (s : State) (b frame : Nat) (value : Fld) (pos : Int) : State :=
  let s := if s.obj 0x6801 0 = 0 then s.setObjs 0x6803 [(1, b), (2, frame), (3, pos)] else s
  let s := (s.setObjBit 0x6801 0 b true).setObjBit 0x6802 0 b true
  let s := s.mapGuard fun g => { g with okRun := storePut (fun _ => 0) g.okRun b 0 }
  let s := s.mapBol fun y => { y with test := none, edge := none }
  let s := (openDrivers s).mapCon fun c => { c with rearm := false }
  let cls := causeClass b
  let s := if cls = 1 then s.setObjBit 0x2004 0 2 true else if cls = 0 then s else s.setObjBit 0x2004 0 1 true
  let snap := if cls = 1 then 3 else 2
  let s := if s.profile = 4 then faultSnapshot s snap else enterGuarded s snap false
  let s := raiseGuard s 0x0A01 [d8 b, d32 cls, d32 frame, value, d16 pos]
  refreshSafety (shutTripped s)

/-- A cause present: it trips unless it is latched and has been present all along. -/
def present (s : State) (b frame : Nat) (value : Fld) (pos : Int) : State :=
  if latched s b ∧ bitOf (s.obj 0x6802 0) b then s else trip s b frame value pos

/-- SSI is commanded: the cause is latched at the next frame boundary (R270, R277). -/
def requestSsi (s : State) (b : Nat) : State := s.mapGuard fun g => { g with ssi := g.ssi ||| 2 ^ b }

/-- SSI causes due are latched at the boundary. -/
def ssiBoundary (s : State) : State :=
  let w := s.safe.guard.ssi
  let s := s.mapGuard fun g => { g with ssi := 0 }
  [21, 22].foldl (fun s b => if w.testBit b then present s b s.frameNo (dF 0) 0 else s) s

end Sys2Proof.Machine
end

