-- ==== Sys2Proof/Machine/Guard.lean ====
section
/-!
DEFINITION. The guard core and Bollard: the safety functions (R272 to R279), thresholds and self-tests (R280 to R282), the
reset after a trip (R286 to R290), the password (R291).
Marks (notes/assumptions): DEDUCED 61, 62, 63, 65, 68; DESIGN CHOICE 64, 66, 67, 128, 129, 146.
-/
namespace Sys2Proof.Machine

/-! ### SLC and its degraded state (R273) -/

/-- A limit of SLC as it is imposed: scaled while degraded. -/
def slcLimit (s : State) (sub : Nat) : Rat :=
  let q := s.objF 0x6810 sub
  if s.safe.guard.degraded.isSome then q * (s.obj 0x6810 6 : Rat) / 100 else q

/-- SLC is degraded, on a discrepancy (cause 1) or the current vote (cause 2). -/
def degradeSlc (s : State) (cause : Nat) : State :=
  if s.safe.guard.degraded.isSome then s else
  let s := s.mapGuard fun g => { g with degraded := some s.clk.c, calmFrom := none }
  raiseGuard s 0x0A06 [d32 cause, dF (absR (s.objF 0x3410 3 - s.objF 0x3420 3)), dF (slcLimit s 1), dF (slcLimit s 2)]

/-- What SLC (code 3), SDC (code 4) and Guarded (code 5) impose on the dispatch loop (R205, R273, R276, R278). -/
def guardImposed (s : State) : List (Nat × Option Rat × Option Rat) :=
  let d := s.obj 0x6850 3
  [(3, some (slcLimit s 1), some (slcLimit s 2)),
   (4, (if d = 2 ∨ d = 3 then some 0 else none), (if d = 1 ∨ d = 3 then some 0 else none)),
   envelope s]

/-- The discrepancy has lasted the discrepancy time. -/
def execSlcDiscrepancyTimeout (s : State) : Out :=
  onString s fun s => if s.safe.guard.discFrom.isSome then degradeSlc s 1 else s

/-- The degraded state has lasted 0x6810:7 seconds: bit 17 trips. -/
def execSlcDegradedTimeout (s : State) : Out :=
  onString s fun s =>
    if s.safe.guard.degraded.isSome then
      present (s.mapGuard fun g => { g with tooLong := true }) 17 s.frameNo
        (dF (absR (s.objF 0x3410 3 - s.objF 0x3420 3))) 0
    else s

/-- The discrepancy has stayed below its limit, with a vote of 0, for 60 s: the limits return to full. -/
def execSlcLimitsReturn (s : State) : Out :=
  onString s fun s =>
    if s.safe.guard.degraded.isSome ∧ s.safe.guard.calmFrom.isSome then
      s.mapGuard fun g => { g with degraded := none, tooLong := false, calmFrom := none }
    else s

/-! ### What a verdict reads -/

/-- A violation: cause, offending value, position or channel. -/
abbrev Violation := Nat × Fld × Int

/-- Frame means of I_S and I_H, none where the channel lacks VALID or its element is absent or fails its CRC. -/
def guardCurrents (l : List Elem) : Option Rat × Option Rat :=
  match l.getLast? with
  | some (.bytes b) =>
    if crc32c (b.take (b.length - 4)) ≠ getLe b (b.length - 4) 4 then (none, none)
    else
      (if (getLe b 20 2).testBit 0 then some (f32Value (getLe b 12 4)) else none,
       if (getLe b 22 2).testBit 0 then some (f32Value (getLe b 16 4)) else none)
  | _ => (none, none)

/-- SLC on one channel. -/
def slcViolation (s : State) (v : Option Rat) (chan : Int) : List Violation :=
  match v with
  | none => []
  | some i =>
    let m := s.objF 0x6810 3
    if s.objF 0x6810 1 + m < i then [(8, dF i, chan)]
    else if i < -(s.objF 0x6810 2 + m) then [(9, dF i, chan)] else []

/-- Flow in a forbidden direction beyond the tolerance. -/
def sdcWrong (s : State) (v : Option Rat) : Bool :=
  let d := s.obj 0x6850 3
  let tol := s.objF 0x6850 4
  match v with
  | none => false
  | some i => (decide (d = 2 ∨ d = 3) && decide (tol < i)) || (decide (d = 1 ∨ d = 3) && decide (i < -tol))

/-- SLV on one cell of a block: violations, and whether the channel is present (R274). A count is 1.25 µV. -/
def slvCell (s : State) (b : List Byte) (c n : Nat) : List Violation × Bool :=
  let w := blockCell b c
  if w % 2 = 1 then ([], false) else
  let uv : Rat := ((w / 4 : Nat) : Rat) * 5 / 4
  let v := dF (uv / 1000000)
  let hi := if (s.obj 0x6820 1 : Rat) < uv ∨ w / 2 % 2 = 1 then [(10, v, (n : Int))] else []
  let lo := if uv < (s.obj 0x6820 2 : Rat) then [(11, v, (n : Int))] else []
  (hi ++ lo, true)

/-- SLT on the valid channels of a block (R275). -/
def sltBlock (s : State) (b : List Byte) (k : Nat) : List Violation × Bool :=
  let l := (List.range 4).filterMap (fun j => (blockTemp b j).map (fun t => (t, 4 * k + j + 1)))
  (l.flatMap (fun p =>
    let v := dF ((p.1 : Rat) / 16)
    if s.obj 0x6830 1 * 16 < p.1 then [(13, v, (p.2 : Int))]
    else if p.1 < s.obj 0x6830 2 * 16 then [(14, v, (p.2 : Int))] else []), !l.isEmpty)

/-- One block of lane 24: its violations, with what it makes present. Before the SLV window has been committed there is none to
judge a cell against (R283; DESIGN CHOICE 128). -/
def judgeBlock (acc : State × List Violation) (e : Elem) : State × List Violation :=
  let (s, vs) := acc
  match e with
  | .bytes l =>
    let b := l.take 72
    match slotAt s (getLe l 72 1) (getLe l 73 1) with
    | none => (s, vs)
    | some k =>
      let cells := slotCells s k
      let (s, vs) := cells.foldl (fun a p =>
        let (v, ok) := slvCell a.1 b p.1 p.2
        let v := if configured a.1 then v else []
        let s := if ok then a.1.mapGuard fun g => { g with lastCell := storePut (fun _ => 0) g.lastCell p.2 (s.clk.c + 1) } else a.1
        (s, a.2 ++ v)) (s, vs)
      if cells = [] then (s, vs) else
      let (v, ok) := sltBlock s b k
      let s := if ok then s.mapGuard fun g => { g with lastTemp := storePut (fun _ => 0) g.lastTemp k (s.clk.c + 1) } else s
      (s, vs ++ v)
  | _ => (s, vs)

/-- What the guard core watches: the mapped cells, once the SLV window has been committed, and the units that map one. A cell or a unit
that is new to it counts as absent from now on, so that its hold runs from there (R274, R275). -/
def watch (s : State) : State :=
  let now := s.clk.c + 1
  let from_ (l : List (Nat × Nat)) (n : Nat) : Nat := match storeGet (fun _ => 0) l n with
    | 0 => now
    | c => c
  let cell (l : List (Nat × Nat)) (n : Nat) : Nat := if configured s then from_ l n else now
  let units := (List.range 40).filter (fun k => slotUsed s k && !(slotCells s k).isEmpty)
  s.mapGuard fun g => { g with
    lastCell := (allCells s).foldl (fun l p => storePut (fun _ => 0) l p.1 (cell g.lastCell p.1)) []
    lastTemp := units.foldl (fun l k => storePut (fun _ => 0) l k (from_ g.lastTemp k)) [] }

/-- Counter value from which a channel (or a unit's temperatures) has been absent. -/
def absentFrom (s : State) (l : List (Nat × Nat)) (n : Nat) : Nat := max (storeGet (fun _ => 0) l n - 1) s.safe.guard.holdFrom

/-- A mapped cell absent for longer than the missing hold; `late` counts the very end of the hold too. -/
def slvMissing (s : State) (late : Bool) : Option Nat :=
  ((allCells s).find? (fun p =>
    let d := elapsedNs s.clk (absentFrom s s.safe.guard.lastCell p.1) s.clk.c
    let h := s.obj 0x6820 3 * 1000000
    decide (h < d) || (late && decide (h = d)))).map (·.1)

/-- A CM18 that maps a cell and has had no valid temperature for the missing hold. -/
def sltMissing (s : State) : Option Nat :=
  (List.range 40).find? (fun k =>
    slotUsed s k && !(slotCells s k).isEmpty
      && decide (s.obj 0x6830 3 * 1000000000 ≤ elapsedNs s.clk (absentFrom s s.safe.guard.lastTemp k) s.clk.c))

/-- The safety functions run: in every life-cycle state but BLANK (R267). -/
def guardRuns (s : State) : Bool := decide (s.obj 0x2040 1 ≠ 0)

/-- The hold of a cell channel expires (R274). -/
def execSlvMissingHoldExpiry (s : State) : Out :=
  onString s fun s =>
    if configured s = false ∨ s.profile = 3 then s else
    match slvMissing s true with
    | some n => present s 12 s.frameNo (dF 0) n
    | none => s

/-- The hold of a unit's temperatures expires (R275). -/
def execSltMissingHoldExpiry (s : State) : Out :=
  onString s fun s =>
    if guardRuns s = false ∨ s.profile = 3 then s else
    match sltMissing s with
    | some k => present s 15 s.frameNo (dF 0) k
    | none => s

/-- The guard core's values against the input image of the same frame (R313): any difference is a deviation. -/
def imageDeviates (s : State) (n : Nat) (cur : Option Rat × Option Rat) (l : List Elem) : Bool :=
  if s.cells.imageFrame ≠ n then false else
  let differs (v : Option Rat) (i : Nat) : Bool := match v with | some q => decide (q ≠ s.objF i 3) | none => false
  differs cur.1 0x3410 || differs cur.2 0x3420 || l.any (fun e => match e with
    | .bytes b =>
      if getLe b 74 1 % 2 = 1 ∨ getLe b 76 4 ≠ n then false
      else match slotAt s (getLe b 72 1) (getLe b 73 1) with
      | some k => (slotCells s k).any (fun p => decide (s.obj 0x3800 p.2 ≠ ((blockCell b p.1 / 4 * 10 : Nat) : Int)))
      | none => false
    | _ => false)

/-! ### Driver diagnostics (R285, R296) -/

/-- Faults of driver k in a frame from the coil current seen and a short detected: kinds 0 stuck on, 1 open coil, 2 short. -/
def driverFaults (s : State) (k : Nat) (coil short : Bool) : State × List Nat :=
  let on := lowOn s k
  let off := !on && !s.safe.bol.high
  let n := if off && coil then storeGet (fun _ => 0) s.safe.con.stuck k + 1 else 0
  let s := s.mapCon fun c => { c with stuck := storePut (fun _ => 0) c.stuck k n }
  let late (c : Nat) : Bool := on && s.safe.bol.high && !coil && decide (20000000 ≤ elapsedNs s.clk c s.clk.c)
  let none1 := s.safe.con.closedC.any (fun p => p.1 == k && late p.2)
  (s, ([(decide (2 ≤ n), 0), (none1, 1), (short, 2)] : List (Bool × Nat)).filterMap (fun (p : Bool × Nat) => if p.1 then some p.2 else none))

/-- The drivers of a frame: an onset sets its bit and writes its event. -/
def judgeDrivers (s : State) (coils shorts : BitVec 4) : State × Option Nat :=
  [1, 2, 3, 4].foldl (fun acc k =>
    let (s, f) := driverFaults acc.1 k (coils.getLsbD (k - 1)) (shorts.getLsbD (k - 1))
    let s := f.foldl (fun s (kind : Nat) =>
      let b := 4 * (k - 1) + kind
      if bitOf (s.obj 0x6880 5) b then s
      else raiseGuard (s.setObjBit 0x6880 5 b true) 0x0A10 [d32 k, d32 kind]) s
    (s, if f = [] then acc.2 else some (acc.2.getD k))) (s, none)

/-- The converter's status bit 6, inhibit seen asserted, agrees with the hold, where a response has come a frame or more after the hold
last changed. In a pair the lines are OR-connected, so a card that does not hold cannot tell (R222, R268, R296). -/
def holdAgrees (s : State) : Bool :=
  let y := s.safe.bol
  let seen := s.obj 0x5600 7 == 1 && decide (y.holdC ≤ s.av.conv.respC) && decide (s.tf ≤ elapsedNs s.clk y.holdC s.av.conv.respC)
  !seen || (if y.hold then !bitOf (s.obj 0x5600 10) 6 else s.pairOn || bitOf (s.obj 0x5600 10) 6)

/-! ### Diagnostics of Bollard (R280, R281) -/

/-- A diagnostic fails or passes: 0 register CRC, 1 readback, 2 comparator test, 3 oscillator; a failure's onset writes its
event with the comparator, and trips bit 18. -/
def diagnostic (s : State) (k : Nat) (ok : Bool) (comp : Nat) : State :=
  let was := s.safe.bol.diag.testBit k
  let s := s.mapBol fun y => { y with diag := (y.diag ||| 2 ^ k) - (if ok then 2 ^ k else 0) }
  if ok ∨ was then s
  else present (raiseGuard s 0x0A09 [d32 k, d32 comp]) 18 s.frameNo (dF 0) comp

/-! ### The verdict (R34 step 5) -/

/-- Currents of a frame: counters of absence, discrepancy and calm. -/
def currentFrame (s : State) (cur : Option Rat × Option Rat) : State :=
  let vote := s.obj 0x3460 1
  let lim := s.objF 0x6810 4
  let none2 := cur.1.isNone && cur.2.isNone
  let apart : Option Bool := match cur.1, cur.2 with
    | some a, some b => some (decide (lim < absR (a - b)))
    | _, _ => none
  let c := s.clk.c
  let s := s.mapGuard fun g =>
    { g with noCurrent := if none2 then g.noCurrent + 1 else 0
             discFrom := if apart = some true then some (g.discFrom.getD c) else none
             calmFrom := if apart = some false ∧ vote = 0 then some (g.calmFrom.getD c) else none
             wrong := if sdcWrong s cur.1 ∨ sdcWrong s cur.2 then g.wrong + 1 else 0 }
  if vote = 2 ∨ vote = 4 then degradeSlc s 2 else s

/-- Violations of SLC, SDC and the currents. -/
def currentViolations (s : State) (cur : Option Rat × Option Rat) : List Violation :=
  let g := s.safe.guard
  slcViolation s cur.1 0 ++ slcViolation s cur.2 1
    ++ (if s.obj 0x6850 5 ≤ g.wrong then
          [(16, dF (if sdcWrong s cur.1 then cur.1.getD 0 else cur.2.getD 0), if sdcWrong s cur.1 then 0 else 1)] else [])
    ++ (if 4 ≤ g.noCurrent ∨ g.tooLong then [(17, dF 0, 0)] else [])

/-- Every class B condition of a frame is counted, and what is violated trips (R270, R287). -/
def takeViolations (s : State) (n : Nat) (vs : List Violation) : State :=
  [8, 9, 10, 11, 12, 13, 14, 15, 16, 17, 18, 19, 20].foldl (fun s b =>
    match vs.find? (fun v => v.1 == b) with
    | some v => present (s.mapGuard fun g => { g with okRun := storePut (fun _ => 0) g.okRun b 0 }) b n v.2.1 v.2.2
    | none =>
      let s := s.mapGuard fun g => { g with okRun := storePut (fun _ => 0) g.okRun b (min 16 (okFrames s b + 1)) }
      s.setObjBit 0x6802 0 b false) s

/-- Causes of classes A and C are shown present while their condition stands. -/
def showPresent (s : State) : State :=
  [0, 1, 2, 3, 4, 5, 6, 7, 21, 22].foldl (fun s b =>
    if causeEnded s b then s.setObjBit 0x6802 0 b false else s) s

/-- A release edge that waits for the partner line gives up after 10 ms: the causes kept are recorded (R287). -/
def edgeExpired (s : State) : State :=
  match s.safe.bol.edge with
  | some (c, _, _) =>
    if tenMs s c then
      raiseGuard (s.mapBol fun y => { y with edge := none }) 0x0A03 [d32 4, d32 (s.obj 0x6801 0)]
    else s
  | none => s

/-- The guard core's verdict on frame n: SLC, SLV, SLT, SDC, drivers, hold line, readback, oscillators and door, in every life-cycle
state but BLANK and in every profile (R267). In Park what an active frame brought is judged and nothing counts as absent (R279);
before the SLV window has been committed no cell is judged against it and none is missed (R283; DESIGN CHOICE 128). -/
def execGuardVerdict (coils shorts : BitVec 4) (holdOk readbackOk oscOk : Bool) (s : State) : Out :=
  onString s fun s =>
    let n := (s.frameNo + 4294967295) % 4294967296
    let (e15, s) := laneDrain s 15
    let (e24, s) := laneDrain s 24
    let s := passLane s 38
    if guardRuns s = false then
      refreshSafety (s.mapGuard fun g => { g with holdFrom := s.clk.c })
    else
      let park := decide (s.profile = 3)
      let s := watch s
      let cur := guardCurrents e15
      let (s, vs) := e24.foldl judgeBlock (s, [])
      let idle := park && e15.isEmpty
      let s := if park then s.mapGuard fun g => { g with holdFrom := s.clk.c } else s
      let s := if idle then s else currentFrame s cur
      let vs := vs ++ (if idle then [] else currentViolations s cur)
      let vs := vs ++ (if park then [] else
        (match (if configured s then slvMissing s false else none) with | some n => [(12, dF 0, (n : Int))] | none => [])
          ++ (match sltMissing s with | some k => [(15, dF 0, (k : Int))] | none => []))
      let (s, bad) := judgeDrivers s coils shorts
      let s := diagnostic (diagnostic s 1 readbackOk 0) 3 oscOk 0
      let vs := vs ++ (if s.safe.bol.diag ≠ 0 then [(18, dF 0, 0)] else [])
      let vs := vs ++ (match bad with
        | some k => [(19, dF 0, (k : Int))]
        | none => if holdOk && holdAgrees s then [] else [(19, dF 0, 0)])
      let vs := vs ++ (if s.objB 0x6870 4 ∧ s.safe.guard.door then [(20, dF 0, 3)] else [])
      let dev := imageDeviates s n cur e24
      let s := s.mapGuard fun g => { g with deviates := (dev :: g.deviates).take 16 }
      refreshSafety (edgeExpired (showPresent (takeViolations s n vs)))

/-! ### SDC and SSI (R276, R277) -/

/-- A direction request 0x6850:2 (R276): a change at the next boundary names it as its source. -/
def requestSdc (s : State) (v : Int) : State := (s.setObj 0x6850 2 v).mapGuard fun g => { g with sdcSource := 2 }

/-- A host write of 0x6850:2. -/
def execSdcRequestWrite (v : BitVec 8) (s : State) : Out :=
  onHost s fun s => hostWrite s 0x6850 2 (if v.toNat ≤ 3 then errOk else errRange) fun s => requestSdc s v.toNat

/-- The direction in force at a boundary: only what both permit, so each bit that forbids a direction counts. -/
def sdcBoundary (s : State) : State :=
  let old := s.objN 0x6850 3
  let new := s.objN 0x6850 1 ||| s.objN 0x6850 2
  let src := s.safe.guard.sdcSource
  let s := s.mapGuard fun g => { g with sdcSource := 1 }
  if old = new then s else raiseGuard (s.setObj 0x6850 3 new) 0x0A11 [d8 old, d8 new, d32 src]

/-- A write of 1 to 0x6860:1. -/
def execSsiRequest (s : State) : Out := onHost s fun s => hostWrite s 0x6860 1 errOk (requestSsi · 22)

/-! ### Bollard's thresholds and tests (R280, R281) -/

/-- The thresholds of 0x6840 as words. -/
def thresholdWords (s : State) : List Nat := [1, 2, 3, 4].map (s.objN 0x6840)

/-- Committed thresholds are loaded at a frame boundary, with their CRC. -/
def loadThresholds (s : State) : State :=
  let w := thresholdWords s
  if configured s = false ∨ w = s.safe.bol.thresholds then s else
  let s := s.mapBol fun y => { y with before := y.thresholds, thresholds := w, loadC := s.clk.c }
  s.setObj 0x6840 5 (crc32c (w.flatMap (fun (x : Nat) => leBytes 4 (x : Int))) : Nat)

/-- The threshold of comparator k in force: for 100 µs after a load the stricter of the old and the new; 0 is off. -/
def threshold (s : State) (k : Nat) : Rat :=
  let y := s.safe.bol
  let a := f32Value (y.before.getD k 0)
  let b := f32Value (y.thresholds.getD k 0)
  if elapsedNs s.clk y.loadC s.clk.c < 100000 ∧ a ≠ 0 then
    (if b = 0 then a else if k = 3 then maxR a b else minR a b)
  else b

/-- A comparator beyond its threshold, or no longer back past its hysteresis of 2 %. -/
def compareOver (t v : Rat) (k : Nat) (was : Bool) : Bool :=
  let up := if was then t * 49 / 50 else t
  let down := if was then t * 51 / 50 else t
  match k with
  | 0 => decide (up < v)
  | 1 => decide (v < -up)
  | 2 => decide (up < v)
  | _ => decide (t ≠ 0) && decide (v < down)

/-- A comparator's input crosses its threshold, or comes back past it; before the SLV window has first been committed none is
armed (R280). -/
def execBollardComparatorTrip (k : Fin 4) (value : BitVec 32) (s : State) : Out :=
  onString s fun s =>
    if configured s = false then s else
    let v := f32Value value.toNat
    let was := s.safe.bol.beyond.testBit k
    let above := compareOver (threshold s k) v k was
    let s := s.mapBol fun y => { y with beyond := (y.beyond ||| 2 ^ k.val) - (if above then 0 else 2 ^ k.val) }
    if above ∧ was = false then trip s k s.frameNo (dF v) (if k.val < 2 then 1 else 2)
    else if above then s else refreshSafety (s.setObjBit 0x6802 0 k false)

/-- The register CRC compared every 10 µs (R280). -/
def execBollardCrcCheck (good : Bool) (s : State) : Out := onString s fun s => diagnostic s 0 good 0

/-- One comparator of a pair is tested in service (R281). -/
def execBollardSelfTest (comp : Fin 8) (pass : Bool) (s : State) : Out := onString s fun s => diagnostic s 2 pass comp

/-- FAULT is decoded on a ring port (R97): its onset on the ring is recorded, cause 4 trips, and a sweep in course goes on as after a
break (R94). -/
def execFaultSymbolDecoded (ring : Fin 4) (port : Fin 2) (block : List Byte) (s : State) : Out :=
  onString s fun s =>
    let stood := faultStands s
    let known := faultRecent s (s.ring ring).faultC
    let s := breakInSweep s ring port
    let s := s.setRing ring { s.ring ring with faultC := some s.clk.c }
    let s := s.mapBol fun y => { y with faultC := some s.clk.c }
    let s := if known then s else raise s 0x030E 9 [d32 ring.val, d32 port.val, padTo 12 block]
    if stood then s else trip s 4 s.frameNo (d32 ring.val) port.val

/-- The partner trip line is asserted (R270); a single module ignores it (R465). -/
def execPartnerTripReceived (s : State) : Out :=
  onString s fun s =>
    if s.pairOn = false then s
    else present (s.mapBol fun y => { y with partnerIn := true }) 5 s.frameNo (dF 0) 0

/-- The permit is withdrawn without a verdict (R269): nothing is latched before the first permit. -/
def execGuardPermitLoss (s : State) : Out :=
  onString s fun s =>
    if s.safe.bol.permitSeen = false ∨ s.safe.bol.trip then s
    else trip (s.mapBol fun y => { y with permitC := s.clk.c }) 6 s.frameNo (dF 0) 0

/-- The string-domain supply falls below its limit (R270, R428). -/
def execStringSupplyLow (s : State) : Out :=
  onString s fun s => trip (s.mapBol fun y => { y with supplyC := s.clk.c }) 7 s.frameNo (dF 0) 0

/-- DI3 goes off: with the interlock enabled bit 20 trips (R290). -/
def execDoorOpen (s : State) : Out :=
  onString s fun s =>
    let s := s.mapGuard fun g => { g with door := true }
    if s.objB 0x6870 4 ∧ guardRuns s then present s 20 s.frameNo (dF 0) 3 else s

/-! ### Reset after a trip (R286 to R289) -/

/-- Causes as a map. -/
def causeMap (l : List Nat) : Int := ((l.map (fun b => 2 ^ b)).sum : Nat)

/-- A reset is refused: reason and the causes kept. -/
def refuseReset (s : State) (reason : Nat) : State := raiseGuard s 0x0A03 [d32 reason, d32 (s.obj 0x6801 0)]

/-- Causes are cleared from the latch. -/
def clearLatch (s : State) (m : Int) : State := s.setObj 0x6801 0 (clearBits (s.obj 0x6801 0) m)

/-- What follows the clearing: with no cause left Bollard's test runs; else the causes kept are recorded. -/
def concludeReset (s : State) (source : Nat) (cleared : Int) : State :=
  if s.obj 0x6801 0 = 0 then refreshSafety (s.mapBol fun y => { y with edge := none, test := some (source, cleared) })
  else refreshSafety (refuseReset (s.mapBol fun y => { y with edge := none }) 4)

/-- A release edge, or a remote reset in its place, clears each cause among `cand` whose condition has ended; cause 5 may
still end within 10 ms of the edge, whatever else is kept (R287). -/
def releaseEdge (s : State) (source : Nat) (cand : Int) : State :=
  if s.obj 0x6801 0 = 0 then s else
  let goes := (List.range 24).filter (fun b => latched s b && bitOf cand b && causeEnded s b)
  let cleared := causeMap goes
  let s := clearLatch s cleared
  if latched s 5 ∧ bitOf cand 5 then
    refreshSafety (s.mapBol fun y => { y with edge := some (s.clk.c, source, cleared) })
  else concludeReset s source cleared

/-- SAFE_RST rises after its debounce (R286). -/
def execSafeRstRise (s : State) : Out :=
  onString s fun s =>
    let x := s.safe.bol.rst
    if x.high then s else
    let ready := decide (1000000000 ≤ elapsedNs s.clk x.fallC s.clk.c)
    let s := s.mapBol fun y => { y with rst := { x with high := true, riseC := s.clk.c, ready := ready, causes := s.obj 0x6801 0 } }
    let s := if x.stuck.isSome then s else s.setObj 0x6870 3 1
    if ready ∨ x.stuck.isSome then s else refuseReset s 1

/-- Whether Bollard's RC oscillator takes a pulse of this length as valid: always from 110 ms to 1.9 s, never below 90 ms or
above 2.1 s, and between them as its oscillator falls out (R286). -/
def pulseValid (free : Nat) (ns : Int) : Bool :=
  if ns < 90000000 ∨ 2100000000 < ns then false
  else if 110000000 ≤ ns ∧ ns ≤ 1900000000 then true
  else decide (Config.freeBits free % 2 = 1)

/-- SAFE_RST falls: a valid pulse is a release edge (R286, R287). -/
def execSafeRstReleaseEdge (s : State) : Out :=
  onString s fun s =>
    let x := s.safe.bol.rst
    if x.high = false then s else
    let ns := elapsedNs s.clk x.riseC s.clk.c
    let s := s.mapBol fun y => { y with rst := { x with high := false, fallC := s.clk.c } }
    if x.stuck.isSome then s else
    let s := s.setObj 0x6870 3 0
    if x.ready = false then s else
    let (k, s) := s.draw
    if pulseValid k ns then releaseEdge s 1 x.causes
    else refuseReset s (if ns < 1000000000 then 2 else 3)

/-- SAFE_RST is still high at 10 s (R286). -/
def execSafeRstStuck (s : State) : Out :=
  onString s fun s =>
    let x := s.safe.bol.rst
    if x.high = false ∨ x.stuck.isSome then s else
    let s := (s.mapBol fun y => { y with rst := { x with stuck := some s.clk.c } }).setObj 0x6870 3 2
    refreshSafety (raiseGuard s 0x0A04 [d32 (elapsedNs s.clk x.riseC s.clk.c / 1000000000)])

/-- SAFE_RST has been low for 1 s without a break (R286). -/
def execSafeRstUnstuck (s : State) : Out :=
  onString s fun s =>
    let x := s.safe.bol.rst
    match x.stuck with
    | none => s
    | some c =>
      if x.high then s else
      let s := (s.mapBol fun y => { y with rst := { x with stuck := none } }).setObj 0x6870 3 0
      refreshSafety (raiseGuard s 0x0A05 [d32 (elapsedNs s.clk c s.clk.c / 1000000000)])

/-- The partner trip line deasserts: within 10 ms of a release edge cause 5 is cleared too (R287). -/
def execPartnerTripDeasserted (s : State) : Out :=
  onString s fun s =>
    let s := s.mapBol fun y => { y with partnerIn := false }
    match s.safe.bol.edge with
    | some (c, src, m) =>
      if elapsedNs s.clk c s.clk.c ≤ 10000000 then concludeReset (clearLatch s 32) src (m + 32)
      else refreshSafety (showPresent (edgeExpired s))
    | none => refreshSafety (showPresent s)

/-- The safety reset that clears cause 21 ends the orderly shutdown (R262). -/
def shutReset (s : State) : State :=
  let s := ((s.setObj 0x6060 6 0).setObj 0x6060 7 0).setObjBit 0x6000 1 4 false
  let s := s.setObjBit 0x6000 1 5 false
  let s := s.mapTherm fun t => { t with takeP0 := false, shutDue := none, shutOn := 0, zero := 0, reached := 0 }
  let s := s.mapCon fun c => { c with standby := false }
  let s := s.setSlip 0 { s.slip 0 with early := false }
  { s with av := { s.av with conv := { s.av.conv with off := false } } }

/-- Bollard's test of every comparator ends (R281): at start it leads out of STARTING; before a reset it completes it. A
comparator that fails it trips bit 18. -/
def execResetTestComplete (failed : BitVec 8) (s : State) : Out :=
  onString s fun s =>
    let bad := (List.range 8).find? (fun k => failed.getLsbD k)
    match bad with
    | some k =>
      if s.safe.bol.tested = false ∨ s.safe.bol.test.isSome then diagnostic s 2 false k else s
    | none =>
      if s.safe.bol.tested = false then
        refreshSafety (s.mapBol fun y => { y with tested := true, diag := y.diag - (y.diag &&& 4) })
      else match s.safe.bol.test with
      | none => s
      | some (src, m) =>
        let s := s.mapBol fun y => { y with test := none, diag := y.diag - (y.diag &&& 4) }
        let s := s.setObj 0x6880 5 (maskAnd (s.obj 0x6880 5) 0x8888)
        let s := raiseGuard s 0x0A02 [d32 src, d32 m]
        let s := if bitOf (s.obj 0x6000 1) 4 ∧ 5 ≤ s.obj 0x6060 6 then shutReset s else s
        refreshSafety s

/-- A write of 1 to 0x6870:2 (R289): one that is not made in the plant controller's session is refused (DESIGN CHOICE 129). -/
def execRemoteReset (s : State) : Out :=
  onHost s fun s =>
    let other : Bool := match writeOf s 0x6870 2 with
      | some w => decide (w.origin ≠ .eop)
      | none => false
    if other then settle s 0x6870 2 errState
    else if s.objB 0x6870 1 = false then settle (refuseReset s 6) 0x6870 2 errState
    else if latchedBollard s ∨ latched s 23 then settle (refuseReset s 5) 0x6870 2 errState
    else hostWrite s 0x6870 2 errOk fun s => releaseEdge s 2 (s.obj 0x6801 0)

/-! ### The safety password (R291) -/

/-- 8 to 16 characters from 0x21 to 0x7E. -/
def passwordOk (p : List Byte) : Bool :=
  decide (8 ≤ p.length) && decide (p.length ≤ 16) && p.all (fun b => decide (0x21 ≤ b.toNat) && decide (b.toNat ≤ 0x7E))

/-- A write of 0x6890:1: the first password in COMMISSION needs no session; only its derivation is kept, and the change is
logged. -/
def execSafetyPasswordWrite (password : List Byte) (s : State) : Out :=
  onHost s fun s =>
    let o := match (takeWrite 0x6890 1 (s.host.due ++ s.host.batch)).1 with
      | some w => w.origin
      | none => Origin.eop
    let inSafety : Bool := match originChan o with
      | some c => (s.session c).safety
      | none => s.alley.lock
    let first := decide (s.log.derived = []) && decide (s.obj 0x2040 1 = 1)
    let err := if passwordOk password = false then errRange else if first ∨ inSafety then errOk else errSafety
    rwsWrite s 0x6890 1 err (fun s => logChange s 0x6890 1 o 16 [] []) fun s =>
      let (k, s) := s.draw
      let salt := freeBytes 16 k
      { s.setB 0x6890 4 true with log := { s.log with salt := salt, derived := pbkdf2 password salt 100000 } }

end Sys2Proof.Machine
end

