-- ==== Sys2Proof/Machine/Shutdown.lean ====
section
/-!
DEFINITION. The orderly shutdown (R262 to R264). What a trip does to it stands in Trip.lean, what a safety reset does in
Guard.lean.
Marks (notes/assumptions): DEDUCED 63.
-/
namespace Sys2Proof.Machine

/-- A cause of the orderly shutdown (1 T_max, 2 local input, 3 host) with its temperature and its position or input: its
event, and the start where none runs. Times count from S(n) of the frame whose data gave it; step 1 comes with the release of
that frame's outputs. -/
def startShutdown (s : State) (cause : Nat) (temp pos : Int) : State :=
  let s := raise s 0x090C 3 [d8 cause, d16 temp, d16 pos]
  if bitOf (s.obj 0x6000 1) 4 then s else
  let s := (s.setObjBit 0x6000 1 4 true).setObj 0x6060 7 cause
  s.mapTherm fun t => { t with shutDue := some ((s.frameNo + 1) % 4294967296), shutC := s.frame.prevC, reached := 0 }

/-- A write of 1 to 0x6060:2. -/
def execShutdownRequest (s : State) : Out :=
  onHost s fun s => hostWrite s 0x6060 2 errOk fun s => startShutdown s 3 0 0

/-- The causes of a frame: bit 0 T_max, bit k input k. -/
def shutdownCauses (s : State) : Nat :=
  let hot : Bool := match extreme s true with
    | some (t, _) => decide ((s.obj 0x6060 1 : Rat) * 16 ≤ t)
    | none => false
  let ins := (List.range 16).map (fun j =>
    let lim := s.obj (0x6010 + j) 13
    if lim ≠ 32767 ∧ s.obj (0x6010 + j) 15 = 0 ∧ lim ≤ s.obj (0x6010 + j) 14 then 2 ^ (j + 1) else 0)
  (if hot then 1 else 0) + ins.sum

/-- At the seal: each cause that begins, and the frames of zero current counted in step 2. -/
def sealShutdown (s : State) : State :=
  let now := shutdownCauses s
  let was := s.therm.shutOn
  let s := s.mapTherm fun t => { t with shutOn := now }
  let s := (List.range 17).foldl (fun s b =>
    if now.testBit b && !(was.testBit b) then
      if b = 0 then startShutdown s 1 (s.obj 0x6001 1) (s.obj 0x6001 3)
      else startShutdown s 2 (s.obj (0x6010 + (b - 1)) 14) b
    else s) s
  if s.obj 0x6060 6 = 2 then
    s.mapTherm fun t => { t with zero := if absR (s.objF 0x3410 3) < restAmps s then t.zero + 1 else 0 }
  else s

/-- Step 1: P0 stops; where the dispatch loop does not follow P0, P0 first takes the loop's last set-point with speed 0, and
the loop follows P0 until the shutdown ends. -/
def shutStepOne (s : State) : State :=
  let s := match dispatchLoop s with
    | some l =>
      if setpointCode s l = 0x0400 then s
      else
        let q := fromFrac (s.loop l).r (yScale s l)
        let t := s.now / 65536
        let s := endGear s 0 t q
        s.setSlip 0 { restAt (s.slip 0) t q with limit := 0 }
    | none => s
  let s := s.mapTherm fun t => { t with takeP0 := true, shutDue := none }
  shutStep (stopChannel s 0 2) 1

/-- At the output release: step 1 where it is due. -/
def releaseShutdown (s : State) : State :=
  match s.therm.shutDue with
  | some f => if ((s.frameNo : Int) - (f : Int)) % 4294967296 < 2147483648 then shutStepOne s else s
  | none => s

/-- P0 has reached 0: command frames clear enable and ask for standby. -/
def execShutdownZeroReached (s : State) : Out :=
  onHost s fun s =>
    if s.obj 0x6060 6 = 1 ∧ (slipAt (s.slip 0) (s.now / 65536)).1 = 0 then
      let s := s.mapCon fun c => { c with standby := true }
      let s := { s with av := { s.av with conv := { s.av.conv with off := true } } }
      shutStep (s.mapTherm fun t => { t with zero := 0 }) 2
    else s

/-- The current has been below the rest threshold for the count: the contactors open, the converter staying in standby. -/
def execShutdownZeroConfirmed (s : State) : Out :=
  onHost s fun s =>
    if s.obj 0x6060 6 = 2 ∧ s.obj 0x6060 4 ≤ s.therm.zero then
      shutStep ((openDrivers s).mapCon fun c => { c with standby := true }) 3
    else s

/-- The contactor release time has passed: HK writes. -/
def execShutdownFlush (s : State) : Out :=
  onHost s fun s => if s.obj 0x6060 6 = 3 then flushWrites (shutStep s 4) else s

/-- The end of the shutdown: its event, with the step reached. -/
def shutDone (s : State) (state reached : Nat) : State :=
  raise (s.setObjBit 0x6000 1 5 true) 0x090E 3 [d8 state, d32 reached]

/-- Step 4 has ended, or its deadline has passed: SSI is commanded. -/
def execShutdownIsolate (s : State) : Out :=
  onHost s fun s =>
    let late := decide (s.obj 0x6060 3 * 1000000 ≤ elapsedNs s.clk s.therm.stepC s.clk.c)
    if s.obj 0x6060 6 = 4 ∧ (flushLeft s = false ∨ late) then
      let r := s.therm.reached
      shutDone (shutStep (requestSsi s 21) 5) 5 (if r = 0 then 5 else r)
    else s

/-- Step 1 or 2 misses its deadline: SSI at once, state 6, then step 4 is completed (R263). -/
def execShutdownStepDeadline (s : State) : Out :=
  onHost s fun s =>
    let k := s.objN 0x6060 6
    if k = 1 ∨ k = 2 then
      let s := shutDone (requestSsi s 21) 6 k
      flushWrites ((shutStep s 4).setObj 0x6060 6 6)
    else s

end Sys2Proof.Machine
end

