-- ==== Sys2Proof/Machine/Boundary.lean ====
section
/-!
DEFINITION. The frame (R31 to R39): the boundary, the input image (R338 to R345), the output seal, the output release (R35, R340),
and the internal link with its release of the string domain (R17, R18, R454).
Marks (notes/assumptions): DEDUCED 5, 6, 27, 29, 30, 32, 83, 99; DESIGN CHOICE 31, 113, 130, 133, 134.
-/
namespace Sys2Proof.Machine

/-! ### The boundary (R32, R33) -/

/-- The first counter value at which module time reaches `ns` (R33, R41). -/
def tickAt (k : Clk) (ns : Int) : Nat :=
  let q : Int := (ns * 65536 - k.o) * 1099511627776 / (262144 * (1099511627776 + k.rho)) - 1
  let c0 := q.toNat
  ((List.range 4).map (fun d => c0 + d)).find? (fun c => decide (ns * 65536 ≤ timeAt k c 0)) |>.getD (c0 + 4)

/-- The counter runs on to the boundary: the command stands for the passing of time up to it. -/
def runTo (s : State) (ns : Int) : State :=
  let c := tickAt s.clk ns
  if s.clk.c < c then { s with clk := { s.clk with c := c } } else s

/-- Steps of module time that fall due at a boundary: an automatic one in ACQUIRE, a host's in HOLD (R55, R56); none is 0.
Given in 2^-16 ns. A host's request that the servo leaves HOLD under stays pending, with bit 2 of 0x2805 and event 0x0205
untouched, until it is in HOLD again (DESIGN CHOICE 113). -/
def stepDue (s : State) : Int :=
  match s.clk.autoStep with
  | some d => if s.servo = 1 then d else 0
  | none => if s.servo = 3 then s.obj 0x2830 0 * 65536 else 0

/-- The first multiple of T_F at or after a module time, ns. -/
def nextMultiple (tf ns : Int) : Int := (ns + tf - 1) / tf * tf

/-- Module time steps by `d` at the boundary `at_` of frame `n` (R54, R61): the frame that begins is stretched, and the event
names both frame numbers. What counts time from an origin, a plan and an injection, takes its origin along (R44). -/
def stepTime (s : State) (d at_ : Int) (n : Nat) : State :=
  let ns := d / 65536
  let new := (s.now + d) / 65536
  let next := nextMultiple s.tf (new + s.tf)
  let s := { s with clk := { s.clk with o := s.clk.o + d }
                    frame := { s.frame with sAt := at_ + ns, nextAt := next }
                    slips := s.slips.map (fun p => (p.1, { p.2 with origin := p.2.origin + ns }))
                    av := { s.av with inj := { s.av.inj with startNs := s.av.inj.startNs.map (· + ns) } } }
  let s := if s.servo = 3 then (s.setObj 0x2830 0 0).setObjBit 0x2805 0 2 false else s
  recompute (raise s 0x0204 2 [d64 ns, d32 n, d32 (next / s.tf % 4294967296)])

/-- The frame number, the instants of the frame, and a step that is due (R32, R33, R54 to R56). -/
def beginFrame (s : State) : State :=
  let at_ := s.frame.nextAt
  let s := runTo s at_
  let n := (at_ / s.tf % 4294967296).toNat
  let f := s.frame
  let s := { s with frame := { f with
    prevC := f.boundaryC, boundaryC := s.clk.c, lastNs := elapsedNs s.clk f.boundaryC s.clk.c
    prevAt := f.sNom, prevStat := f.sStat, sAt := at_, sNom := at_, sStat := s.obj 0x2805 0, nextAt := at_ + s.tf
    stats := ((n, s.obj 0x2805 0) :: f.stats).take 16, lastProfile := s.profile } }
  let s := s.setObj 0x2013 0 n
  let d := stepDue s
  let s := { s with clk := { s.clk with autoStep := none } }
  if d = 0 then s else stepTime s d at_ n

/-- The frame that ends is counted as overrun or clean (R38, R39). -/
def countLate (s : State) : State :=
  let s := if s.frame.late = [] then
      { s.setObj 0x2111 0 0 with frame := { s.frame with clean := s.frame.clean + 1 } }
    else s
  { s with frame := { s.frame with late := [], lost := [] } }

/-- The writes serialised in the frame that ends become due (R354, R369); on the ACTIVE card of a pair those its mirror carried,
which wait for the next mirror where this one was not sent or not transferred (R305). -/
def serialise (s : State) : State :=
  let h := s.host
  if s.pairOn && s.isActive then
    let l := s.duplex.carried
    let st := s.duplex.carriedStaged
    let s := { s with duplex := { s.duplex with carried := [], carriedStaged := [] } }
    if windowLate s 5 || windowLate s 6 then
      { s with host := { h with batch := l ++ h.batch }, duplex := { s.duplex with stagedOut := st ++ s.duplex.stagedOut } }
    else { s with host := { h with due := h.due ++ l } }
  else { s with host := { h with due := h.due ++ h.batch, batch := [] } }

/-- What entering Park asks for at once (R27, R98, R181). -/
def enterPark (s : State) : State :=
  let s := { s with frame := { s.frame with parkNew := false, parkPhase := 0 } }
  let s := sleepRings s
  let s := (commandOpen s).mapCon fun c => { c with atZero := true }
  { s with cells := { s.cells with parkC := s.frame.boundaryC } }

/-- The profile at the boundary (R22, R27, R30). -/
def profileBoundary (s : State) : State :=
  let s := { s with frame := { s.frame with
    settling := s.frame.settling - 1
    parkPhase := if s.profile = 3 then (s.frame.parkPhase + 1) % 4096 else 0 } }
  let s := match s.frame.change with
    | some (v, r) => changeProfile { s with frame := { s.frame with change := none } } v r
    | none => s
  if s.frame.parkNew then enterPark s else s

/-- Limits and safety at the boundary (R205, R276, R277, R280). -/
def safetyBoundary (s : State) : State :=
  let s := ssiBoundary (loadThresholds (sdcBoundary s))
  refreshSafety (imposeLimits s (thermalImposed s ++ guardImposed s))

/-- The first boundary after a start (R335, R436): with 0xA000:3 the program makes its warm start. -/
def firstBoundary (s : State) : State :=
  if s.pwr.booted then s else
  let s := { s with pwr := { s.pwr with booted := true } }
  if s.obj 0xA000 3 = 1 ∧ s.prog.image.isSome then startTasks s 5 else s

/-- The frame boundary. -/
def execFrameBoundary (s : State) : Out :=
  onHost s fun s =>
    let s := flushAnswers (serialise s)
    let s := beginFrame (countLate s)
    let s := profileBoundary s
    let s := [0, 1, 2, 3].foldl rateBoundary s
    let s := balanceState (alignBoundary (tableBoundary (trimBoundary s)))
    let s := safetyBoundary (throttleBoundary s)
    let s := storeImage (latchStations (heldBoundary (firstBoundary s)))
    canBoundary (duplexBoundary s)

/-! ### The input image (R338 to R344) -/

/-- A station as it stood at S(n): lost, and its payload. -/
def latchedStation (s : State) (n : Nat) : Bool × List Byte :=
  match s.prog.latchOld.find? (fun p => p.1 == n) with
  | some p => p.2
  | none => ((s.station n).lost, (s.station n).payload)

/-- The CM18 station of a slot is lost while every mapped cell of it is missing (R343). -/
def cm18Lost (s : State) (k : Nat) : Bool :=
  slotUsed s k && decide (slotCells s k ≠ []) && (slotCells s k).all (fun p => cellBit s p.2 1)

/-- CM18 stations in the image: lost or back, and what each shows, by slot. -/
def slotStations (s : State) : List (Nat × Nat) × State :=
  ((List.range 40).filter (slotUsed s)).foldl (fun acc k =>
    let (l, s) := acc
    let lost := cm18Lost s k
    let s := if lost then stationLostIn s (k + 1) 3 s.cells.imageFrame else stationBack s (k + 1)
    let (m, s) := stationImage s (k + 1) lost
    (l ++ [(k, m)], s)) (([] : List (Nat × Nat)), s)

/-- The converter and the CAN stations in the image, as they stood at S(n). -/
def otherStations (s : State) : List (Nat × Nat) × State :=
  (41 :: (List.range 16).map (· + 48)).foldl (fun acc n =>
    let (l, s) := acc
    if n = 41 ∨ (stationOf s n).isSome then
      let (m, s) := stationImage s n (latchedStation s n).1
      (l ++ [(n, m)], s)
    else (l, s)) (([] : List (Nat × Nat)), s)

/-- What a station shows in the image: 0 live, 1 last values, 2 fail-safe values. -/
def modeOf (l : List (Nat × Nat)) (n : Nat) : Nat := storeGet (fun _ => 0) l n

/-- The local block (R339). -/
def localBlock (s : State) (n : Nat) (di mf : BitVec 8) : List Byte :=
  let f (i sub : Nat) : List Byte := leBytes 4 (s.obj i sub)
  let pins : Nat := ((List.range 8).map (fun p =>
    if s.obj 0x2030 (p + 1) = 0 ∧ mf.toNat.testBit p then 2 ^ p else 0)).sum
  let elem (i : Nat) : Nat × Nat :=
    match (storeGet (fun _ => ({} : Input)) s.av.inputs i).slot0.find? (fun p => p.1 == n) with
    | some p => p.2
    | none => (0, 0)
  let chans : List Nat := [0x3410, 0x3420, 0x3430, 0x3440]
  padTo 128 ([di, BitVec.ofNat 8 pins, 0#8, 0#8] ++ chans.flatMap (fun i => f i 2)
    ++ [0x3410, 0x3420, 0x3430].flatMap (fun i => f i 3) ++ chans.flatMap (fun i => leBytes 2 (s.obj i 5))
    ++ leBytes 4 ((elem 0).1 : Int) ++ leBytes 4 ((elem 1).1 : Int)
    ++ [BitVec.ofNat 8 (elem 0).2, BitVec.ofNat 8 (elem 1).2, 0#8, 0#8]
    ++ (List.range 16).flatMap (fun k => leBytes 2 (s.obj (0x6010 + k) 14))
    ++ (List.range 16).flatMap (fun k => leBytes 1 (s.obj (0x6010 + k) 15))
    ++ leBytes 2 (s.obj 0x6001 1) ++ leBytes 2 (s.obj 0x6001 2))

/-- A cell position in the image: a cell whose own value has not come, late or missing, keeps the voltages of the image before, so a
late value never reaches an image (R338); a lost station keeps its last voltages, then reads 0; the status words stand as they are. -/
def imageCell (s : State) (old : List Byte) (n mode : Nat) : List Byte :=
  let v := match mode with
    | 0 => if cellBit s n 0 || cellBit s n 1 then sliceAt old (224 + 16 * (n - 1)) 8
      else leBytes 4 (s.obj 0x3800 n) ++ leBytes 4 (s.obj 0x3801 n)
    | 1 => sliceAt old (224 + 16 * (n - 1)) 8
    | _ => List.replicate 8 0#8
  v ++ leBytes 2 (s.obj 0x3804 n) ++ leBytes 2 (s.obj 0x4105 n) ++ leBytes 4 (s.obj 0x4101 n)

/-- A CMU temperature channel in the image. -/
def tempBlock (s : State) (old : List Byte) (t mode : Nat) : List Byte :=
  match mode with
  | 0 => leBytes 2 (s.obj 0x3810 t)
  | 1 => sliceAt old (9440 + 2 * (t - 1)) 2
  | _ => [0#8, 0x80#8]

/-- The converter block: the response to slot 0 of frame n; without one, and with the link lost, the last values; as fail-safe,
current 0 and status 0x80. -/
def converterBlock (s : State) (old : List Byte) (n mode : Nat) : List Byte :=
  let last := sliceAt old 9760 16
  match mode with
  | 0 =>
    match s.av.conv.slot0.find? (fun p => p.1 == n % 65536) with
    | some (_, b) => sliceAt b 6 4 ++ sliceAt b 1 1 ++ d8 (s.obj 0x5600 7) ++ sliceAt b 10 4 ++ sliceAt b 14 1 ++ sliceAt b 15 1
        ++ sliceAt b 2 4
    | none => last
  | 1 => last
  | _ => List.replicate 4 0#8 ++ [0x80#8] ++ last.drop 5

/-- A CAN station's inputs. -/
def canBlock (s : State) (old : List Byte) (n mode : Nat) : List Byte :=
  match stationOf s n with
  | none => List.replicate 64 0#8
  | some x => match mode with
    | 0 => padTo 64 (latchedStation s n).2
    | 1 => sliceAt old (9776 + 64 * (n - 48)) 64
    | _ => padTo 64 (sliceAt s.prog.consts x.failOff x.rxLen)

/-- The image of frame n, 10,800 bytes (R339). -/
def imageBytes (s : State) (n : Nat) (slots others : List (Nat × Nat)) (di mf : BitVec 8) : List Byte :=
  let old := padTo 10800 s.prog.input
  let cells := allCells s
  let all := slots.map (·.2) ++ others.map (·.2)
  let late := cells.any (fun p => cellBit s p.1 0)
  let bit (b : Nat) (c : Bool) : Nat := if c then 2 ^ b else 0
  let status := bit 0 s.prog.cohOld + bit 1 (all.any (fun m => m != 0)) + bit 2 (all.any (fun m => m == 1))
    + bit 3 (all.any (fun m => m == 2)) + bit 5 late
  let head := leBytes 4 (n : Int) ++ d80 (time80 (s.frame.prevAt * 65536)) ++ leBytes 2 (status : Int)
    ++ [s.profile, s.role, s.obj 0x2040 1, s.obj 0x6800 1].flatMap d8
  let cellPart := (List.range s.cellCount).flatMap (fun k =>
    match cells.find? (fun p => p.1 == k + 1) with
    | some p => imageCell s old p.1 (modeOf slots p.2.1)
    | none => imageCell s old (k + 1) 0)
  padTo 32 head ++ (List.range 64).flatMap (fun k => leBytes 1 (s.obj 0xA050 (k + 1))) ++ localBlock s n di mf
    ++ padTo 9216 cellPart ++ (List.range 160).flatMap (fun t => tempBlock s old (t + 1) (modeOf slots (t / 4)))
    ++ converterBlock s old n (modeOf others 41) ++ (List.range 16).flatMap (fun k => canBlock s old (48 + k) (modeOf others (48 + k)))

/-- A cell of the active frame lies beyond a Park threshold: its voltage beyond 0x3020:2 or :3. -/
def parkCell (s : State) (n : Nat) : Bool :=
  let v := s.obj 0x3800 n
  !(cellBit s n 0) && !(cellBit s n 1) && (decide (s.obj 0x3020 2 * 8000 < v) || decide (v < s.obj 0x3020 3 * 8000))

/-- A temperature of the active frame lies beyond 0x3020:4 or :5. -/
def parkTemp (s : State) (t : Nat) : Bool :=
  let v := s.obj 0x3810 t
  decide (s.obj 0x3811 t = 0) && (decide (s.obj 0x3020 4 * 16 < v) || decide (v < s.obj 0x3020 5 * 16))

/-- Results of the active frame `n` beyond their thresholds end Park (R27). -/
def parkResults (s : State) (n : Nat) : State :=
  if s.profile = 3 ∧ s.rings.active = some n
      ∧ ((allCells s).any (fun p => slotLive s p.2.1 && parkCell s p.1)
        || ((List.range 40).filter (slotUsed s)).any (fun k => slotLive s k && (List.range 4).any (fun j => parkTemp s (4 * k + j + 1)))) then
    parkWake s
  else s

/-- AC3 assembles the input image of the frame before the one in course: the cells, the die temperature, the local thermal
inputs, the digital inputs and MF pins as they were latched at S(n), and the stations. -/
def execInputImageAssembly (readings : List TempReading) (die : BitVec 16) (di mf : BitVec 8) (s : State) : Out :=
  onHost s fun s =>
    let n := (s.frameNo + 4294967295) % 4294967296
    let s := parkResults (imageCells s n) n
    let s := senseInputs (s.setObj 0x6040 1 die.toInt) readings
    let s := s.mapGuard fun g => { g with door := !di.toNat.testBit 3 }
    let (slots, s) := slotStations s
    let (others, s) := otherStations s
    s.mapProg fun p => { p with input := imageBytes s n slots others di mf }

/-! ### What the module writes to its own objects (R204, R340) -/

/-- A value meets an object whose write has a row of its own: what that row does with it, here for a writer inside the module. -/
def ownWrite (s : State) (i sub : Nat) (v : Int) : State :=
  if i = 0x2001 then (takeProfile s s.isActive v).2
  else if i = 0x2821 then setServoMode s v
  else if i = 0x2830 then requestStep s v
  else if i = 0x5440 then releaseSnapshot s
  else if i = 0x6850 then requestSdc s v
  else if i = 0x6880 then (if v = 0 then commandOpen s else if mayClose s then commandClose s else s)
  else if within 0x3010 0x3013 i then setRateMode s (i - 0x3010) v
  else if within 0x5100 0x510F i || within 0x5200 0x525F i then clearFlags s i sub v.toNat
  else s

/-- A program output or a loop's delivery is written to an object (R202, R204, R340). -/
def moduleWrite (s : State) (i sub : Nat) (v : Int) : State :=
  if ownRow s i sub then ownWrite s i sub v else applyValue s i sub (storedVal i sub v)

/-- Loops whose destination is an object deliver to it at the output seal (R204). -/
def sealObjects (s : State) : State :=
  (List.range 16).foldl (fun s l =>
    if loopOn s l ∧ s.obj (loopIx l) 9 = 0x0400 then
      let k := s.objN (loopIx l) 30
      match asObject s (k / 65536) (k % 65536) (loopOut s l) with
      | some n => moduleWrite s (k / 65536) (k % 65536) n
      | none => s
    else s) s

/-! ### The output seal (step 9 of R34) -/

/-- A host set-point or a Sliproad target a program output has written goes with the same release (R202, R229). -/
def releaseWritten (s : State) (i sub : Nat) : State :=
  if within 0x5100 0x510F i && sub == 28 then s.setLoop (i - 0x5100) { s.loop (i - 0x5100) with hostNext := s.objN i 28 }
  else if within 0x5810 0x5813 i && sub == 3 then sealTarget s (i - 0x5810)
  else s

/-- Values of object outputs are written to their targets: one the object does not take leaves it as it is. -/
def writeOutputs (s : State) (l : List (ObjOut × Int)) : State :=
  l.foldl (fun s p =>
    match objInfo s p.1.index p.1.sub with
    | some r =>
      if r.access = .rw ∧ isBytes r = false ∧ rangeOk r.ty r.range p.2 ∧ extraOk s p.1.index p.1.sub p.2 then
        releaseWritten (moduleWrite s p.1.index p.1.sub p.2) p.1.index p.1.sub
      else s
    | none => s) s

/-- At the first seal outside RUNNING the targets take their safe values (R335, R342). -/
def sealSafe (s : State) : State :=
  let s := writeOutputs s (safeOutputs s)
  if progRuns s then s else s.mapProg fun p => { p with safeDue := false }

/-- What the seal of a frame adds to the output vector: the program, the loops' set-points, the Sliproad targets, the loops'
objects; an overrun of window 4 leaves the vector as it was (R38). -/
def sealVector (s : State) : State :=
  if windowLate s 4 then s else sealTargets (sealSetpoints (sealObjects (sealSafe (sealProgram s))))

/-- At the first seal after a start: RESET, and directly after it what fell while the host domain was down (R429, R474). -/
def bootRecords (s : State) : State :=
  match s.evt.boot with
  | none => s
  | some (src, role) =>
    let l := s.evt.deferred
    let s := raise { s with evt := { s.evt with boot := none, deferred := [] } } 0x0101 11 [d8 src, d8 role]
    l.foldl pushEvent s

/-- AC3 closes the output vector of the frame whose image was assembled last, brings the per-cell results and the thermal
functions up to date, and sends the publish sets due. -/
def execOutputSeal (s : State) : Out :=
  onHost s fun s =>
    let n := (s.frameNo + 4294967295) % 4294967296
    let fresh := decide (s.cells.sealFrame ≠ some s.cells.imageFrame)
    let s := sealCells (mirrorAtSeal (bootRecords s))
    let s := if fresh then sealOwt (sealBalance s) else s
    let s := sealExtremes (sealStale s)
    let s := sealWindow (sealWindow s 0) 1
    let s := weldFrame (sealShutdown (sealThrottle (sealDie s)))
    publish (sealMirror (sealOnsets (sealVector s))) n

/-! ### The output release (R35, R340, R345) -/

/-- At a release the program's object outputs are written to their targets (R340). -/
def releaseObjects (s : State) : State := writeOutputs s (objectOutputs s)

/-- The MF plain outputs (R340, R376): a pin coded 1 that the image does not drive is held low. -/
def releasePins (s : State) : State :=
  let w : Nat := ((List.range 8).map (fun p => if mfOutput s p = some true then 2 ^ p else 0)).sum
  s.mapProg fun p => { p with mfOut := w }

/-- The level the module drives on an MF pin, none on an input (R376): the program's, a comparator's, or whether a stepper
channel is energised. -/
def mfLevel (s : State) (p : Nat) : Option Bool :=
  match s.objN 0x2030 (p + 1) with
  | 0 => none
  | 1 => some (s.prog.mfOut.testBit p)
  | 6 => some (coilOn s 0)
  | 7 => some (coilOn s 1)
  | c =>
    let k := c + 2
    let inactive := s.objB (0x2850 + k) 5
    some (if s.obj (0x2850 + k) 9 = 1 ∧ (s.comp k).pulse then !inactive else inactive)

/-- A CAN station's message at the release: one that is due is handed on, or withheld while the station is lost (R345). -/
def releaseStation (s : State) (x : Station) : State :=
  let y := s.station x.num
  let n := y.sincetx + 1
  if n < x.txPeriod then s.setStation x.num { y with sincetx := n }
  else if y.lost then
    let s := s.setStation x.num { y with sincetx := n, withheld := true }
    s.setObjBit 0xA050 (x.num + 1) 4 true
  else
    let s := s.setStation x.num { y with sincetx := 0, withheld := false }
    let s := s.setObjBit 0xA050 (x.num + 1) 4 false
    lanePush s (9 + x.bus) (stationElem x (sliceAt s.prog.outVec (stationOut (x.num - 48)) x.txLen))

/-- The stations' messages in station order. -/
def releaseStations (s : State) : State :=
  match s.prog.image with
  | some im => (List.range 16).foldl (fun s k =>
      match im.stations.find? (fun x => x.num == 48 + k) with
      | some x => releaseStation s x
      | none => s) s
  | none => s

/-- The rings' commands, which the card that does not drive the rings only notes, and what the driving card alone sends: thresholds and CAN
messages (R15, R128, R186, R282, R299, R318). -/
def releaseLinks (s : State) : State :=
  let s := releaseThrottle (releaseRings s)
  if s.drivesAll = false then s else
  let s := if s.profile ≠ 3 ∧ (s.rings.threshDue ∨ s.frameNo % 4096 = 0) then
      { threshAll s with rings := { (threshAll s).rings with threshDue := false } }
    else s
  releaseStations (fanMessage s)

/-- The outputs of the frame sealed last take effect together on every link; they come through lane 8, and Avenue's set-points go
on through lane 42 (R65, R202). -/
def execOutputRelease (s : State) : Out :=
  onHost s fun s =>
    let s := releasePins (releaseObjects (passLane (passLane s 8) 42))
    let s := releaseTargets (releaseSetpoints s)
    releaseContactors (releaseShutdown (releaseLinks s))

/-! ### The internal link (R17, R18) -/

/-- A packet on the internal link: one that fails its CRC is discarded and counted, and what it carried for a window is missing
for the frame as after an overrun of that window (R17, R38). -/
def execInternalLinkPacket (packet : LinkPacket) (s : State) : Out :=
  onHost s fun s =>
    if packet.good then s else
    let s := s.bump 0x2120 0
    match packet.window with
    | some w => { s with frame := { s.frame with lost := s.frame.lost ++ [w.val + 1] } }
    | none => s

/-- The string domain releases itself until the next reset: cause 1 no valid packet, 2 J2 loop open (R18, R454). -/
def releaseDomain (s : State) (cause : Nat) : State :=
  if s.frame.released ≠ 0 then s else
  let s := { s with frame := { s.frame with released := cause } }
  let s := { s with valves := s.valves.map (fun p => (p.1, { p.2 with energised := false })) }
  let s := raise s 0x0114 3 [d32 cause, d32 (s.obj 0x2120 0)]
  trip s 23 s.frameNo (dF 0) 0

/-- No valid packet for 100 µs. -/
def execInternalLinkLost (s : State) : Out := onString s fun s => releaseDomain s 1

/-- The loop between LOOP_A and LOOP_B opens (R454). -/
def execJ2LoopOpen (s : State) : Out :=
  let s := showSwap { s with pwr := { s.pwr with j2Open := true } }
  onString s fun s => releaseDomain s 2

end Sys2Proof.Machine
end

