-- ==== Sys2Proof/Machine/Power.lean ====
section
/-!
DEFINITION. Resets, start-up, the power-fail writes and life-cycle transitions (R18, R24, R423 to R447, R469, R470, R474): what a
reset leaves of the machine and what a start makes of it.
Marks (notes/assumptions): DEDUCED 96, 98, 99, 100, 101, 103, 105, 106, 107, 108; DESIGN CHOICE 21, 92, 97, 102, 104, 141.
-/
namespace Sys2Proof.Machine

/-! ### The power-fail writes (R426) -/

/-- The event front and the writer finish what stands in lanes 37 and 3 (R413, R426 row 5). -/
def drainWriter (s : State) : State :=
  let l := s.lane 3
  let s := s.setLane 3 { l with elems := [], waiting := [] }
  (l.elems ++ l.waiting).foldl (fun s e => match e with
    | .bytes r => storeRecord s r
    | _ => s) s

/-- The requests of lane 37 are judged in their order, each record stored as it is made. -/
def drainEvents (s : State) : State :=
  let (l, s) := laneDrain s 37
  l.foldl (fun s e => match e with
    | .event e => drainWriter (judgeEvent s e)
    | _ => s) (drainWriter s)

/-- Rows 2 to 4 of R426 as far as `rows` says; row 1 finds nothing, since a commit of the model is one step. -/
def powerWrites (s : State) (rows origin : Nat) : State :=
  let s := if 2 ≤ rows then writeState s origin else s
  let s := if 3 ≤ rows then checkpointRetained s true else s
  if 4 ≤ rows then commitCounters s else s

/-- A power-fail warning (R426): its event, and the writes that are completed in the hold-up. Their duration is at most 8.2 ms. -/
def powerFail (s : State) (volts : BitVec 32) (rows : Nat) : State :=
  let s := { s with pwr := { s.pwr with warning := true, flushed := decide (5 ≤ rows) } }
  let s := raise (s.setObj 0x2060 5 volts.toNat) 0x0102 11 [leBytes 4 (volts.toNat : Int)]
  let s := powerWrites s rows 3
  if 5 ≤ rows then
    let (d, s) := (drainEvents s).draw
    s.setObj 0x2080 3 (Config.freeBits d % 83 : Nat)
  else s

/-- Main falls below 38 V; `rows` is how many of the rows of R426 the hold-up completes. -/
def execPowerFailWarning (volts : BitVec 32) (rows : Fin 6) (s : State) : Out :=
  onHost s fun s => if s.pwr.warning then s else powerFail s volts rows

/-! ### What a reset leaves (R11, R429, R430, R474) -/

/-- Objects that outlive a reset: NV and NVS ones; what HK's island read from the slot-ID pins, while it stands, and what
it answers Alley with on standby (R381, R383); the hot-swap controller's own. -/
def keptKey (k : Nat) : Bool :=
  (match objRow (k / 65536) (k % 65536) with
    | some r => decide (r.persist = .nv) || decide (r.persist = .nvs)
    | none => false)
    || k / 65536 == 0x2090 || k == objKey 0x1400 1 || k == objKey 0x1400 2 || k == objKey 0x7001 1
    || k == objKey 0x8000 1 || k == objKey 0x2050 3 || k == objKey 0x2060 1 || k == objKey 0x1000 5

/-- What MRAM keeps of a cell: the band parameters and the time of its last learning. -/
def keptCells (l : List (Nat × Cell)) : List (Nat × Cell) :=
  l.filterMap (fun p =>
    let x : Cell := { bands := p.2.bands, learnedAt := p.2.learnedAt }
    if x = {} then none else some (p.1, x))

/-- What Bollard keeps through a reset of the host domain: lines and comparators as they stand, thresholds, diagnostics. -/
def keptBollard (y : Bollard) : Bollard :=
  { partnerIn := y.partnerIn, beyond := y.beyond, thresholds := y.thresholds, before := y.thresholds, diag := y.diag
    rst := { y.rst with riseC := 0, fallC := 0, stuck := y.rst.stuck.map (fun _ => 0) } }

/-- The boot that ends counts as a failed trial boot: a watchdog or guard-core reset, or no first boundary within 5 s (R436). -/
def trialFails (s : State) (cause : Nat) : Bool :=
  decide (cause = 3) || decide (cause = 4) || (!s.pwr.booted && decide (5000000000 ≤ elapsedNs s.clk 0 s.clk.c))

/-- The supplies and what stands with them after a reset. -/
def keptPwr (s : State) (cause : Nat) : Pwr :=
  { s.pwr with
    cause := cause, prevRole := s.role, resetDue := none, started := false, booted := false, trialBad := trialFails s cause
    bootRom := false, program := none, warning := false, flushed := false, opFrom := 0 }

/-- The machine after a reset, before it starts again: Plaza zeroed, every lane empty, the counter at 0. What MRAM, NOR, the
vault, the fuses and HK's registers hold is kept; Bollard keeps its latches unless the string domain lost its supply too. -/
def afterReset (s : State) (cause : Nat) (unpowered : Bool) : State :=
  let latch : Int := if unpowered then 0 else ((s.objN 0x6801 0 % 256 : Nat) : Int)
  let t : State :=
    { objs := s.objs.filter (fun p => keptKey p.1), doms := s.doms.filter (fun p => keptKey p.1)
      cells := { cells := keptCells s.cells.cells, blocks := s.cells.blocks, caps := s.cells.caps, slices := s.cells.slices }
      safe := { bol := if unpowered then {} else keptBollard s.safe.bol, con := { rearm := decide (latch = 0) } }
      evt := { founding := s.evt.founding, circ := s.evt.circ, leftBlank := s.evt.leftBlank
               deferred := if unpowered then [] else s.evt.deferred }
      host := { psk := s.host.psk }
      log := { s.log with lockEnd := s.log.lockEnd.map (fun c => c - s.clk.c) }
      prog := { stored := s.prog.stored, copies := s.prog.copies }
      pwr := keptPwr s cause, hostUp := false, stringUp := false, sent := s.sent, free := s.free, pending := s.pending }
  let t := (t.setObj 0x2060 4 s.pwr.opCommitted).setObj 0x6801 0 latch
  if latch = 0 then t
  else (t.setObjs 0x6803 [(1, s.obj 0x6803 1), (2, s.obj 0x6803 2), (3, s.obj 0x6803 3)]).setObj 0x6840 5 (s.obj 0x6840 5)

/-- What falls while the host domain is being reset (R18, R430, R474): Bollard latches cause 6 where it held the converter, and
the string domain releases itself. -/
def resetFalls (s : State) : State :=
  let hold := s.safe.bol.hold
  let s := { s with hostUp := false }
  let s := if hold then
      let s := if s.obj 0x6801 0 = 0 then s.setObjs 0x6803 [(1, 6), (2, s.frameNo), (3, 0)] else s
      raiseGuard (s.setObjBit 0x6801 0 6 true) 0x0A01 [d8 6, d32 1, d32 s.frameNo, dF 0, d16 0]
    else s
  if s.stringUp ∧ s.frame.released = 0 then raise s 0x0114 3 [d32 1, d32 (s.obj 0x2120 0)] else s

/-! ### The vault and the counters at a start (R437 to R440) -/

/-- HK reads the vault (R438, R440). -/
def startVault (s : State) : State :=
  let v := s.pwr.vault
  let secs : Nat := v.halfSecs / 2
  let b (k : Nat) (c : Bool) : Int := if c then 2 ^ k else 0
  let s := (s.setObj 0x2070 1 (b 0 v.alive + b 1 v.removal + b 2 v.caseOpen + b 3 v.low)).setObj 0x2070 2 secs
  let s := if v.alive then s else raiseHk s 0x0108 [d32 0]
  let s := if v.low then raiseHk s 0x0109 [d16 (s.obj 0x2070 3)] else s
  let s := if v.removal then raiseHk s 0x0107 [d32 secs] else s
  if v.caseOpen then raiseHk s 0x010B [d32 secs] else s

/-- The power-cycle count (R439), which saturates; then the alive word is written and the unpowered-time counter cleared. -/
def startCount (s : State) : State :=
  let v := s.pwr.vault
  let rec_ := s.objN 0x2060 3
  let shadow := if v.alive then v.shadow else 0
  let n := (if rec_ < shadow then shadow else rec_) + 1
  let n := if n < 16777216 then n else 16777215
  let s := { (s.setObj 0x2060 3 n).bump 0x2080 1 with
    pwr := { s.pwr with vault := { v with alive := true, halfSecs := 0, shadow := n }, opCommitted := s.objN 0x2060 4 } }
  if rec_ < shadow then raiseHk s 0x010A [d32 rec_, d32 shadow] else s

/-! ### The bank to boot (R434, R436) -/

/-- Reasons why the banks are not valid. -/
def bankReasons (s : State) : Nat × Nat := (bankReason s 0 s.pwr.bank0, bankReason s 1 s.pwr.bank1)

/-- The trial at a start: a failed trial boot is counted, and the third selects the other bank; a newly selected bank that is valid
boots on trial. With the bank given up, if one is. -/
def startTrial (s : State) : State × Option Nat :=
  let k := s.objN 0x2050 4
  if s.pwr.trialNext then
    ({ (s.setObj 0x2050 6 1).setObj 0x2050 7 0 with pwr := { s.pwr with trialNext := false } }, none)
  else if s.obj 0x2050 6 = 1 ∧ s.pwr.trialBad then
    let n := s.obj 0x2050 7 + 1
    let s := s.setObj 0x2050 7 n
    if n < 3 then (s, none) else ((s.setObj 0x2050 4 (1 - (k : Int))).setObj 0x2050 6 3, some k)
  else (s, none)

/-- A trial is given up: HK has selected the other bank. -/
def trialEvents (s : State) (failed : Option Nat) : State :=
  match failed with
  | some k => raiseHk (raiseHk s 0x0F09 [d32 k]) 0x0F04 [d32 k, d32 6]
  | none => s

/-- The bank HK boots: the selected one where it is valid, else the other. -/
def bankToBoot (s : State) : Option Nat :=
  let k := s.objN 0x2050 4
  let (a, b) := bankReasons s
  let r (k : Nat) : Nat := if k = 0 then a else b
  if r k = 0 then some k else if r (1 - k) = 0 then some (1 - k) else none

/-! ### The commit marker and a pending transition (R443, R447) -/

/-- A set marker is resolved, with its owner's event. -/
def startMarker (s : State) : State :=
  match s.pwr.vault.marker with
  | none => s
  | some m =>
    let s := { s with pwr := { s.pwr with vault := { s.pwr.vault with marker := none } } }
    let s := s.setObj 0x2080 2 1
    let st : Nat := if m.valid then 1 else 0
    match m.kind with
    | 6 => raise s 0x050C 11 [d32 m.addr, d32 st]
    | 7 => raise s 0x0604 11 [d32 m.slice, d32 m.copy]
    | 8 => raise s 0x0C0F 11 [d32 m.copy]
    | k => raise s 0x0F0B 11 [d32 k, d32 m.addr, d32 st]

/-- The log is made to agree with the values in force: an entry with source 4 for each object whose committed entry never took effect
(R375). -/
def startLog (s : State) : State :=
  s.log.undone.foldl (fun s e =>
    match objRow e.index e.sub with
    | some r => logChange s e.index e.sub .module (typeSize r.ty) (encodeVal r.ty e.val) (encodeVal r.ty (s.obj e.index e.sub))
    | none => s) { s with log := { s.log with undone := [] } }

/-- One region of the mask is zeroed (R441, R446). -/
def wipeRegion (s : State) (r : Nat) : State :=
  match r with
  | 2 =>
    let l := { s.log with salt := [], derived := [], lockEnd := none, lockSecs := 0 }
    { ((s.setObj 0x1210 4 0).setObj 0x6890 4 0).setObj 0x6890 2 0 with host := { s.host with psk := [] }, log := l }
  | 3 =>
    let l := { s.log with entries := [], chain := List.replicate 32 0#8, undone := [] }
    { (s.setObj 0x6891 1 0).setDom 0x6891 2 [] with log := l }
  | 4 => { s with objs := s.objs.filter (fun p => (configRow p.1).isNone), doms := s.doms.filter (fun p => (configRow p.1).isNone) }
  | 5 => { s with cells := { s.cells with cells := [], blocks := [], caps := [] } }
  | 6 => { s with cells := { s.cells with slices := [] } }
  | 7 => s.mapProg fun p => { p with copies := [] }
  | _ => s

/-- A pending transition is completed: fuses, the regions of its mask, the program areas, the record with the mask cleared. -/
def startTransition (s : State) : State :=
  match s.pwr.transition with
  | none => s
  | some (old, new, source, mask) =>
    let s := burnFuses s new
    let s := (List.range 8).foldl (fun s r => if mask.testBit r then wipeRegion s r else s) s
    let s := if mask = 0 then s else s.mapProg fun p => { p with stored := [] }
    let s := { (s.setObj 0x2040 1 new).bump 0x2080 1 with pwr := { s.pwr with transition := none } }
    let s := { s with evt := { s.evt with leftBlank := s.evt.leftBlank || decide (1 ≤ new) } }
    let (d, s) := s.draw
    raise (raise s 0x0F01 11 [d8 old, d8 new, d32 source]) 0x0F03 11 [d32 mask, d32 (Config.freeBits d % 171 : Nat)]

/-! ### The event areas (R414) -/

/-- The number after the highest that a record passing its CRC holds. -/
def nextRecord (s : State) : Nat :=
  (s.evt.founding ++ s.evt.circ).foldl (fun n p => if recValid p.2 ∧ n ≤ recNumber p.2 then recNumber p.2 + 1 else n) 1

/-- Torn slots. -/
def tornSlots (s : State) : Nat := ((s.evt.founding ++ s.evt.circ).filter (fun p => !recValid p.2)).length

/-- HK scans both areas: the next number is known from here on. -/
def scanEvents (s : State) : State :=
  let n := nextRecord s
  let s := { s with evt := { s.evt with next := n } }
  s.setObjs 0x8000 [(1, n - 1), (2, oldestCirc s.evt.circ), (3, s.evt.founding.length),
    (4, match s.evt.founding with | p :: _ => recNumber p.2 | [] => 0), (5, tornSlots s)]

/-! ### The domains start (R24, R425) -/

/-- The profile at start (R24), and Guarded where a cause stands; `left` says that the start has completed a transition out of
SERVICE. -/
def startProfile (s : State) (left : Bool) : State :=
  let v := s.obj 0x2001 0
  let s := if v = 4 then s.setObj 0x2001 0 0 else s
  let p : Int := if v = 4 ∨ v = 5 then 0 else v
  let reason : Int := if v = 5 ∧ s.pwr.cause = 7 ∧ left then 4 else 3
  let s := changeProfile (s.setObj 0x2002 1 reason) p reason
  if latchedBollard s then setCause s 2 else s

/-- The program is loaded from the newer stored image, with its retained region (R333, R335, R347). -/
def startProgramImage (s : State) : State :=
  match (s.prog.stored.filter (fun c => imageHolds s c.2.raw)).foldl (fun (m : Option (Nat × ProgImage)) c => match m with
      | some d => if d.1 ≤ c.1 then some c else some d
      | none => some c) none with
  | none => s
  | some (_, im) =>
    let s := imageObjs (s.mapProg fun p => { p with image := some im, consts := im.consts, data := im.initData }) im
    let s := match retNewest s with
      | some c =>
        let old : Option (List Symbol) :=
          (s.prog.stored.find? (fun (x : Nat × ProgImage) => x.2.retCrc == c.layout)).map (fun (x : Nat × ProgImage) => x.2.symbols)
        restoreRetained s im 2 c.layout (old.getD []) c.region
      | none => restoreRetained s im 3 0 [] []
    setProgState s 1 5

/-- The string domain starts: its rings enumerate and the valves that home at start do (R425 step 7, R69). -/
def startString (s : State) : State :=
  let s := { s with stringUp := true }
  let s := [0, 1, 2, 3].foldl beginEnum s
  [0, 1].foldl (fun s v => if s.objB (0x5840 + v) 20 then homeStart s v else s) s

/-- Steps 5 to 8 of R425, with bank `k` booted. -/
def startDomains (s : State) (k : Nat) : State :=
  let s := (s.setObj 0x2050 3 k).setObj 0x1000 5 (bankRev (s.bank k) k)
  let s := if s.objN 0x2050 4 = k then s
    else raise s 0x0F04 11 [d32 (1 - k), d32 (if k = 0 then (bankReasons s).2 else (bankReasons s).1)]
  let left := match s.pwr.transition with
    | some (old, _) => decide (old = 3)
    | none => false
  let s := startTransition (startLog (startMarker s))
  let s := if 0 < tornSlots s then raise s 0x0132 11 [d32 (tornSlots s)] else s
  let s := if s.pwr.cause = 2 then raise s 0x0104 11 [d32 s.pwr.rail] else s
  let s := if s.pwr.cause = 3 then raise s 0x0105 11 [d32 s.pwr.engine] else s
  let t := s.obj 0x2010 0
  let s := { s.setObj 0x2011 0 t with
    pairOn := decide (s.obj 0x7000 1 = 1)
    frame := { s.frame with nextAt := t * 1000, lastNs := t * 1000 }
    host := { s.host with ip := s.objN 0x1010 1 }
    evt := { s.evt with boot := some (s.pwr.cause, s.pwr.prevRole) } }
  let s := startProfile s left
  let s := scheduleWritten (startProgramImage s)
  let s := [0, 1, 2, 3].foldl (fun s c => if s.dom (0x4020 + c) 1 = [] then s else s.setObj (0x4020 + c) 2 1) s
  let s := canStart (takeScales (restoreCapacities (restoreRecords s)))
  let s := if s.pairOn then startListen s else s
  refreshSafety (if s.pwr.j2Open then s else startString s)

/-- Neither bank is valid: HK stays in boot ROM, and both domains stay without supply (R434). -/
def stayInRom (s : State) : State :=
  let (a, b) := bankReasons s
  hkRecord { s with pwr := { s.pwr with bootRom := true } } 0x0F05 [d32 a, d32 b]

/-- A start from main power good, or from a reset with main standing (R425). -/
def startUp (s : State) : State :=
  let (s, failed) := startTrial (scanEvents s)
  let bank := bankToBoot s
  let s := { s with hostUp := bank.isSome }
  let s := (s.setObj 0x2060 1 s.pwr.cause).bump 0x2061 s.pwr.cause
  let s := trialEvents (startCount (startVault (burnFuses s 0))) failed
  match bank with
  | some k => startDomains s k
  | none => stayInRom s

/-- A reset with main standing: what it leaves, and the start that follows. -/
def hostReset (s : State) (cause : Nat) : State := startUp (afterReset (resetFalls s) cause false)

/-! ### Resets the module asks for (R373, R384, R386, R432, R447) -/

/-- The module closes a session with CLOSE and its reason (R358, R363). -/
def closeSession (s : State) (c : Channel) (why : Nat) : State :=
  if (s.session c).isOpen then endSession (originate s c 0x07 [BitVec.ofNat 8 why, 0#8, 0#8, 0#8]) c why else s

/-- A reset the module performs of itself: its sessions close with their events (R363), the lock closes, the pending set is
discarded, and the events are written before Plaza is zeroed. -/
def plannedReset (s : State) (cause : Nat) : State :=
  let why := if cause = 7 then 5 else 4
  let s := closeLock (closeSession (closeSession s .eop why) .service why)
  hostReset (drainEvents (discardPending s 3)) cause

/-- A write of 1 is refused (R432): the card is ACTIVE in a pair whose partner's heartbeat does not show STANDBY. -/
def resetRefused (s : State) : Bool :=
  s.pairOn && s.isActive && !(partnerHeard s && decide (s.duplex.beat.role = 2))

/-- An accepted reset request: rows 1 to 4 of R426 with origin 2, the pending summaries; the reset follows in 10 ms. -/
def acceptReset (s : State) : State :=
  let s := summariseAll (powerWrites s 4 2)
  { s with pwr := { s.pwr with resetDue := some 6 } }

/-- A write of 1 to 0x2060:2. -/
def execHostResetRequest (s : State) : Out :=
  onHost s fun s => hostWrite s 0x2060 2 (if resetRefused s then errState else errOk) acceptReset

/-- A write of 2 to 0x2060:2. -/
def execHostResetForced (s : State) : Out := onHost s fun s => hostWrite s 0x2060 2 errOk acceptReset

/-- The fuse is burned and the module resets, but not while a power-fail warning stands. -/
def finishTransition (s : State) : State :=
  match s.pwr.transition with
  | some (_, new, _, _) => if s.pwr.warning then s else plannedReset (burnFuses s new) 7
  | none => s

/-- The 10 ms after an accepted request have passed: the module resets, or, on standby power, HK's island does (R384). -/
def execResetDelayExpiry (s : State) : Out :=
  match s.pwr.resetDue with
  | none => .next s
  | some cause =>
    .next (if s.hostUp then (if cause = 7 then finishTransition s else plannedReset s cause)
      else if s.pwr.mainUp then hostReset s cause
      else showLock { s with alley := {}, pwr := { s.pwr with resetDue := none, cause := cause } })

/-- RESET_REQUEST (R383, R386): refused with status 4 as R432 refuses a write of 1, unless forced. -/
def execResetRequest (payload : List Byte) (crc : BitVec 8) (s : State) : Out :=
  .next (alleyCmd s 0x09 payload crc 2 true false fun s =>
    if getLe payload 0 1 ≠ 0x5A then alleyRefuse s 0x09 7
    else if s.hostUp ∧ resetRefused s ∧ (getLe payload 1 1).testBit 0 = false then alleyRefuse s 0x09 4
    else
      let s := holdResponse (alleyEvent s 0x09 0) 0 [0#8]
      { s with pwr := { s.pwr with resetDue := some 5 } })

/-! ### Life-cycle requests (R445, R447) -/

/-- The writer of the first write to 0x2040:2 that is due holds a safety session or the lock. -/
def transitionAuth (s : State) : Bool :=
  match (takeWrite 0x2040 2 s.host.due).1 with
  | some w => match w.origin with
    | .eop => s.host.eop.safety
    | .service => s.host.service.safety
    | .alley => w.locked
    | .safety => false
    | .module => false
  | none => false

/-- A write of 0x2040:2: 0x5A above the target state; source 1. -/
def execTransitionRequestWrite (v : BitVec 16) (s : State) : Out :=
  onHost s fun s =>
    let new := v.toNat % 256
    if v.toNat / 256 ≠ 0x5A ∨ 4 < new then settle s 0x2040 2 errRange
    else
      let r := transitionRefusal s new (transitionAuth s)
      if r ≠ 0 then settle (refuseTransition s new r) 0x2040 2 errState
      else finishTransition (settle (beginTransition s new 1) 0x2040 2 errOk)

/-- LIFECYCLE_REQUEST: under the lock but in BLANK; refused with result 1; source 2 (R383, R445). -/
def execLifecycleRequest (payload : List Byte) (crc : BitVec 8) (s : State) : Out :=
  .next (alleyCmd s 0x06 payload crc 2 false (decide (s.obj 0x2040 1 ≠ 0)) fun s =>
    let new := getLe payload 0 1
    if getLe payload 1 1 ≠ 0x5A ∨ 4 < new then alleyRefuse s 0x06 7
    else
      let r := transitionRefusal s new (s.alley.lock)
      if r ≠ 0 then holdResponse (alleyEvent (refuseTransition s new r) 0x06 1) 0 [1#8]
      else
        let s := beginTransition (holdResponse (alleyEvent s 0x06 0) 0 [0#8]) new 2
        { s with pwr := { s.pwr with resetDue := some 7 } })

/-! ### Records of which neither copy is valid (R443) -/

/-- The counts the counters record holds beside operating seconds, power cycles and the epoch (R441), with their widths. -/
def recordCounts : List (Nat × Nat × Nat) :=
  [(0x1201, 5, 32), (0x1201, 6, 32), (0x2020, 7, 32), (0x2020, 8, 32), (0x2080, 1, 32), (0x2080, 3, 16), (0x2080, 4, 32),
   (0x2090, 8, 32), (0x6040, 5, 32), (0x6050, 12, 32), (0x700A, 1, 32), (0x700A, 2, 8), (0x700A, 3, 16)]
  ++ [(0x7802, 14, 32), (0x7842, 14, 32), (0x7882, 14, 32), (0x2061, 1, 32), (0x2061, 2, 32), (0x2061, 3, 32), (0x2061, 4, 32),
   (0x2061, 5, 32), (0x2061, 6, 32), (0x2061, 7, 32)]

/-- Operating seconds of the newest event record that passes its CRC; 0 with none. -/
def newestOpSeconds (s : State) : Nat :=
  ((s.evt.founding ++ s.evt.circ).foldl (fun (m : Nat × Nat) (p : Nat × List Byte) =>
    if recValid p.2 ∧ m.1 ≤ recNumber p.2 then (recNumber p.2, getLe p.2 8 4) else m) (0, 0)).2

/-- Neither copy of the life-cycle and boot record: the state the fuses give, the valid bank of the higher security version. -/
def lostLifecycle (s : State) : State :=
  let p := s.pwr
  let life : Nat := if p.fuseR then 4 else if p.fuseF then 2 else if p.fuseC then 1 else 0
  let s := (s.setObj 0x2040 1 life).setObjs 0x2050 [(6, 0), (7, 0), (8, 0)]
  let (a, b) := bankReasons s
  let va := bankSec p.bank0 0
  let vb := bankSec p.bank1 1
  let k : Nat := if b = 0 ∧ (a ≠ 0 ∨ va < vb) then 1 else 0
  let s := s.setObjs 0x2050 [(4, k), (8, (if k = 0 then va else vb : Nat))]
  { s with pwr := { s.pwr with transition := none, trialNext := false } }

/-- Neither copy of the counters record: what R443 names, and counts for which the spec states no value. -/
def lostCounters (s : State) : State :=
  let op := newestOpSeconds s
  let s := (s.setObj 0x2060 4 op).setObj 0x5620 1 0
  let s := s.setObj 0x2060 3 (if s.pwr.vault.alive then s.pwr.vault.shadow else 0)
  let s := { s with pwr := { s.pwr with opCommitted := op } }
  recordCounts.foldl (fun s x =>
    let (d, s) := s.draw
    s.setObj x.1 x.2.1 (Config.freeBits d % 2 ^ x.2.2 : Nat)) s

/-- What a start makes of the records of kinds 1 to 4 that have no valid copy, by the bits of the mask (R443). -/
def lostRecords (s : State) (lost : BitVec 4) : State :=
  let s := if lost.getLsbD 0 then lostLifecycle s else s
  let s := if lost.getLsbD 1 then lostCounters s else s
  let s := if lost.getLsbD 2 then wipeRegion s 2 else s
  if lost.getLsbD 3 then wipeRegion s 4 else s

/-- Their events. -/
def lostEvents (s : State) (lost : BitVec 4) : State :=
  let s := if lost.getLsbD 2 then raiseHk s 0x0F0C [] else s
  if lost.getLsbD 3 then raiseHk s 0x0F0D [] else s

/-! ### Supplies (R424, R427, R429, R431) -/

/-- Main power good: the module starts; `lost` names the records of kinds 1 to 4 of which neither copy is valid. -/
def execMainPowerGood (volts : BitVec 32) (unpowered : BitVec 33) (capacitor : BitVec 16) (lost : BitVec 4) (s : State) : Out :=
  if s.pwr.mainUp ∨ s.pwr.mainSwitch = false then .next s else
  let p := s.pwr
  let s := { s with pwr := { p with mainUp := true, allLost := false, cause := (if p.allLost then 1 else p.cause)
                                    vault := { p.vault with halfSecs := unpowered.toNat } } }
  let s := (s.setObj 0x2060 5 volts.toNat).setObj 0x2070 3 capacitor.toNat
  .next (lostEvents (startUp (lostRecords s lost)) lost)

/-- Main has returned for 100 ms before any rail left its limits. -/
def execPowerDip (ms : BitVec 32) (s : State) : Out :=
  onHost s fun s =>
    if s.pwr.warning = false ∨ s.pwr.present = false then s else
    let s := { s with pwr := { s.pwr with warning := false, flushed := false } }
    finishTransition (raise s 0x0103 11 [d32 ms.toNat])

/-- The configuration record of an accepted commit, cut short once the change-log entries have been committed (R375): where the record
completed its values stand from the next start, else the previous record stands, and the log is put right at the next start. -/
def cutConfig (s : State) (done : Bool) : State :=
  match s.host.commit with
  | none => s
  | some c =>
    let l := sortEntries c.entries
    let s := logEntries s c.origin l
    if done then overlaid s l else { s with log := { s.log with undone := l.filter (·.rws) } }

/-- A commit that the failing rail cuts short after its first step: it has completed where its CRC was written, else its target
copy is lost and the newer one stands (R163, R176, R346, R443). -/
def cutCommit (s : State) (kind addr : Nat) (valid : Bool) : State :=
  let front := (s.lane 43).elems.findSome? (fun e => match e with
    | .nums [k, n] => if k = (kind : Int) then some n.toNat else none
    | _ => none)
  let at_ := front.getD 0
  let copy : Nat := match kind with
    | 7 => (match sliceCopies s at_ with | a :: _ => 1 - a.copy | [] => 0)
    | 8 => (match retNewest s with | some c => (c.seq + 1) % 2 | none => 1)
    | _ => 0
  let s := { s with pwr := { s.pwr with vault := { s.pwr.vault with marker := some ⟨kind, addr, at_, copy, valid⟩ } } }
  match kind, valid with
  | 2, true => commitCounters s
  | 4, done => cutConfig s done
  | 5, true => writeState s 1
  | 5, false => { s with cells := { s.cells with blocks := (newestBlock s).toList } }
  | 6, true => if front.isSome then writeCapacity s at_ else s
  | 6, false =>
    let slot : Nat := match capNewest s at_ with | some c => 1 - c.slot | none => 0
    let keep := s.cells.caps.filter (fun c => !(c.pos == at_ && c.slot == slot))
    { s with cells := { s.cells with caps := keep ++ [(⟨at_, slot, 0, []⟩ : CapSlot)] } }
  | 7, true => if front.isSome then writeSlice s at_ else s
  | 7, false => { s with cells := { s.cells with slices := s.cells.slices.filter (fun c => c.slice != at_ || c.copy != copy) } }
  | 8, true => checkpointRetained s true
  | 8, false => checkpointRetained s false
  | _, _ => s

/-- A host-domain rail leaves its limits: with main fallen both domains lose their supply; with main standing the host domain
resets. `kind` is the record whose commit was cut short, 0 for none. -/
def execRailOutOfLimits (rail : BitVec 8) (mainFell : Bool) (kind : BitVec 4) (target : BitVec 23) (valid : Bool) (s : State) : Out :=
  if s.pwr.mainUp = false then .next s else
  let s := if kind = 0 then s else cutCommit s kind.toNat target.toNat valid
  let cause := if s.pwr.flushed ∧ mainFell then 1 else 2
  let s := { s with pwr := { s.pwr with rail := rail.toNat } }
  if mainFell then
    let s := afterReset s cause true
    .next { s with pwr := { s.pwr with mainUp := false, allLost := s.pwr.allLost || !s.pwr.standbyUp } }
  else .next (hostReset s cause)

/-- The window watchdog expires: 0 HK, 1 AC2, 2 AC3 missed its key. -/
def execWatchdogExpiry (engine : Fin 3) (s : State) : Out :=
  onHost s fun s => hostReset { s with pwr := { s.pwr with engine := engine.val } } 3

/-- The guard core's lockstep pair disagrees, or a self-check fails. -/
def execGuardLockstepMismatch (s : State) : Out := onHost s fun s => hostReset s 4

/-! ### Live removal and the J2 loop (R454, R470) -/

/-- PRESENT opens: both switches open, the removal latch is set, and a card that runs makes the power-fail writes and releases its
string domain; ACTIVE in a pair, it yields. -/
def execPresentOpen (volts : BitVec 32) (s : State) : Out :=
  if s.pwr.present = false then .next s else
  let p := s.pwr
  let s := { s with pwr := { p with present := false, mainSwitch := false, standbySwitch := false, inrushFail := false
                                    vault := { p.vault with removal := true } } }
  let s := showVault (showSwap (s.setObj 0x2090 7 0)) 1 true
  if s.hostUp = false then .next s else
  let s := if s.stringUp then releaseDomain s 1 else s
  let s := if s.pairOn ∧ s.isActive then setYield s else s
  .next (powerFail s volts 5)

/-- The J2 loop has been closed for 100 ms: a string domain that waited for it starts. -/
def execJ2LoopClosedDelay (s : State) : Out :=
  if s.pwr.j2Open = false then .next s else
  let s := showSwap { s with pwr := { s.pwr with j2Open := false } }
  .next (if s.hostUp ∧ s.stringUp = false then refreshSafety (startString s) else s)

end Sys2Proof.Machine
end

