-- ==== Sys2Proof/Machine/Dispatch.lean ====
section
/-!
DEFINITION. One arm per command: the command's meaning, which stands in the family's file.
-/
namespace Sys2Proof.Machine

def exec (i : Instr) (s : State) : Host.Outcome State Fault Refusal :=
  match i with
  | .frameBoundary => Sys2Proof.Machine.execFrameBoundary s
  | .syncLaunch ring => Sys2Proof.Machine.execSyncLaunch ring s
  | .ringSweep ring => Sys2Proof.Machine.execRingSweep ring s
  | .ringFrameReceived ring port bytes violations => Sys2Proof.Machine.execRingFrameReceived ring port bytes violations s
  | .ringAbortReceived ring port => Sys2Proof.Machine.execRingAbortReceived ring port s
  | .ringTimeout ring port => Sys2Proof.Machine.execRingTimeout ring port s
  | .sweepClose ring => Sys2Proof.Machine.execSweepClose ring s
  | .ringEnumerate ring intact east west portTime => Sys2Proof.Machine.execRingEnumerate ring intact east west portTime s
  | .ringReenumerateWrite ring => Sys2Proof.Machine.execRingReenumerateWrite ring s
  | .ringPortRateChange ring port => Sys2Proof.Machine.execRingPortRateChange ring port s
  | .ringRateAcknowledge ring => Sys2Proof.Machine.execRingRateAcknowledge ring s
  | .ringRateModeWrite ring v => Sys2Proof.Machine.execRingRateModeWrite ring v s
  | .faultSymbolDecoded ring port block => Sys2Proof.Machine.execFaultSymbolDecoded ring port block s
  | .wakeToneDetected ring port cause => Sys2Proof.Machine.execWakeToneDetected ring port cause s
  | .parkActiveFrame => Sys2Proof.Machine.execParkActiveFrame s
  | .internalLinkPacket packet => Sys2Proof.Machine.execInternalLinkPacket packet s
  | .internalLinkLost => Sys2Proof.Machine.execInternalLinkLost s
  | .inputImageAssembly readings die di mf => Sys2Proof.Machine.execInputImageAssembly readings die di mf s
  | .fastTaskRelease => Sys2Proof.Machine.execFastTaskRelease s
  | .slowTaskRelease task => Sys2Proof.Machine.execSlowTaskRelease task s
  | .backgroundPassStart => Sys2Proof.Machine.execBackgroundPassStart s
  | .taskRunEnd task writes => Sys2Proof.Machine.execTaskRunEnd task writes s
  | .backgroundLong => Sys2Proof.Machine.execBackgroundLong s
  | .estimatorFrameWork engine => Sys2Proof.Machine.execEstimatorFrameWork engine s
  | .outputSeal => Sys2Proof.Machine.execOutputSeal s
  | .mirrorSend => Sys2Proof.Machine.execMirrorSend s
  | .writeBatchClose => Sys2Proof.Machine.execWriteBatchClose s
  | .outputRelease => Sys2Proof.Machine.execOutputRelease s
  | .guardVerdict coils shorts holdOk readbackOk oscOk => Sys2Proof.Machine.execGuardVerdict coils shorts holdOk readbackOk oscOk s
  | .frameOverrun window engine use => Sys2Proof.Machine.execFrameOverrun window engine use s
  | .overrunConditionClear => Sys2Proof.Machine.execOverrunConditionClear s
  | .clearBudgetCounters => Sys2Proof.Machine.execClearBudgetCounters s
  | .laneWaitResume lane => Sys2Proof.Machine.execLaneWaitResume lane s
  | .alleyMailboxPoll => Sys2Proof.Machine.execAlleyMailboxPoll s
  | .requestedProfileWrite v => Sys2Proof.Machine.execRequestedProfileWrite v s
  | .guardedRelease => Sys2Proof.Machine.execGuardedRelease s
  | .ptpSyncReceived port master domain seq ingress origin => Sys2Proof.Machine.execPtpSyncReceived port master domain seq ingress origin s
  | .ptpAnnounceReceived port ann => Sys2Proof.Machine.execPtpAnnounceReceived port ann s
  | .pdelayReqReceived port seq ingress egress => Sys2Proof.Machine.execPdelayReqReceived port seq ingress egress s
  | .pdelayRespReceived port seq ingress turnaround => Sys2Proof.Machine.execPdelayRespReceived port seq ingress turnaround s
  | .pdelayReqSend port egress => Sys2Proof.Machine.execPdelayReqSend port egress s
  | .servoTheta => Sys2Proof.Machine.execServoTheta s
  | .syncIntervalTimeout port => Sys2Proof.Machine.execSyncIntervalTimeout port s
  | .holdoverLimitExpiry => Sys2Proof.Machine.execHoldoverLimitExpiry s
  | .stepRequestWrite v => Sys2Proof.Machine.execStepRequestWrite v s
  | .servoModeWrite v => Sys2Proof.Machine.execServoModeWrite v s
  | .ppsInputEdge edge => Sys2Proof.Machine.execPpsInputEdge edge s
  | .ppsLossTimeout => Sys2Proof.Machine.execPpsLossTimeout s
  | .ppsOutputEdge => Sys2Proof.Machine.execPpsOutputEdge s
  | .comparatorEdge k => Sys2Proof.Machine.execComparatorEdge k s
  | .comparatorPulseEnd k => Sys2Proof.Machine.execComparatorPulseEnd k s
  | .comparatorArm k => Sys2Proof.Machine.execComparatorArm k s
  | .comparatorDisarm k => Sys2Proof.Machine.execComparatorDisarm k s
  | .loopSamplePush slot iS iH vS vL => Sys2Proof.Machine.execLoopSamplePush slot iS iH vS vL s
  | .frontEndFrameValues iS iH vS vL => Sys2Proof.Machine.execFrontEndFrameValues iS iH vS vL s
  | .dividerCalStart chan => Sys2Proof.Machine.execDividerCalStart chan s
  | .dividerCalComplete chan => Sys2Proof.Machine.execDividerCalComplete chan s
  | .acceptProposedTrim chan => Sys2Proof.Machine.execAcceptProposedTrim chan s
  | .xcheckWindowClose k => Sys2Proof.Machine.execXcheckWindowClose k s
  | .takeInjectionBaseline => Sys2Proof.Machine.execTakeInjectionBaseline s
  | .checkEnableWrite k => Sys2Proof.Machine.execCheckEnableWrite k s
  | .openWireCycle => Sys2Proof.Machine.execOpenWireCycle s
  | .openWireTestNow => Sys2Proof.Machine.execOpenWireTestNow s
  | .openWireResult slot => Sys2Proof.Machine.execOpenWireResult slot s
  | .restWindowSchedule => Sys2Proof.Machine.execRestWindowSchedule s
  | .restWindowDecline => Sys2Proof.Machine.execRestWindowDecline s
  | .restWindowDeclineExpiry => Sys2Proof.Machine.execRestWindowDeclineExpiry s
  | .restWindowEnd => Sys2Proof.Machine.execRestWindowEnd s
  | .ocvTableLoad set table => Sys2Proof.Machine.execOcvTableLoad set table s
  | .stateBlockWrite => Sys2Proof.Machine.execStateBlockWrite s
  | .authResponse ring block => Sys2Proof.Machine.execAuthResponse ring block s
  | .authTimeout slot => Sys2Proof.Machine.execAuthTimeout slot s
  | .recordStoreTimer => Sys2Proof.Machine.execRecordStoreTimer s
  | .alignDispatch => Sys2Proof.Machine.execAlignDispatch s
  | .rcFit => Sys2Proof.Machine.execRcFit s
  | .nvCommit readback => Sys2Proof.Machine.execNvCommit readback s
  | .recordCheckpoint => Sys2Proof.Machine.execRecordCheckpoint s
  | .recordResetWrite v => Sys2Proof.Machine.execRecordResetWrite v s
  | .balanceTargets => Sys2Proof.Machine.execBalanceTargets s
  | .loopSample slot => Sys2Proof.Machine.execLoopSample slot s
  | .avenueSlotLate slot => Sys2Proof.Machine.execAvenueSlotLate slot s
  | .coeffCommitKeep loop => Sys2Proof.Machine.execCoeffCommitKeep loop s
  | .coeffCommitTrack loop => Sys2Proof.Machine.execCoeffCommitTrack loop s
  | .loopFlagsWrite loop v => Sys2Proof.Machine.execLoopFlagsWrite loop v s
  | .sectionFlagsWrite section_ v => Sys2Proof.Machine.execSectionFlagsWrite section_ v s
  | .fallbackHoldExpiry loop => Sys2Proof.Machine.execFallbackHoldExpiry loop s
  | .setpointInputSample input slot raw => Sys2Proof.Machine.execSetpointInputSample input slot raw s
  | .setpointPulseEdge input rising at_ => Sys2Proof.Machine.execSetpointPulseEdge input rising at_ s
  | .setpointPulseTimeout input => Sys2Proof.Machine.execSetpointPulseTimeout input s
  | .detectorAcknowledge loop => Sys2Proof.Machine.execDetectorAcknowledge loop s
  | .injectionStartNow => Sys2Proof.Machine.execInjectionStartNow s
  | .injectionStop => Sys2Proof.Machine.execInjectionStop s
  | .injectionScheduleStart => Sys2Proof.Machine.execInjectionScheduleStart s
  | .injectionDurationEnd => Sys2Proof.Machine.execInjectionDurationEnd s
  | .captureArm => Sys2Proof.Machine.execCaptureArm s
  | .captureDisarm => Sys2Proof.Machine.execCaptureDisarm s
  | .captureTrigger => Sys2Proof.Machine.execCaptureTrigger s
  | .captureComplete => Sys2Proof.Machine.execCaptureComplete s
  | .snapshotRelease => Sys2Proof.Machine.execSnapshotRelease s
  | .converterCommandSend slot => Sys2Proof.Machine.execConverterCommandSend slot s
  | .converterResponse bytes => Sys2Proof.Machine.execConverterResponse bytes s
  | .converterResponseMissing slot => Sys2Proof.Machine.execConverterResponseMissing slot s
  | .sliproadUpdate slot => Sys2Proof.Machine.execSliproadUpdate slot s
  | .sliproadStop chan => Sys2Proof.Machine.execSliproadStop chan s
  | .sliproadStopRelease chan => Sys2Proof.Machine.execSliproadStopRelease chan s
  | .gearEngage chan => Sys2Proof.Machine.execGearEngage chan s
  | .gearDisengage chan => Sys2Proof.Machine.execGearDisengage chan s
  | .homeStart valve => Sys2Proof.Machine.execHomeStart valve s
  | .endSwitchEdge input level => Sys2Proof.Machine.execEndSwitchEdge input level s
  | .homeQualified valve => Sys2Proof.Machine.execHomeQualified valve s
  | .homeQualifyTimeout valve => Sys2Proof.Machine.execHomeQualifyTimeout valve s
  | .standstillDelayExpiry valve => Sys2Proof.Machine.execStandstillDelayExpiry valve s
  | .stepperFault valve status => Sys2Proof.Machine.execStepperFault valve status s
  | .throttleMessagePeriod => Sys2Proof.Machine.execThrottleMessagePeriod s
  | .throttleGraceExpiry => Sys2Proof.Machine.execThrottleGraceExpiry s
  | .throttleOvercurrentTimeout => Sys2Proof.Machine.execThrottleOvercurrentTimeout s
  | .throttleClearTime => Sys2Proof.Machine.execThrottleClearTime s
  | .throttleAcknowledge => Sys2Proof.Machine.execThrottleAcknowledge s
  | .shutdownRequest => Sys2Proof.Machine.execShutdownRequest s
  | .shutdownZeroReached => Sys2Proof.Machine.execShutdownZeroReached s
  | .shutdownZeroConfirmed => Sys2Proof.Machine.execShutdownZeroConfirmed s
  | .shutdownFlush => Sys2Proof.Machine.execShutdownFlush s
  | .shutdownIsolate => Sys2Proof.Machine.execShutdownIsolate s
  | .shutdownStepDeadline => Sys2Proof.Machine.execShutdownStepDeadline s
  | .bollardComparatorTrip k value => Sys2Proof.Machine.execBollardComparatorTrip k value s
  | .partnerTripReceived => Sys2Proof.Machine.execPartnerTripReceived s
  | .guardPermitLoss => Sys2Proof.Machine.execGuardPermitLoss s
  | .stringSupplyLow => Sys2Proof.Machine.execStringSupplyLow s
  | .slcDiscrepancyTimeout => Sys2Proof.Machine.execSlcDiscrepancyTimeout s
  | .slcDegradedTimeout => Sys2Proof.Machine.execSlcDegradedTimeout s
  | .slvMissingHoldExpiry => Sys2Proof.Machine.execSlvMissingHoldExpiry s
  | .sltMissingHoldExpiry => Sys2Proof.Machine.execSltMissingHoldExpiry s
  | .sdcRequestWrite v => Sys2Proof.Machine.execSdcRequestWrite v s
  | .ssiRequest => Sys2Proof.Machine.execSsiRequest s
  | .bollardCrcCheck good => Sys2Proof.Machine.execBollardCrcCheck good s
  | .bollardSelfTest comp pass => Sys2Proof.Machine.execBollardSelfTest comp pass s
  | .contactorClose => Sys2Proof.Machine.execContactorClose s
  | .contactorOpen => Sys2Proof.Machine.execContactorOpen s
  | .contactorStepTimer => Sys2Proof.Machine.execContactorStepTimer s
  | .prechargeReached => Sys2Proof.Machine.execPrechargeReached s
  | .prechargeTimeout => Sys2Proof.Machine.execPrechargeTimeout s
  | .economiserHold driver => Sys2Proof.Machine.execEconomiserHold driver s
  | .weldCheckTimeout => Sys2Proof.Machine.execWeldCheckTimeout s
  | .weldAcknowledge => Sys2Proof.Machine.execWeldAcknowledge s
  | .safeRstRise => Sys2Proof.Machine.execSafeRstRise s
  | .safeRstReleaseEdge => Sys2Proof.Machine.execSafeRstReleaseEdge s
  | .safeRstStuck => Sys2Proof.Machine.execSafeRstStuck s
  | .safeRstUnstuck => Sys2Proof.Machine.execSafeRstUnstuck s
  | .resetTestComplete failed => Sys2Proof.Machine.execResetTestComplete failed s
  | .remoteReset => Sys2Proof.Machine.execRemoteReset s
  | .doorOpen => Sys2Proof.Machine.execDoorOpen s
  | .safetyPasswordWrite password => Sys2Proof.Machine.execSafetyPasswordWrite password s
  | .heartbeatSend => Sys2Proof.Machine.execHeartbeatSend s
  | .heartbeatReceived lane bytes => Sys2Proof.Machine.execHeartbeatReceived lane bytes s
  | .heartbeatMissing => Sys2Proof.Machine.execHeartbeatMissing s
  | .footbridgeLaneUp lane => Sys2Proof.Machine.execFootbridgeLaneUp lane s
  | .footbridgeLaneDown lane => Sys2Proof.Machine.execFootbridgeLaneDown lane s
  | .mirrorReceived lane0 lane1 => Sys2Proof.Machine.execMirrorReceived lane0 lane1 s
  | .mirrorMissing => Sys2Proof.Machine.execMirrorMissing s
  | .clearSuspect => Sys2Proof.Machine.execClearSuspect s
  | .switchoverRequest => Sys2Proof.Machine.execSwitchoverRequest s
  | .startListenEnd => Sys2Proof.Machine.execStartListenEnd s
  | .pullBlockSend => Sys2Proof.Machine.execPullBlockSend s
  | .pullBlockReceived lane block => Sys2Proof.Machine.execPullBlockReceived lane block s
  | .shadowRunComplete => Sys2Proof.Machine.execShadowRunComplete s
  | .imageCheck image => Sys2Proof.Machine.execImageCheck image s
  | .imageForwardComplete => Sys2Proof.Machine.execImageForwardComplete s
  | .imageActivate => Sys2Proof.Machine.execImageActivate s
  | .warmStart => Sys2Proof.Machine.execWarmStart s
  | .coldStart => Sys2Proof.Machine.execColdStart s
  | .programStop => Sys2Proof.Machine.execProgramStop s
  | .programTrap task cause pc => Sys2Proof.Machine.execProgramTrap task cause pc s
  | .envCallModuleTime task => Sys2Proof.Machine.execEnvCallModuleTime task s
  | .envCallReleaseTime task => Sys2Proof.Machine.execEnvCallReleaseTime task s
  | .envCallFrameNumber task => Sys2Proof.Machine.execEnvCallFrameNumber task s
  | .envCallUserEvent task code severity data => Sys2Proof.Machine.execEnvCallUserEvent task code severity data s
  | .stationReceiveTimeout station => Sys2Proof.Machine.execStationReceiveTimeout station s
  | .retainedCheckpoint complete => Sys2Proof.Machine.execRetainedCheckpoint complete s
  | .onlineChangeWrite ref value => Sys2Proof.Machine.execOnlineChangeWrite ref value s
  | .forceSetRequest ref value => Sys2Proof.Machine.execForceSetRequest ref value s
  | .forceClearRequest ref => Sys2Proof.Machine.execForceClearRequest ref s
  | .forceClearAllRequest => Sys2Proof.Machine.execForceClearAllRequest s
  | .eopHello chan addr udp seq takeover nonce client => Sys2Proof.Machine.execEopHello chan addr udp seq takeover nonce client s
  | .eopProof chan addr seq proof => Sys2Proof.Machine.execEopProof chan addr seq proof s
  | .handshakeTimeout chan => Sys2Proof.Machine.execHandshakeTimeout chan s
  | .eopKeepalive h => Sys2Proof.Machine.execEopKeepalive h s
  | .eopClose h reason => Sys2Proof.Machine.execEopClose h reason s
  | .keepaliveTimeout chan => Sys2Proof.Machine.execKeepaliveTimeout chan s
  | .eopRead h pendingView items => Sys2Proof.Machine.execEopRead h pendingView items s
  | .eopWrite h items => Sys2Proof.Machine.execEopWrite h items s
  | .eopDescribe h items => Sys2Proof.Machine.execEopDescribe h items s
  | .objectWriteApply ref => Sys2Proof.Machine.execObjectWriteApply ref s
  | .segInit h tid write ref len crc => Sys2Proof.Machine.execSegInit h tid write ref len crc s
  | .segData h tid offset bytes => Sys2Proof.Machine.execSegData h tid offset bytes s
  | .segAck h tid status window received => Sys2Proof.Machine.execSegAck h tid status window received s
  | .segAbort h tid reason => Sys2Proof.Machine.execSegAbort h tid reason s
  | .segAckTimer chan tid => Sys2Proof.Machine.execSegAckTimer chan tid s
  | .segResendTimer chan tid => Sys2Proof.Machine.execSegResendTimer chan tid s
  | .segTransferTimeout chan tid => Sys2Proof.Machine.execSegTransferTimeout chan tid s
  | .safetyOpen h => Sys2Proof.Machine.execSafetyOpen h s
  | .safetyProof h proof => Sys2Proof.Machine.execSafetyProof h proof s
  | .safetyClose h => Sys2Proof.Machine.execSafetyClose h s
  | .safetySessionTimeout chan => Sys2Proof.Machine.execSafetySessionTimeout chan s
  | .preSharedKeyWrite key => Sys2Proof.Machine.execPreSharedKeyWrite key s
  | .configCommit => Sys2Proof.Machine.execConfigCommit s
  | .configDiscard => Sys2Proof.Machine.execConfigDiscard s
  | .configCommitEffect stored => Sys2Proof.Machine.execConfigCommitEffect stored s
  | .servicePortAttach => Sys2Proof.Machine.execServicePortAttach s
  | .servicePortDetach => Sys2Proof.Machine.execServicePortDetach s
  | .prpFrameReceived lan src trailer lanId seq => Sys2Proof.Machine.execPrpFrameReceived lan src trailer lanId seq s
  | .prpSupervisionSend => Sys2Proof.Machine.execPrpSupervisionSend s
  | .prpLanTimeout lan noLink => Sys2Proof.Machine.execPrpLanTimeout lan noLink s
  | .prpNodeForget src => Sys2Proof.Machine.execPrpNodeForget src s
  | .arpRequest lan target sender senderMac => Sys2Proof.Machine.execArpRequest lan target sender senderMac s
  | .icmpEcho dst src fragment body => Sys2Proof.Machine.execIcmpEcho dst src fragment body s
  | .identity payload crc => Sys2Proof.Machine.execIdentity payload crc s
  | .health payload crc => Sys2Proof.Machine.execHealth payload crc s
  | .eventNewest payload crc => Sys2Proof.Machine.execEventNewest payload crc s
  | .eventRead payload crc => Sys2Proof.Machine.execEventRead payload crc s
  | .lifecycleGet payload crc => Sys2Proof.Machine.execLifecycleGet payload crc s
  | .lifecycleRequest payload crc => Sys2Proof.Machine.execLifecycleRequest payload crc s
  | .bankGet payload crc => Sys2Proof.Machine.execBankGet payload crc s
  | .bankSelect payload crc => Sys2Proof.Machine.execBankSelect payload crc s
  | .resetRequest payload crc => Sys2Proof.Machine.execResetRequest payload crc s
  | .lockChallenge payload crc => Sys2Proof.Machine.execLockChallenge payload crc s
  | .lockProof payload crc => Sys2Proof.Machine.execLockProof payload crc s
  | .lockClose payload crc => Sys2Proof.Machine.execLockClose payload crc s
  | .objectRead payload crc => Sys2Proof.Machine.execObjectRead payload crc s
  | .objectWrite payload crc => Sys2Proof.Machine.execObjectWrite payload crc s
  | .alleyResponseRead => Sys2Proof.Machine.execAlleyResponseRead s
  | .alleyLockTimeout => Sys2Proof.Machine.execAlleyLockTimeout s
  | .canFrameReceived bus word fmt data => Sys2Proof.Machine.execCanFrameReceived bus word fmt data s
  | .canBufferLoad bus => Sys2Proof.Machine.execCanBufferLoad bus s
  | .canAttemptEnd bus result delay => Sys2Proof.Machine.execCanAttemptEnd bus result delay s
  | .canRecoveryHoldoff bus => Sys2Proof.Machine.execCanRecoveryHoldoff bus s
  | .canRecoverNow bus => Sys2Proof.Machine.execCanRecoverNow bus s
  | .canRecoveryComplete bus => Sys2Proof.Machine.execCanRecoveryComplete bus s
  | .canHostTransmit bus element => Sys2Proof.Machine.execCanHostTransmit bus element s
  | .canFilterListWrite bus list => Sys2Proof.Machine.execCanFilterListWrite bus list s
  | .canClearCounters bus => Sys2Proof.Machine.execCanClearCounters bus s
  | .eventFrontRequest => Sys2Proof.Machine.execEventFrontRequest s
  | .eventWrite => Sys2Proof.Machine.execEventWrite s
  | .suppressionExamination => Sys2Proof.Machine.execSuppressionExamination s
  | .mainPowerGood volts unpowered capacitor lost => Sys2Proof.Machine.execMainPowerGood volts unpowered capacitor lost s
  | .powerFailWarning volts rows => Sys2Proof.Machine.execPowerFailWarning volts rows s
  | .powerDip ms => Sys2Proof.Machine.execPowerDip ms s
  | .railOutOfLimits rail mainFell kind target valid => Sys2Proof.Machine.execRailOutOfLimits rail mainFell kind target valid s
  | .watchdogExpiry engine => Sys2Proof.Machine.execWatchdogExpiry engine s
  | .guardLockstepMismatch => Sys2Proof.Machine.execGuardLockstepMismatch s
  | .hostResetRequest => Sys2Proof.Machine.execHostResetRequest s
  | .hostResetForced => Sys2Proof.Machine.execHostResetForced s
  | .resetDelayExpiry => Sys2Proof.Machine.execResetDelayExpiry s
  | .firmwareImageWrite image => Sys2Proof.Machine.execFirmwareImageWrite image s
  | .bankProgramComplete => Sys2Proof.Machine.execBankProgramComplete s
  | .bankSelectWrite v => Sys2Proof.Machine.execBankSelectWrite v s
  | .trialConfirm => Sys2Proof.Machine.execTrialConfirm s
  | .countersCommit => Sys2Proof.Machine.execCountersCommit s
  | .caseSwitchOpen => Sys2Proof.Machine.execCaseSwitchOpen s
  | .vaultCapacitorLow capacitor => Sys2Proof.Machine.execVaultCapacitorLow capacitor s
  | .vaultPowerOn => Sys2Proof.Machine.execVaultPowerOn s
  | .clearVaultLatches => Sys2Proof.Machine.execClearVaultLatches s
  | .transitionRequestWrite v => Sys2Proof.Machine.execTransitionRequestWrite v s
  | .presentClosed => Sys2Proof.Machine.execPresentClosed s
  | .mainRampTimeout => Sys2Proof.Machine.execMainRampTimeout s
  | .mainRampRetry => Sys2Proof.Machine.execMainRampRetry s
  | .presentOpen volts => Sys2Proof.Machine.execPresentOpen volts s
  | .j2LoopOpen => Sys2Proof.Machine.execJ2LoopOpen s
  | .j2LoopClosedDelay => Sys2Proof.Machine.execJ2LoopClosedDelay s
  | .announceReceiptTimeout port master => Sys2Proof.Machine.execAnnounceReceiptTimeout port master s
  | .partnerTripDeasserted => Sys2Proof.Machine.execPartnerTripDeasserted s
  | .slcLimitsReturn => Sys2Proof.Machine.execSlcLimitsReturn s
  | .canReceiveError bus kind by8 => Sys2Proof.Machine.execCanReceiveError bus kind by8 s
  | .standbyPowerUp pins => Sys2Proof.Machine.execStandbyPowerUp pins s
  | .standbyPowerLoss => Sys2Proof.Machine.execStandbyPowerLoss s
  | .plazaEccError corrected => Sys2Proof.Machine.execPlazaEccError corrected s

end Sys2Proof.Machine
end

