-- ==== Sys2Proof/Machine/Step.lean ====
section
/-!
DEFINITION. One step: the command at the front of the queue is carried out with the queue's rest. On an empty queue a tick of the counter
C passes (R41, 4 ns) and nothing else happens.
Marks (notes/assumptions): DESIGN CHOICE 1, 2.
-/
namespace Sys2Proof.Machine

/-- The block idles for one tick: the counter counts, while the host domain that holds it runs (R41). -/
def idle (s : State) : State := if s.hostUp then { s with clk := { s.clk with c := s.clk.c + 1 } } else s

/-- One step. -/
def step (s : State) : Host.Outcome State Fault Refusal :=
  match s.pending with
  | [] => .next (idle s)
  | c :: r => exec c { s with pending := r }

/-- The state with the command of a table word at the front of its queue; unchanged where the word spells none. -/
def State.withFetchWord (s : State) (nbits w : Nat) : State :=
  match Sys2Proof.decodeTableWord nbits w with
  | some c => { s with pending := c :: s.pending }
  | none => s

end Sys2Proof.Machine
end

