-- ==== Sys2Proof/Safety.lean ====
section
/-!
DEFINITION. What counts as a safe run, in the terms the statements use: a command that is answered with a next state, the parts of the
state a command leaves alone, and the invariants every step keeps.
-/
namespace Sys2Proof.Machine

/-- The command is answered with a next state of which `P` holds. -/
def Answers (c : Instr) (s : State) (P : State → Prop) : Prop := ∃ t, exec c s = .next t ∧ P t

/-- A step ends neither in a fault nor in a refusal. -/
def Runs (s : State) : Prop := ∃ t, step s = .next t

/-- The parts of the state beside the objects and the queue. -/
inductive Part where
  | doms | clk | frame | lanes | rings | cells | av | slips | valves | therm | safe | duplex | evt | host | log | prog | cans
  | alley | pwr | pairOn | hostUp | stringUp | sent | free
  deriving DecidableEq, Repr

/-- One part is the same in both states. -/
def Part.same (s t : State) : Part → Prop
  | .doms => t.doms = s.doms
  | .clk => t.clk = s.clk
  | .frame => t.frame = s.frame
  | .lanes => t.lanes = s.lanes
  | .rings => t.rings = s.rings
  | .cells => t.cells = s.cells
  | .av => t.av = s.av
  | .slips => t.slips = s.slips
  | .valves => t.valves = s.valves
  | .therm => t.therm = s.therm
  | .safe => t.safe = s.safe
  | .duplex => t.duplex = s.duplex
  | .evt => t.evt = s.evt
  | .host => t.host = s.host
  | .log => t.log = s.log
  | .prog => t.prog = s.prog
  | .cans => t.cans = s.cans
  | .alley => t.alley = s.alley
  | .pwr => t.pwr = s.pwr
  | .pairOn => t.pairOn = s.pairOn
  | .hostUp => t.hostUp = s.hostUp
  | .stringUp => t.stringUp = s.stringUp
  | .sent => t.sent = s.sent
  | .free => t.free = s.free

/-- Nothing but the parts listed and the objects of the indices for which `touched` answers true differs; the queue never
does. -/
def Unchanged (parts : List Part) (touched : Nat → Bool) (s t : State) : Prop :=
  (∀ p, p ∉ parts → Part.same s t p) ∧ t.pending = s.pending ∧ ∀ i sub, touched i = false → sub < 65536 → t.obj i sub = s.obj i sub

/-- Whenever the command is answered with a next state, nothing but these parts and these objects differs. -/
def Leaves (c : Instr) (parts : List Part) (touched : Nat → Bool) : Prop :=
  ∀ s t, exec c s = .next t → Unchanged parts touched s t

/-- Lane 37 has a slot for an event of this code (R63, R65). -/
def roomFor (s : State) (code : Nat) : Prop :=
  let l := (s.lane 37).elems
  let c0 := (l.filter isClass0).length
  if rateClass code = 0 then c0 < 32 else l.length - c0 < 224

/-- An event of this code with these data is the last request of lane 37, where that had a slot for it (R411). -/
def Writes (code : Nat) (flds : List Fld) (s t : State) : Prop :=
  roomFor s code → ∃ e, (t.lane 37).elems.getLast? = some (.event e) ∧ e.code = code ∧ e.data = (packFlds [] flds).1

/-- A client's message passes the gate of R357 and R359: its session is open, its tag verifies, it has not been answered before and its
number is fresh. -/
def Accepts (s : State) (h : MsgHead) (typ : Nat) (payload : List Byte) : Prop :=
  s.hostUp = true ∧ (s.session h.chan).isOpen = true ∧ tagOk s h typ 0 payload = true
    ∧ (s.session h.chan).answered.find? (fun p => p.1 == h.seq.toNat) = none ∧ seqFresh (s.session h.chan) h.seq.toNat = true

/-- The response to the message has been stored under its number and sent (R359). -/
def Answered (h : MsgHead) (s t : State) : Prop :=
  (∃ m, (t.session h.chan).answered.head? = some (h.seq.toNat, m)) ∧ s.sent.length < t.sent.length

/-- An RWS write that its owner accepts, carried out by a command of its own, whose change-log entry could not be committed; with the
object it writes (R293). -/
def Unstored (s : State) (c : Instr) (i k : Nat) : Prop :=
  entryFails s = true ∧
  ((∃ n : Fin 2, c = .dividerCalStart n ∧ i = chanIx (n + 2) ∧ k = 15)
  ∨ (∃ n : Fin 2, c = .acceptProposedTrim n ∧ i = chanIx (n + 2) ∧ k = 17)
  ∨ (c = .takeInjectionBaseline ∧ i = 0x3460 ∧ k = 2)
  ∨ (∃ n : Fin 8, c = .checkEnableWrite n ∧ n ≠ 0 ∧ n ≠ 2 ∧ i = 0x3461 + n.val ∧ k = 6)
  ∨ (∃ v : BitVec 16, c = .recordResetWrite v ∧ ((1 ≤ v.toNat ∧ v.toNat ≤ s.cellCount) ∨ v.toNat = 65535) ∧ i = 0x4410 ∧ k = 0)
  ∨ (∃ p : List Byte, c = .safetyPasswordWrite p ∧ passwordOk p = true ∧ s.log.derived = [] ∧ s.obj 0x2040 1 = 1 ∧ i = 0x6890 ∧ k = 1)
  ∨ (∃ p : List Byte, c = .preSharedKeyWrite p ∧ p.length = 32 ∧ s.obj 0x2040 1 = 1 ∧ i = 0x1210 ∧ k = 1)
  ∨ (∃ v : BitVec 8, c = .bankSelectWrite v ∧ v.toNat ≤ 1 ∧ bitOf (s.obj 0x2050 5) v.toNat = true ∧ i = 0x2050 ∧ k = 4)
  ∨ (c = .clearVaultLatches ∧ i = 0x2070 ∧ k = 4)
  ∨ (∃ (ref : ObjRef) (w : WriteReq) (r : ObjRow), c = .objectWriteApply ref ∧ i = ref.index.toNat ∧ k = ref.sub.toNat
      ∧ (takeWrite i k s.host.due).1 = some w ∧ objInfo s i k = some r ∧ ownRow s i k = false ∧ r.access = .rws
      ∧ (isBytes r = true → bytesRefusal s i k w.bytes = 0)))

/-- The command is refused for storage: the old values stay, the failure counts in 0x2080:4 and is recorded, the answer is STATE. -/
def RefusedForStorage (c : Instr) (s : State) (i k : Nat) : Prop :=
  Answers c s fun t => t.host.lastErr = errState ∧ t.obj i k = s.obj i k ∧ t.doms = s.doms ∧ t.cells = s.cells ∧ t.log = (entryTried s).log
    ∧ t.pwr = s.pwr ∧ t.host.psk = s.host.psk ∧ t.obj 0x2080 4 = countUp 32 (s.obj 0x2080 4)
    ∧ Writes 0x0F0E [d32 9, d32 (s.objN 0x6891 1 % 256 : Nat)] s t

/-- The indices of the lanes' counters (R63, R66), which raising an event may change. -/
def laneCounters (i : Nat) : Bool := decide (0x2100 ≤ i) && decide (i ≤ 0x2102)

/-- The objects and the DOMAIN values are held in their canonical form. -/
def StoreInv (s : State) : Prop := storeWf objDefault s.objs ∧ storeWf (fun _ => ([] : List Byte)) s.doms

end Sys2Proof.Machine
end

