-- ==== Sys2Proof/Certificates/Slice0/Obligations.lean ====
section
/-!
DEFINITION. The statements for the provers: what the commands of the block do, by the numbered rules of the spec, what they leave alone,
and the invariants every step keeps.
-/
section StatementsOfTheRow
open Sys2Proof Sys2Proof.Machine

/-! ### The step and the queue -/

/-- A step takes the command at the front of the queue and carries it out on the state with the queue's rest. -/
def Obligations.StepRunsTheFrontCommand : Prop :=
  ∀ (c : Instr) (s : State) (r : List Instr), step { s with pending := c :: r } = exec c { s with pending := r }

/-- On an empty queue the block idles: one tick of the counter C passes while the host domain runs, and nothing else changes (the
model's choice, log entry 1). -/
def Obligations.IdleStepIsOneTick : Prop :=
  ∀ s : State, s.pending = [] →
    (s.hostUp = true → step s = .next { s with clk := { s.clk with c := s.clk.c + 1 } }) ∧ (s.hostUp = false → step s = .next s)

/-- Every command is answered with a next state, on every state and every operand, and leaves the queue as it is; every step is answered with a next state
whose queue is the rest of the queue. No command and no step ends in a fault or a refusal. -/
def Obligations.EveryStepRuns : Prop :=
  (∀ (c : Instr) (s : State), ∃ t, exec c s = .next t ∧ t.pending = s.pending)
  ∧ (∀ s : State, ∃ t, step s = .next t ∧ t.pending = s.pending.tail)

/-- The objects and the DOMAIN values stay in their canonical form: keys strictly rising, no entry equal to what an unlisted key
reads as, from every state that has it. -/
def Obligations.EveryStepKeepsTheStores : Prop := ∀ s t : State, StoreInv s → step s = .next t → StoreInv t

/-- No step takes a record out of the founding area or changes one: what the area holds stays its beginning (R412). -/
def Obligations.FoundingRecordsNeverChange : Prop := ∀ s t : State, step s = .next t → s.evt.founding <+: t.evt.founding

/-- What reset leaves, by the values the spec gives: both stores in canonical form; profile Metrology requested (0x2001:0) and in force (0x2002:0); frame
length 250 µs configured and in force (0x2010:0, 0x2011:0); time FREE (0x2804:0 = 0); no cause latched (0x6801:0) and no cause of Guarded standing
(0x2004:0); every lane and both event areas empty, no session open, and the queue of commands empty. -/
def Obligations.ResetState : Prop :=
  StoreInv State.reset ∧ State.reset.obj 0x2001 0 = 0 ∧ State.reset.obj 0x2002 0 = 0 ∧ State.reset.obj 0x2010 0 = 250
    ∧ State.reset.obj 0x2011 0 = 250 ∧ State.reset.obj 0x2804 0 = 0 ∧ State.reset.obj 0x6801 0 = 0 ∧ State.reset.obj 0x2004 0 = 0
    ∧ (∀ n, State.reset.lane n = {}) ∧ State.reset.evt.founding = [] ∧ State.reset.evt.circ = []
    ∧ State.reset.host.eop.isOpen = false ∧ State.reset.host.service.isOpen = false ∧ State.reset.pending = []

/-! ### Clocktower -/

/-- PTP messages, with the host domain running. A Sync of the configured domain from the selected master stores master, sequence number and θ = ingress −
(origin with correction) − d on its port, zeroes that port's missed count and leaves the other port; on the selected port θ goes last into lane 26.
Any other Sync changes nothing but the high-water of lane 31. An Announce of the domain is among the masters heard, the selected master is the best of
them, and an Announce of the selected master gives 0x2806:0 its UTC offset. After an Announce timeout only masters heard before are left, that master
on that port not among them, the selected master is the best of those left and 0x2806:0 is as before. A Pdelay_Req is answered with a Pdelay_Resp of
its ingress and a follow-up of its egress on its port; a Pdelay_Req sent stores its corrected egress time, numbers itself one higher and puts one
message on its port; a response to it, of its number, gives d = (t4 − t1 − turnaround) / 2 at the front of the port's 16 last values and, in ns with 2
fraction bits, 0x2812 of the port. Rests on R45 to R49. Next states stated: ptpSyncReceived, ptpAnnounceReceived, announceReceiptTimeout,
pdelayReqReceived, pdelayReqSend, pdelayRespReceived. -/
def Obligations.PtpMessages : Prop :=
  (∀ (s : State) (port : Fin 2) (master : BitVec 64) (domain : BitVec 8) (seq : BitVec 16) (ingress : Stamp) (origin : Int),
    s.hostUp = true → (domain.toNat : Int) = s.obj 0x2832 0 → s.clk.selected = some master.toNat →
    Answers (.ptpSyncReceived port master domain seq ingress origin) s fun t =>
      (t.port port).last = some (master.toNat, seq.toNat, ingressAt s port ingress - origin - (s.port port).delays.headD 0)
      ∧ (t.port port).missed = 0 ∧ t.port (1 - port.val) = s.port (1 - port.val)
      ∧ (port.val = s.selPort →
          (t.lane 26).elems.getLast? = some (.nums [ingressAt s port ingress - origin - (s.port port).delays.headD 0, master.toNat])))
  ∧ (∀ (s : State) (port : Fin 2) (master : BitVec 64) (domain : BitVec 8) (seq : BitVec 16) (ingress : Stamp) (origin : Int),
    s.hostUp = true → ((domain.toNat : Int) ≠ s.obj 0x2832 0 ∨ s.clk.selected ≠ some master.toNat) →
    exec (.ptpSyncReceived port master domain seq ingress origin) s = .next (passLane s 31))
  ∧ (∀ (s : State) (port : Fin 2) (ann : Announce), s.hostUp = true → (ann.domain.toNat : Int) = s.obj 0x2832 0 →
    Answers (.ptpAnnounceReceived port ann) s fun t =>
      ⟨port, ann⟩ ∈ t.clk.masters ∧ t.clk.selected = (bestMaster t.clk.masters).map (fun m => m.ann.identity.toNat)
      ∧ (t.clk.selected = some ann.identity.toNat → t.obj 0x2806 0 = toS 16 ann.utcOffset.toNat))
  ∧ (∀ (s : State) (port : Fin 2) (master : BitVec 64), s.hostUp = true →
    Answers (.announceReceiptTimeout port master) s fun t =>
      (∀ m ∈ t.clk.masters, m ∈ s.clk.masters ∧ ¬ (m.port = port.val ∧ m.ann.identity = master))
      ∧ t.clk.selected = (bestMaster t.clk.masters).map (fun m => m.ann.identity.toNat) ∧ t.obj 0x2806 0 = s.obj 0x2806 0)
  ∧ (∀ (s : State) (port : Fin 2) (seq : BitVec 16) (ingress egress : Stamp), s.hostUp = true →
    Answers (.pdelayReqReceived port seq ingress egress) s fun t =>
      t.sent = s.sent ++ [⟨port, ptpMsg 3 s seq.toNat (ingressAt s port ingress)⟩, ⟨port, ptpMsg 10 s seq.toNat (egressAt s port egress)⟩])
  ∧ (∀ (s : State) (port : Fin 2) (egress : Stamp), s.hostUp = true →
    Answers (.pdelayReqSend port egress) s fun t =>
      (t.port port).t1 = some (egressAt s port egress) ∧ (t.port port).reqSeq = ((s.port port).reqSeq + 1) % 65536
      ∧ ∃ m, t.sent = s.sent ++ [m] ∧ m.link = port.val)
  ∧ (∀ (s : State) (port : Fin 2) (seq : BitVec 16) (ingress : Stamp) (turnaround t1 : Int), s.hostUp = true →
    (s.port port).t1 = some t1 → (s.port port).reqSeq = seq.toNat →
    Answers (.pdelayRespReceived port seq ingress turnaround) s fun t =>
      (t.port port).t1 = none ∧ (t.port port).delays = ((ingressAt s port ingress - t1 - turnaround) / 2 :: (s.port port).delays).take 16
      ∧ t.obj 0x2812 (port.val + 1) = (ingressAt s port ingress - t1 - turnaround) / 2 / 16384)


/-- The servo, with the host domain running. A change of the rate sets it, keeps the counter and moves the module time of that instant by at most one unit
of 2^-16 ns. θ of the followed grandmaster is taken from lane 26: in LOCKED, within the unlock threshold 0x2822:3, the servo stays LOCKED, its unlock
run is 0, the rate lies within ± 0x2826:0 (where that is not negative) and no step is asked for; in ACQUIRE, beyond the step threshold 0x2823:0, the
servo stays in ACQUIRE, keeps its rate and asks for a step of −θ, its lock run being 0; in HOLD forced by mode 1 nothing of the clock changes. A Sync
interval without a Sync is counted on its port, and on a port not selected leaves the servo state; on the selected port with fewer than two missed
before, in ACQUIRE or LOCKED, once the intervals without θ reach 0x2824:0 the servo is in HOLD with the rate of its integral term. At the holdover
limit in HOLD without PPS aid, bit 1 of 0x2805:0 is set and bit 0 clear. A step request within ± 10^12 is stored in 0x2830:0, 0 clears bit 2 of
0x2805:0 and any other outside HOLD sets it; one beyond is answered RANGE and not stored. Mode 1 stores 1 and gives HOLD; mode 0 stores 0 and leaves
state and clock. Rests on R41, R42 and R50 to R56. Next states stated: servoTheta, syncIntervalTimeout, holdoverLimitExpiry, stepRequestWrite,
servoModeWrite. -/
def Obligations.ServoRules : Prop :=
  (∀ (s : State) (r : Int), (setRho s r).clk.rho = r ∧ (setRho s r).clk.c = s.clk.c
    ∧ (setRho s r).now - s.now ≤ 1 ∧ s.now - (setRho s r).now ≤ 1)
  ∧ (∀ (s : State) (theta gm : Int) (l : List Int) (r : List Elem), s.hostUp = true → (s.lane 26).elems = .nums (theta :: gm :: l) :: r →
    s.servo = 2 → s.clk.grandmaster = some gm.toNat → (theta.natAbs : Int) ≤ s.obj 0x2822 3 * 65536 → 0 ≤ s.obj 0x2826 0 →
    Answers .servoTheta s fun t => (t.lane 26).elems = r ∧ t.servo = 2 ∧ t.clk.unlockRun = 0
      ∧ - s.obj 0x2826 0 ≤ t.clk.rho ∧ t.clk.rho ≤ s.obj 0x2826 0 ∧ t.clk.autoStep = s.clk.autoStep)
  ∧ (∀ (s : State) (theta gm : Int) (l : List Int) (r : List Elem), s.hostUp = true → (s.lane 26).elems = .nums (theta :: gm :: l) :: r →
    s.servo = 1 → s.clk.grandmaster = some gm.toNat → s.obj 0x2823 0 * 65536 < (theta.natAbs : Int) →
    Answers .servoTheta s fun t => t.servo = 1 ∧ t.clk.autoStep = some (-theta) ∧ t.clk.lockRun = 0 ∧ t.clk.rho = s.clk.rho)
  ∧ (∀ (s : State) (theta gm : Int) (l : List Int) (r : List Elem), s.hostUp = true → (s.lane 26).elems = .nums (theta :: gm :: l) :: r →
    s.servo = 3 → s.obj 0x2821 0 = 1 → Answers .servoTheta s fun t => t.servo = 3 ∧ t.clk = s.clk)
  ∧ (∀ (s : State) (port : Fin 2), s.hostUp = true → port.val ≠ s.selPort →
    Answers (.syncIntervalTimeout port) s fun t => (t.port port).missed = (s.port port).missed + 1 ∧ t.servo = s.servo)
  ∧ (∀ (s : State) (port : Fin 2), s.hostUp = true → port.val = s.selPort → (s.port port).missed < 2 → (s.servo = 1 ∨ s.servo = 2) →
    s.obj 0x2824 0 ≤ ((s.clk.thetaMissed + 1 : Nat) : Int) →
    Answers (.syncIntervalTimeout port) s fun t => t.servo = 3 ∧ t.clk.rho = s.clk.rhoInt)
  ∧ (∀ s : State, s.hostUp = true → s.servo = 3 → bitOf (s.obj 0x2805 0) 1 = false → s.clk.ppsAid = false →
    Answers .holdoverLimitExpiry s fun t => bitOf (t.obj 0x2805 0) 1 = true ∧ bitOf (t.obj 0x2805 0) 0 = false ∧ t.servo = 3)
  ∧ (∀ (s : State) (v : BitVec 64), s.hostUp = true → -1000000000000 ≤ v.toInt → v.toInt ≤ 1000000000000 →
    Answers (.stepRequestWrite v) s fun t => t.obj 0x2830 0 = v.toInt
      ∧ (v.toInt = 0 → bitOf (t.obj 0x2805 0) 2 = false) ∧ (v.toInt ≠ 0 → s.servo ≠ 3 → bitOf (t.obj 0x2805 0) 2 = true))
  ∧ (∀ (s : State) (v : BitVec 64), s.hostUp = true → (v.toInt < -1000000000000 ∨ 1000000000000 < v.toInt) →
    Answers (.stepRequestWrite v) s fun t => t.host.lastErr = errRange ∧ t.obj 0x2830 0 = s.obj 0x2830 0)
  ∧ (∀ s : State, s.hostUp = true → Answers (.servoModeWrite 1) s fun t => t.obj 0x2821 0 = 1 ∧ t.servo = 3)
  ∧ (∀ s : State, s.hostUp = true → Answers (.servoModeWrite 0) s fun t => t.obj 0x2821 0 = 0 ∧ t.servo = s.servo ∧ t.clk = s.clk)

/-- Plant sync and the timed pulse outputs, with the host domain running. A PPS edge changes nothing in mode 0; in mode 1 one more than 1 µs off leaves
the clock and writes 0x020A with its error; in mode 2, in HOLD entered from LOCKED, one within 1 µs begins the aid: holdover counts from now, bit 3 of
0x2805:0 is set, the state stays HOLD. The loss timeout ends an aid and clears bit 3. The PPS output sends its pulse of 0x2843:0 in mode 2, and in
mode 1 while bit 0 of 0x2805:0 is set; otherwise nothing changes. A once comparator whose settings are in range arms with count 0 and status 1 when
its start lies ahead, and reads status 4, not armed, when that has passed; settings out of range are answered RANGE and leave comparator and status.
Disarming leaves a running pulse and gives status 0. An edge of an armed comparator begins its pulse, counts it, sets the end of the pulse to the
programmed length in whole ticks, rounded up, and status 2, and disarms a once comparator. At the end of the last pulse of a disarmed comparator of
status 2 the status is 3. Rests on R58 to R62. Next states stated: ppsInputEdge, ppsLossTimeout, ppsOutputEdge, comparatorArm, comparatorDisarm,
comparatorEdge, comparatorPulseEnd. -/
def Obligations.PulseRules : Prop :=
  (∀ (s : State) (edge : Stamp), s.hostUp = true → s.obj 0x2840 0 = 0 → exec (.ppsInputEdge edge) s = .next s)
  ∧ (∀ (s : State) (edge : Stamp), s.hostUp = true → s.obj 0x2840 0 = 1 →
    (secondError (timeAt s.clk edge.c.toNat edge.p - s.obj 0x2841 0 * 16384)).natAbs > 65536000 →
    Answers (.ppsInputEdge edge) s fun t => t.clk = s.clk
      ∧ Writes 0x020A [d32 (nsOf (secondError (timeAt s.clk edge.c.toNat edge.p - s.obj 0x2841 0 * 16384)))] s t)
  ∧ (∀ (s : State) (edge : Stamp), s.hostUp = true → s.obj 0x2840 0 = 2 → s.servo = 3 → s.clk.heldLocked = true →
    (secondError (timeAt s.clk edge.c.toNat edge.p - s.obj 0x2841 0 * 16384)).natAbs ≤ 65536000 →
    Answers (.ppsInputEdge edge) s fun t => t.clk.ppsAid = true ∧ t.clk.holdFrom = s.clk.c ∧ bitOf (t.obj 0x2805 0) 3 = true ∧ t.servo = 3)
  ∧ (∀ s : State, s.hostUp = true → s.clk.ppsAid = true →
    Answers .ppsLossTimeout s fun t => t.clk.ppsAid = false ∧ bitOf (t.obj 0x2805 0) 3 = false)
  ∧ (∀ s : State, s.hostUp = true → (s.obj 0x2842 0 = 2 ∨ (s.obj 0x2842 0 = 1 ∧ bitOf (s.obj 0x2805 0) 0 = true)) →
    Answers .ppsOutputEdge s fun t => t.sent = s.sent ++ [⟨5, d16 (s.obj 0x2843 0)⟩])
  ∧ (∀ s : State, s.hostUp = true → ¬ (s.obj 0x2842 0 = 2 ∨ (s.obj 0x2842 0 = 1 ∧ bitOf (s.obj 0x2805 0) 0 = true)) →
    exec .ppsOutputEdge s = .next s)
  ∧ (∀ (s : State) (k : Fin 8), s.hostUp = true → compOk s k = true → s.obj (0x2850 + k) 1 = 1 → s.now / 65536 < compStart s k →
    Answers (.comparatorArm k) s fun t => (t.comp k).armed = true ∧ (t.comp k).count = 0 ∧ t.obj (0x2850 + k) 8 = 1)
  ∧ (∀ (s : State) (k : Fin 8), s.hostUp = true → compOk s k = true → s.obj (0x2850 + k) 1 = 1 → compStart s k ≤ s.now / 65536 →
    Answers (.comparatorArm k) s fun t => (t.comp k).armed = false ∧ t.obj (0x2850 + k) 8 = 4)
  ∧ (∀ (s : State) (k : Fin 8), s.hostUp = true → compOk s k = false →
    Answers (.comparatorArm k) s fun t => t.host.lastErr = errRange ∧ t.comp k = s.comp k ∧ t.obj (0x2850 + k) 8 = s.obj (0x2850 + k) 8)
  ∧ (∀ (s : State) (k : Fin 8), s.hostUp = true →
    Answers (.comparatorDisarm k) s fun t => (t.comp k).armed = false ∧ (t.comp k).pulse = (s.comp k).pulse ∧ t.obj (0x2850 + k) 8 = 0)
  ∧ (∀ (s : State) (k : Fin 8), s.hostUp = true → (s.comp k).armed = true →
    Answers (.comparatorEdge k) s fun t => (t.comp k).pulse = true ∧ (t.comp k).count = (s.comp k).count + 1
      ∧ (t.comp k).endC = s.clk.c + (s.objN (0x2850 + k) 4 + 3) / 4 ∧ t.obj (0x2850 + k) 8 = 2
      ∧ (s.obj (0x2850 + k) 1 = 1 → (t.comp k).armed = false))
  ∧ (∀ (s : State) (k : Fin 8), s.hostUp = true → (s.comp k).pulse = true → (s.comp k).armed = false → s.obj (0x2850 + k) 8 = 2 →
    Answers (.comparatorPulseEnd k) s fun t => (t.comp k).pulse = false ∧ t.obj (0x2850 + k) 8 = 3)


/-! ### The frame and the profile -/

/-- The frame, with the host domain running. After a boundary the frame number is the number of the instant, S divided by T_F, modulo 2^32, and no window
is marked late. A profile taken for the boundary, other than Park and the one in force, is in force after it with its reason in 0x2002:1, and none is
taken any more. The input image assembled has 10,800 bytes and begins with the number of the frame before, and the door input is DI3 inverted. On a
card that is not OFFLINE an engine that works the frame's cells, not yet sealed and not in Park, is marked done for that frame. After a seal no boot
record waits to be written. After a release, without a program's outputs, the host set-point of every loop is the one sealed. Rests on R32, R38, R202,
R338, R339 and R429. Next states stated: frameBoundary, inputImageAssembly, estimatorFrameWork, outputSeal, outputRelease. -/
def Obligations.FrameWork : Prop :=
  (∀ s : State, s.hostUp = true →
    Answers .frameBoundary s fun t => t.frameNo = (s.frame.nextAt / s.tf % 4294967296).toNat ∧ t.frame.late = [])
  ∧ (∀ (s : State) (v r : Nat), s.frame.change = some (v, r) → s.profile ≠ v → v ≠ 3 →
    (profileBoundary s).profile = v ∧ (profileBoundary s).obj 0x2002 1 = r ∧ (profileBoundary s).frame.change = none)
  ∧ (∀ (s : State) (l : List TempReading) (die : BitVec 16) (di mf : BitVec 8), s.hostUp = true →
    Answers (.inputImageAssembly l die di mf) s fun t => t.prog.input.length = 10800
      ∧ t.prog.input.take 4 = leBytes 4 (((s.frameNo + 4294967295) % 4294967296 : Nat) : Int) ∧ t.safe.guard.door = !di.toNat.testBit 3)
  ∧ (∀ (s : State) (e : Fin 4), s.hostUp = true → s.cells.sealFrame ≠ some s.cells.imageFrame → s.profile ≠ 3 →
    s.runs = true → Answers (.estimatorFrameWork e) s fun t => t.cells.estDone.testBit e = true ∧ t.cells.estFrame = some s.cells.imageFrame)
  ∧ (∀ s : State, s.hostUp = true → Answers .outputSeal s fun t => t.evt.boot = none)
  ∧ (∀ s : State, s.hostUp = true → objectOutputs s = [] → Answers .outputRelease s fun t => ∀ l : Fin 16, (t.loop l).host = (s.loop l).hostNext)

/-- Windows and lanes, with the host domain running. An overrun of window w names it for the frame, ends the run of clean frames, counts in 0x2110 of w
and makes its high-water in 0x2112 at least the use told. The first overrun of a frame raises 0x2111:0 by one, up to 255; the third frame in
succession sets bit 0 of 0x2004:0 and the profile in force is Guarded; any other count leaves 0x2004:0 and the profile, and a further overrun of the
same frame leaves count and profile. At a frame's end a frame without one ends the run and counts one clean frame, one with leaves both. After 64
clean frames the clear takes bit 0 away and leaves the profile; before, it changes nothing. A clear of the budget counters answers OK and zeroes
0x2101, 0x2102, 0x2110, 0x2111 and 0x2112. Where a lane has room for it, its oldest element held back enters it last and waits no longer. Rests on R38
to R40 and R63. Next states stated: frameOverrun, overrunConditionClear, clearBudgetCounters, laneWaitResume. -/
def Obligations.WindowsAndLanes : Prop :=
  (∀ (s : State) (w : Fin 6) (e : Fin 16) (u : BitVec 16), s.hostUp = true →
    Answers (.frameOverrun w e u) s fun t => t.frame.late = s.frame.late ++ [w.val + 1] ∧ t.frame.clean = 0
      ∧ t.obj 0x2110 (w + 1) = countUp 32 (s.obj 0x2110 (w + 1)) ∧ (u.toNat : Int) ≤ t.obj 0x2112 (w + 1))
  ∧ (∀ (s : State) (w : Fin 6) (e : Fin 16) (u : BitVec 16), s.hostUp = true → s.frame.late = [] → s.obj 0x2111 0 = 2 →
    Answers (.frameOverrun w e u) s fun t => t.obj 0x2111 0 = 3 ∧ bitOf (t.obj 0x2004 0) 0 = true ∧ t.profile = 4)
  ∧ (∀ (s : State) (w : Fin 6) (e : Fin 16) (u : BitVec 16), s.hostUp = true → s.frame.late ≠ [] →
    Answers (.frameOverrun w e u) s fun t => t.obj 0x2111 0 = s.obj 0x2111 0 ∧ t.profile = s.profile)
  ∧ (∀ s : State, s.hostUp = true → 64 ≤ s.frame.clean →
    Answers .overrunConditionClear s fun t => bitOf (t.obj 0x2004 0) 0 = false ∧ t.profile = s.profile)
  ∧ (∀ s : State, s.hostUp = true → s.frame.clean < 64 → exec .overrunConditionClear s = .next s)
  ∧ (∀ s : State, s.hostUp = true → Answers .clearBudgetCounters s fun t => t.host.lastErr = errOk
      ∧ ∀ i ∈ [0x2101, 0x2102, 0x2110, 0x2111, 0x2112], ∀ sub < 65536, t.obj i sub = 0)
  ∧ (∀ (s : State) (n : Fin 48) (e : Elem) (r : List Elem), s.hostUp = true → (s.lane n).waiting = e :: r →
    (s.lane n).elems.length < (laneInfo n).depth →
    Answers (.laneWaitResume n) s fun t => (t.lane n).elems = (s.lane n).elems ++ [e] ∧ (t.lane n).waiting = r)
  ∧ (∀ (s : State) (w : Fin 6) (e : Fin 16) (u : BitVec 16), s.hostUp = true → s.frame.late = [] → s.obj 0x2111 0 ≠ 2 →
    Answers (.frameOverrun w e u) s fun t => t.obj 0x2111 0 = (if s.obj 0x2111 0 < 255 then s.obj 0x2111 0 + 1 else 255)
      ∧ t.obj 0x2004 0 = s.obj 0x2004 0 ∧ t.profile = s.profile)
  ∧ (∀ s : State, s.frame.late = [] → (countLate s).obj 0x2111 0 = 0 ∧ (countLate s).frame.clean = s.frame.clean + 1 ∧ (countLate s).frame.late = [])
  ∧ (∀ s : State, s.frame.late ≠ [] → (countLate s).obj 0x2111 0 = s.obj 0x2111 0 ∧ (countLate s).frame.clean = s.frame.clean ∧ (countLate s).frame.late = [])

/-- The requested profile, Park and the internal link. With the host domain running, on an ACTIVE card, or with a write due that the mirror brought: a
profile other than 4 that R23 does not refuse, written outside Guarded and outside an orderly shutdown, is answered OK, stored, and taken for the next
boundary with reason 0, the profile in force unchanged; one it refuses is answered STATE, leaves 0x2001:0 and the frame, and writes 0x0111 with the
reason. A value above 5 is answered RANGE and leaves both. On another card a profile up to 5 is answered STATE, leaves both and writes 0x0111 with 4.
4 is stored, gives Guarded at once and sets bit 6 of 0x2004:0. In Guarded and during a shutdown any other value is stored, bit 6 is clear afterwards,
and the profile in force stays. A release in Guarded with no cause standing is answered OK; the profile in force is then the requested one, or
Metrology where R23 refuses that one; outside Guarded, or with a cause standing, it is answered STATE and changes no profile. A wake tone in Park on
an enabled ring takes 0x2003:0 for the next boundary with reason 2, and outside Park or on a ring not enabled changes nothing. The active frame of
Park is announced for the next frame number. A good packet of the internal link changes nothing; a bad one is counted in 0x2120:0 and its window,
where it carried one, is without data. The loss of the link, with the string domain running, releases that domain with cause 1, latches cause 23,
gives Guarded and de-energises every valve; an open J2 loop is noted, and with that domain running releases it with cause 2 and latches cause 23; its
closing delay notes the loop closed and, with the host domain running, supplies the string domain. Rests on R17, R18, R22 to R27 and R454. Next states
stated: requestedProfileWrite, guardedRelease, wakeToneDetected, parkActiveFrame, internalLinkPacket, internalLinkLost, j2LoopOpen, j2LoopClosedDelay. -/
def Obligations.ProfileAndLink : Prop :=
  (∀ (s : State) (v : BitVec 8), s.hostUp = true → (s.isActive = true ∨ (writeOf s 0x2001 0).isSome = true) → v.toNat ≤ 5 → v.toNat ≠ 4 → s.profile ≠ 4 → bitOf (s.obj 0x6000 1) 4 = false →
    profileRefusal s v.toNat = 0 →
    Answers (.requestedProfileWrite v) s fun t => t.host.lastErr = errOk ∧ t.obj 0x2001 0 = v.toNat ∧ t.frame.change = some (v.toNat, 0)
      ∧ t.profile = s.profile)
  ∧ (∀ (s : State) (v : BitVec 8), s.hostUp = true → (s.isActive = true ∨ (writeOf s 0x2001 0).isSome = true) → v.toNat ≤ 5 → v.toNat ≠ 4 → s.profile ≠ 4 → bitOf (s.obj 0x6000 1) 4 = false →
    profileRefusal s v.toNat ≠ 0 →
    Answers (.requestedProfileWrite v) s fun t => t.host.lastErr = errState ∧ t.obj 0x2001 0 = s.obj 0x2001 0 ∧ t.frame = s.frame
      ∧ Writes 0x0111 [d8 v.toNat, d32 (profileRefusal s v.toNat)] s t)
  ∧ (∀ (s : State) (v : BitVec 8), s.hostUp = true → 5 < v.toNat →
    Answers (.requestedProfileWrite v) s fun t => t.host.lastErr = errRange ∧ t.obj 0x2001 0 = s.obj 0x2001 0 ∧ t.frame = s.frame)
  ∧ (∀ s : State, s.hostUp = true → (s.isActive = true ∨ (writeOf s 0x2001 0).isSome = true) →
    Answers (.requestedProfileWrite 4) s fun t => t.host.lastErr = errOk ∧ t.obj 0x2001 0 = 4 ∧ t.profile = 4 ∧ bitOf (t.obj 0x2004 0) 6 = true)
  ∧ (∀ (s : State) (v : BitVec 8), s.hostUp = true → (s.isActive = true ∨ (writeOf s 0x2001 0).isSome = true) → v.toNat ≤ 5 → v.toNat ≠ 4 → (s.profile = 4 ∨ bitOf (s.obj 0x6000 1) 4 = true) →
    Answers (.requestedProfileWrite v) s fun t => t.host.lastErr = errOk ∧ t.obj 0x2001 0 = v.toNat ∧ t.profile = s.profile
      ∧ bitOf (t.obj 0x2004 0) 6 = false ∧ t.frame = s.frame)
  ∧ (∀ s : State, s.hostUp = true → s.profile = 4 → s.obj 0x2004 0 = 0 →
    Answers .guardedRelease s fun t => t.host.lastErr = errOk ∧ t.obj 0x2001 0 = s.obj 0x2001 0
      ∧ t.profile = if profileRefusal s (s.obj 0x2001 0) = 0 then s.obj 0x2001 0 else 0)
  ∧ (∀ s : State, s.hostUp = true → (s.profile ≠ 4 ∨ s.obj 0x2004 0 ≠ 0) →
    Answers .guardedRelease s fun t => t.host.lastErr = errState ∧ t.profile = s.profile ∧ t.frame = s.frame)
  ∧ (∀ (s : State) (r : Fin 4) (p : Fin 2) (c : BitVec 8), s.stringUp = true → s.profile = 3 → bitOf (s.obj 0x3020 6) r = true →
    Answers (.wakeToneDetected r p c) s fun t => t.frame.change = some (s.objN 0x2003 0, 2) ∧ t.profile = 3)
  ∧ (∀ (s : State) (r : Fin 4) (p : Fin 2) (c : BitVec 8), s.stringUp = true → (s.profile ≠ 3 ∨ bitOf (s.obj 0x3020 6) r = false) →
    exec (.wakeToneDetected r p c) s = .next s)
  ∧ (∀ s : State, s.hostUp = true → s.profile = 3 →
    Answers .parkActiveFrame s fun t => t.rings.active = some ((s.frameNo + 1) % 4294967296) ∧ t.rings.ring = s.rings.ring)
  ∧ (∀ (s : State) (p : LinkPacket), s.hostUp = true → p.good = true → exec (.internalLinkPacket p) s = .next s)
  ∧ (∀ (s : State) (p : LinkPacket), s.hostUp = true → p.good = false →
    Answers (.internalLinkPacket p) s fun t => t.obj 0x2120 0 = countUp 32 (s.obj 0x2120 0)
      ∧ t.frame.lost = s.frame.lost ++ (p.window.map (fun q => q.val + 1)).toList)
  ∧ (∀ s : State, s.stringUp = true → s.frame.released = 0 →
    Answers .internalLinkLost s fun t => t.frame.released = 1 ∧ t.profile = 4 ∧ bitOf (t.obj 0x6801 0) 23 = true
      ∧ ∀ p ∈ t.valves, p.2.energised = false)
  ∧ (∀ s : State, Answers .j2LoopOpen s fun t => t.pwr.j2Open = true
      ∧ (s.stringUp = true → s.frame.released = 0 → t.frame.released = 2 ∧ t.profile = 4 ∧ bitOf (t.obj 0x6801 0) 23 = true))
  ∧ (∀ s : State, s.pwr.j2Open = true →
    Answers .j2LoopClosedDelay s fun t => t.pwr.j2Open = false ∧ (s.hostUp = true → t.stringUp = true))
  ∧ (∀ (s : State) (v : BitVec 8), s.hostUp = true → s.isActive = false → writeOf s 0x2001 0 = none → v.toNat ≤ 5 →
    Answers (.requestedProfileWrite v) s fun t => t.host.lastErr = errState ∧ t.obj 0x2001 0 = s.obj 0x2001 0 ∧ t.frame = s.frame
      ∧ Writes 0x0111 [d8 v.toNat, d32 4] s t)

/-! ### Roundabout -/

/-- The sweep, with the string domain running. SYNC for the next frame is sent in frames that the ring's divider 0x3010+r:10 divides, on a running ring of
a card that drives the rings: its number and instant are kept, and it leaves from East alone on an intact ring, from both ends, each with its flag, on
a broken one; in other frames or on a ring that does not run nothing changes. A sweep of an intact ring without a split wants every unit, has read
none and, on a driving card, sends one READ from East for all of them. A frame that answers an open read with one block whose CRC, digest, kind, frame
number and flags are right marks its hop as read and puts its element last into lane 24 and, where it is of the frame that runs, into the lane of the
ring, which keeps no other (those go into the arrays at once). A frame of a ring that is off changes nothing; one of a ring that enumerates counts its
violations and bad blocks, nothing else. An ABORT during a read of an intact ring excepts the frame from the error count and looks for the break from
both ends, what was read staying read; without a read it only excepts the frame. A read that never returns on an intact ring starts the search after
silence and does not except the frame. The close of a running ring's sweep ends its reads, keeps as wanted for the next frame what was wanted and not
read, and puts ring, frame and the masks of late, missing and lost units last into lane 25; the close of a ring that enumerates anew reports every
configured unit there as missing. Rests on R75, R81, R87 to R89 and R93 to R95. Next states stated: syncLaunch, ringSweep, ringFrameReceived,
ringAbortReceived, ringTimeout, sweepClose. -/
def Obligations.RingSweep : Prop :=
  (∀ (s : State) (r : Fin 4), s.stringUp = true → ringRuns s r ((s.frameNo + 1) % 4294967296) = true → s.drivesSync = true →
    ((s.frameNo + 1) % 4294967296 : Nat) % s.obj (0x3010 + r) 10 = 0 →
    Answers (.syncLaunch r) s fun t => ((t.ring r).syncs.head? = some ((s.frameNo + 1) % 4294967296, s.frame.nextAt))
      ∧ ((s.ring r).broken = false → t.sent = s.sent ++ [⟨6 + 2 * r, syncFrame ((s.frameNo + 1) % 4294967296) 0⟩])
      ∧ ((s.ring r).broken = true → t.sent = s.sent ++ [⟨6 + 2 * r, syncFrame ((s.frameNo + 1) % 4294967296) 2⟩,
          ⟨7 + 2 * r, syncFrame ((s.frameNo + 1) % 4294967296) 3⟩]))
  ∧ (∀ (s : State) (r : Fin 4), s.stringUp = true →
    (ringRuns s r ((s.frameNo + 1) % 4294967296) = false ∨ ((s.frameNo + 1) % 4294967296 : Nat) % s.obj (0x3010 + r) 10 ≠ 0) →
    exec (.syncLaunch r) s = .next s)
  ∧ (∀ (s : State) (r : Fin 4), s.stringUp = true → ringRuns s r s.frameNo = true → (s.ring r).broken = false → s.objN (0x3010 + r) 10 ≤ 1 →
    Answers (.ringSweep r) s fun t => (t.ring r).want = maskOf ((s.ring r).units.map (·.hop)) ∧ (t.ring r).got = 0
      ∧ (s.drivesAll = true → ⟨6 + 2 * r, 0xFB#8 :: cmdBlock 0x01 0xFF (((s.ring r).seq + 1) % 256) 0 (maskOf ((s.ring r).units.map (·.hop)))
          ((s.ring r).prevWant &&& maskOf ((s.ring r).units.map (·.hop))) [] ++ [0xFD#8]⟩ ∈ t.sent))
  ∧ (∀ (s : State) (r : Fin 4) (p : Fin 2) (m b : List Byte) (v : BitVec 16) (q : RingRead) (u : RingUnit) (hop n : Nat) (at_ : Int),
    s.stringUp = true → 2 ≤ ringSt s r → (m.headD 0#8) = 2#8 → splitBlocks 24 (m.drop (14 + (m.getD 5 0#8).toNat)) = [b] →
    (s.ring r).reads.find? (fun x => x.seq == (m.getD 3 0#8).toNat) = some q →
    hop = (if q.port = 0 then (b.getD 1 0#8).toNat else (s.ring r).hmax + 1 - (b.getD 1 0#8).toNat) → 0 < hop →
    blockCrc b = true → ringUnit s r hop = some u → getLe b 2 2 = identDigest u.ident → (b.headD 0#8).toNat / 16 = 8 →
    (b.getD 5 0#8).toNat.testBit 6 = false → (s.ring r).syncs.head? = some (n, at_) → (b.getD 4 0#8).toNat = n % 256 →
    Answers (.ringFrameReceived r p m v) s fun t => (t.ring r).got = (s.ring r).got ||| 2 ^ (hop - 1)
      ∧ (n < 4294967296 → n = s.frameNo →
          (t.lane (20 + r)).elems.getLast? = some (blockElem b r hop false (decide (q.port = p.val)) n at_))
      ∧ (n < 4294967296 → n ≠ s.frameNo → (t.lane (20 + r)).elems.any (atOnce s) = false)
      ∧ (t.lane 24).elems.getLast? = some (blockElem b r hop false (decide (q.port = p.val)) n at_))
  ∧ (∀ (s : State) (r : Fin 4) (p : Fin 2) (m : List Byte) (v : BitVec 16), s.stringUp = true → ringSt s r < 1 →
    (s.lane (20 + r)).elems = [] → exec (.ringFrameReceived r p m v) s = .next s)
  ∧ (∀ (s : State) (r : Fin 4) (p : Fin 2) (m : List Byte) (v : BitVec 16), s.stringUp = true → ringSt s r = 1 →
    (s.lane (20 + r)).elems = [] →
    exec (.ringFrameReceived r p m v) s = .next (ringErrors (ringErrors s r v.toNat) r (badIn m)))
  ∧ (∀ (s : State) (r : Fin 4) (p : Fin 2), s.stringUp = true → (s.ring r).reads ≠ [] → (s.ring r).broken = false →
    Answers (.ringAbortReceived r p) s fun t => (t.ring r).frameSkip = true ∧ (t.ring r).detect = 2 ∧ (t.ring r).got = (s.ring r).got)
  ∧ (∀ (s : State) (r : Fin 4) (p : Fin 2), s.stringUp = true → (s.ring r).reads = [] →
    exec (.ringAbortReceived r p) s = .next (s.setRing r { s.ring r with frameSkip := true }))
  ∧ (∀ (s : State) (r : Fin 4) (p : Fin 2), s.stringUp = true → (∃ q ∈ (s.ring r).reads, q.port = p.val) → (s.ring r).broken = false →
    (s.ring r).detect = 0 → (s.ring r).dead ≠ 3 →
    Answers (.ringTimeout r p) s fun t => (t.ring r).detect = 3 ∧ (t.ring r).frameSkip = (s.ring r).frameSkip)
  ∧ (∀ (s : State) (r : Fin 4), s.stringUp = true → ringSt s r ≠ 1 → ringRuns s r s.frameNo = true →
    Answers (.sweepClose r) s fun t => (t.ring r).reads = []
      ∧ (t.ring r).prevWant = maskDiff (maskDiff (s.ring r).want (s.ring r).got) (s.ring r).nosync
      ∧ (t.lane 25).elems.getLast? = some (.nums [r, s.frameNo, maskDiff (maskDiff (s.ring r).want (s.ring r).got) (s.ring r).nosync,
          (s.ring r).nosync ||| maskDiff (cfgMask s r) (maskOf ((s.ring r).units.map (·.hop))),
          maskDiff (s.ring r).prevWant (s.ring r).prevGot]))
  ∧ (∀ (s : State) (r : Fin 4), s.stringUp = true → ringSt s r = 1 →
    Answers (.sweepClose r) s fun t => (t.lane 25).elems.getLast? = some (.nums [r, s.frameNo, 0, cfgMask s r, 0]))

/-- Enumeration, rates, faults and the records of the CM18s. With the string domain running, on an enabled ring that waits for its enumeration: an intact
ring whose identity blocks pass, within 12 hops and 40 units, is then intact (state 2) with its units counted in 0x3010+r:8; more than 12 hops leave
it not run, oversize, with bit 4 of 0x2004:0; blocks that fail leave it waiting with its units as before. A ring not enabled is left alone. A
re-enumeration written begins at once and is answered OK. A rate is in force once both ports have changed, and not before. An acknowledgement of an
override waits, the override standing. A mode up to 2 is stored in 0x3010+r:18 and, unless an override of 2 stands, in force; any other is answered
RANGE and changes neither. FAULT, where none stood, latches cause 4 and gives Guarded. With the host domain running: an authentication block with a
bad CRC changes nothing; a certificate for a slot's attempt that verifies gives that slot the device key and keeps its stage, one that does not ends
the attempt; an attempt without an answer ends. On the ACTIVE card STORE is due on a present CM18 whose slot is idle; on any other card the timer
changes nothing. Rests on R69, R72 to R74, R82, R86, R87, R97 and R152 to R154. Next states stated: ringEnumerate, ringReenumerateWrite,
ringPortRateChange, ringRateAcknowledge, ringRateModeWrite, faultSymbolDecoded, authResponse, authTimeout, recordStoreTimer. -/
def Obligations.RingControl : Prop :=
  (∀ (s : State) (r : Fin 4) (e w : List EnumUnit) (pt : BitVec 32), s.stringUp = true → ringOn s r = true → ringSt s r = 1 → badBlocks e = 0 → e.length ≤ 12 →
    e.length + otherUnits s r ≤ 40 →
    Answers (.ringEnumerate r true e w pt) s fun t => ringSt t r = 2 ∧ (t.ring r).hmax = e.length ∧ t.obj (0x3010 + r) 8 = e.length
      ∧ (t.ring r).seen = true ∧ (t.ring r).broken = false)
  ∧ (∀ (s : State) (r : Fin 4) (e w : List EnumUnit) (pt : BitVec 32), s.stringUp = true → ringOn s r = true → ringSt s r = 1 → badBlocks e = 0 → 12 < e.length →
    Answers (.ringEnumerate r true e w pt) s fun t => ringSt t r = 0 ∧ (t.ring r).oversize = true ∧ bitOf (t.obj 0x2004 0) 4 = true)
  ∧ (∀ (s : State) (r : Fin 4) (e w : List EnumUnit) (pt : BitVec 32), s.stringUp = true → ringOn s r = true → ringSt s r = 1 → badBlocks e ≠ 0 →
    Answers (.ringEnumerate r true e w pt) s fun t => ringSt t r = 1 ∧ (t.ring r).units = (s.ring r).units ∧ (t.ring r).seen = (s.ring r).seen)
  ∧ (∀ (s : State) (r : Fin 4) (b : Bool) (e w : List EnumUnit) (pt : BitVec 32), s.stringUp = true → ringOn s r = false →
    exec (.ringEnumerate r b e w pt) s = .next s)
  ∧ (∀ (s : State) (r : Fin 4), s.hostUp = true → ringOn s r = true →
    Answers (.ringReenumerateWrite r) s fun t => ringSt t r = 1 ∧ (t.ring r).enumFrom = s.frameNo ∧ t.host.lastErr = errOk)
  ∧ (∀ (s : State) (r : Fin 4) (p : Fin 2) (v d : Nat), s.stringUp = true → (s.ring r).rateTo = some (v, d) → d ||| 2 ^ p.val = 3 →
    Answers (.ringPortRateChange r p) s fun t => t.obj (0x3010 + r) 2 = v ∧ (t.ring r).rateTo = none)
  ∧ (∀ (s : State) (r : Fin 4) (p : Fin 2) (v d : Nat), s.stringUp = true → (s.ring r).rateTo = some (v, d) → d ||| 2 ^ p.val ≠ 3 →
    Answers (.ringPortRateChange r p) s fun t => t.objs = s.objs ∧ (t.ring r).rateTo = some (v, d ||| 2 ^ p.val))
  ∧ (∀ (s : State) (r : Fin 4), s.hostUp = true → s.obj (0x3010 + r) 3 ≠ 0 →
    Answers (.ringRateAcknowledge r) s fun t => (t.ring r).ack = true ∧ t.obj (0x3010 + r) 3 = s.obj (0x3010 + r) 3 ∧ t.host.lastErr = errOk)
  ∧ (∀ (s : State) (r : Fin 4) (v : BitVec 8), s.hostUp = true → v.toNat ≤ 2 →
    Answers (.ringRateModeWrite r v) s fun t => t.obj (0x3010 + r) 18 = v.toNat ∧ t.host.lastErr = errOk
      ∧ t.obj (0x3010 + r) 1 = if s.obj (0x3010 + r) 3 = 2 then s.obj (0x3010 + r) 1 else v.toNat)
  ∧ (∀ (s : State) (r : Fin 4) (v : BitVec 8), s.hostUp = true → 2 < v.toNat →
    Answers (.ringRateModeWrite r v) s fun t => t.obj (0x3010 + r) 1 = s.obj (0x3010 + r) 1 ∧ t.obj (0x3010 + r) 18 = s.obj (0x3010 + r) 18
      ∧ t.host.lastErr = errRange)
  ∧ (∀ (s : State) (r : Fin 4) (p : Fin 2) (b : List Byte), s.stringUp = true → faultStands s = false →
    Answers (.faultSymbolDecoded r p b) s fun t => bitOf (t.obj 0x6801 0) 4 = true ∧ t.profile = 4 ∧ t.safe.bol.faultC = some s.clk.c)
  ∧ (∀ (s : State) (r : Fin 4) (b : List Byte), s.hostUp = true →
    (b.length < 16 ∨ crc32c (b.take (b.length - 4)) ≠ getLe b (b.length - 4) 4) → exec (.authResponse r b) s = .next s)
  ∧ (∀ (s : State) (r : Fin 4) (b : List Byte) (k : Nat), s.hostUp = true → 16 ≤ b.length → crc32c (b.take (b.length - 4)) = getLe b (b.length - 4) 4 →
    authSlot s r (getLe b 2 2) = some k → getLe b 0 1 = 0xC2 →
    Answers (.authResponse r b) s fun t =>
      (ecdsaValid (s.dom 0x4030 2) (sha256 (slotIdent s k ++ sliceAt b 4 4 ++ sliceAt b 8 64)) (sliceAt b 72 64) = true →
          (t.auth k).stage = (s.auth k).stage ∧ (t.auth k).key = sliceAt b 8 64 ∧ t.objs = s.objs)
      ∧ (ecdsaValid (s.dom 0x4030 2) (sha256 (slotIdent s k ++ sliceAt b 4 4 ++ sliceAt b 8 64)) (sliceAt b 72 64) = false →
          (t.auth k).stage = 0 ∧ (t.auth k).key = (s.auth k).key))
  ∧ (∀ (s : State) (k : Fin 40), s.hostUp = true → ((s.auth k).stage = 2 ∨ (s.auth k).stage = 4 ∨ (s.auth k).stage = 6) →
    Answers (.authTimeout k) s fun t => (t.auth k).stage = 0)
  ∧ (∀ (s : State) (k : Fin 40), s.hostUp = true → s.isActive = true → slotUsed s k = true → slotLive s k = true → (s.auth k).stage = 0 →
    Answers .recordStoreTimer s fun t => (t.auth k).stage = 5 ∧ t.objs = s.objs)
  ∧ (∀ s : State, s.hostUp = true → s.isActive = false → exec .recordStoreTimer s = .next s)

/-! ### Measurement -/

/-- On an OFFLINE card a loop sample changes nothing and lane 14 gets nothing. Else, with the string domain running: a slot's loop sample puts 16 bytes
last into lane 13, its first three I_S as a fraction, byte 12 the slot and the last two the frame number; the frame values are those of the frame
before, whose number heads the last elements of lane 14 and, on any card, lane 15, and a V_S whose converter in use is sound and in no crossfade reads
in 0x3430:3 the mean of its calibrated windows, scaled. With the host domain running: a divider calibration of V_S or V_L starts (:18 = 1, OK) where
no reason refuses it (V_S without 0x3430:13 only after a minute at rest), and where one does :18 = 3 and none runs; one that completes with enough
frames and no failure gives the trim (mean of references / mean of readings − 1) in ppm in :12 and :18 = 2, one that failed leaves :12 with :18 = 3; a
proposed trim is accepted with OK and becomes :12 at the boundary. A window of 4,096 frames of checks 1 to 5 that are enabled gives its mean residual
and mean limit, state 2 or more where the residual lies beyond, and 1 where it does not and the state was below 2; one not enabled, or with fewer
frames, changes nothing. A run of an enabled check 6 to 8 under an injection changes nothing where it does not qualify; where it does and a baseline
is asked for or missing, each check of the three that waits for one and qualifies takes its ratio, and those alone wait no longer; where none is, it
gives the residual ratio / baseline − 1. A baseline request makes the three wait, OK. A write to the enable of check 1 or 3 is ACCESS and changes
neither enable nor cells; false, to another, is OK with enable and state 0; true sets it. RWS writes: no power-fail warning, log entry committed.
Rests on R103 to R106, R112 and R116 to R124. Next states stated: loopSamplePush, frontEndFrameValues, dividerCalStart, dividerCalComplete,
acceptProposedTrim, xcheckWindowClose, takeInjectionBaseline, checkEnableWrite. -/
def Obligations.FrontEnd : Prop :=
  (∀ (s : State) (j : Fin 16) (iS iH vS vL : ChanPair), s.stringUp = true → s.runs = true →
    Answers (.loopSamplePush j iS iH vS vL) s fun t => ∃ b, (t.lane 13).elems.getLast? = some (.bytes b) ∧ b.length = 16
      ∧ b.take 3 = leBytes 3 (toFraction (scaled s 0 (windowValue s 0 s.frameNo (minR 1 ((j.val : Rat) / 8)) iS).1))
      ∧ b.getD 12 0#8 = BitVec.ofNat 8 j ∧ b.drop 14 = leBytes 2 (s.frameNo : Int))
  ∧ (∀ (s : State) (iS iH vS vL : ChanWindows), s.stringUp = true →
    Answers (.frontEndFrameValues iS iH vS vL) s fun t => t.cells.feFrame = (s.frameNo + 4294967295) % 4294967296
      ∧ (s.runs = false → t.lane 14 = s.lane 14)
      ∧ (s.runs = true → ∃ b, (t.lane 14).elems.getLast? = some (.bytes b) ∧ b.take 4 = leBytes 4 (((s.frameNo + 4294967295) % 4294967296 : Nat) : Int))
      ∧ (∃ b, (t.lane 15).elems.getLast? = some (.bytes b) ∧ b.take 4 = leBytes 4 (((s.frameNo + 4294967295) % 4294967296 : Nat) : Int)))
  ∧ (∀ (s : State) (iS iH vS vL : ChanWindows), s.stringUp = true → (s.chan 2).on = 0 → (s.chan 2).a.bad = false →
    crossing (s.chan 2) 2 ((s.frameNo + 4294967295) % 4294967296) = false →
    Answers (.frontEndFrameValues iS iH vS vL) s fun t =>
      t.obj 0x3430 3 = f32Word (engValue s 2 (meanR ((vS.a.map (calibrated (s.chan 2).a)).map satWindow))))
  ∧ (∀ (s : State) (c : Fin 2), s.hostUp = true → s.pwr.warning = false → entryFails s = false → calReason s (c + 2) = 0 →
    (c = 0 → s.obj 0x3430 13 = 0 → restedMinute s = true) →
    Answers (.dividerCalStart c) s fun t => t.obj (chanIx (c + 2)) 18 = 1 ∧ t.host.lastErr = errOk
      ∧ (t.cells.cals.find? (fun p => p.1 == c.val + 2)).isSome = true)
  ∧ (∀ (s : State) (c : Fin 2), s.hostUp = true → s.pwr.warning = false → entryFails s = false → calReason s (c + 2) ≠ 0 →
    Answers (.dividerCalStart c) s fun t => t.obj (chanIx (c + 2)) 18 = 3 ∧ t.cells.cals.find? (fun p => p.1 == c.val + 2) = none)
  ∧ (∀ (s : State) (c : Fin 2) (x : DivCal), s.hostUp = true → s.cells.cals.find? (fun p => p.1 == c.val + 2) = some (c.val + 2, x) → x.fail = 0 →
    calFrames s (c + 2) ≤ x.n → x.raw ≠ 0 →
    Answers (.dividerCalComplete c) s fun t => t.obj (chanIx (c + 2)) 12 = f32Word ((x.ref / x.raw - 1) * 1000000)
      ∧ t.obj (chanIx (c + 2)) 18 = 2 ∧ t.cells.cals.find? (fun p => p.1 == c.val + 2) = none)
  ∧ (∀ (s : State) (c : Fin 2) (x : DivCal), s.hostUp = true → s.cells.cals.find? (fun p => p.1 == c.val + 2) = some (c.val + 2, x) → x.fail ≠ 0 →
    Answers (.dividerCalComplete c) s fun t => t.obj (chanIx (c + 2)) 12 = s.obj (chanIx (c + 2)) 12 ∧ t.obj (chanIx (c + 2)) 18 = 3)
  ∧ (∀ (s : State) (c : Fin 2), s.hostUp = true → s.pwr.warning = false → entryFails s = false →
    Answers (.acceptProposedTrim c) s fun t => c.val + 2 ∈ t.cells.accept ∧ t.host.lastErr = errOk)
  ∧ (∀ (s : State) (c : Fin 2), s.cells.accept = [c.val + 2] →
    (trimBoundary s).obj (chanIx (c + 2)) 12 = s.obj (chanIx (c + 2)) 16 ∧ (trimBoundary s).cells.accept = [])
  ∧ (∀ (s : State) (k : Fin 8), s.hostUp = true → s.runs = true → k.val < 5 → s.objB (0x3461 + k) 6 = true → 4096 ≤ (s.check (k + 1)).n →
    Answers (.xcheckWindowClose k) s fun t =>
      t.obj (0x3461 + k) 1 = f32Word ((s.check (k + 1)).sum / ((s.check (k + 1)).n : Rat))
      ∧ t.obj (0x3461 + k) 2 = f32Word ((s.check (k + 1)).soft / ((s.check (k + 1)).n : Rat))
      ∧ ((s.check (k + 1)).soft / ((s.check (k + 1)).n : Rat) < absR ((s.check (k + 1)).sum / ((s.check (k + 1)).n : Rat)) →
          2 ≤ t.obj (0x3461 + k) 3)
      ∧ (absR ((s.check (k + 1)).sum / ((s.check (k + 1)).n : Rat)) ≤ (s.check (k + 1)).soft / ((s.check (k + 1)).n : Rat) →
          s.obj (0x3461 + k) 3 < 2 → t.obj (0x3461 + k) 3 = 1))
  ∧ (∀ (s : State) (k : Fin 8), s.hostUp = true → (s.runs = false ∨ s.objB (0x3461 + k) 6 = false ∨ (k.val < 5 ∧ (s.check (k + 1)).n < 4096)) →
    exec (.xcheckWindowClose k) s = .next s)
  ∧ (∀ (s : State) (k : Fin 8), s.hostUp = true → s.runs = true → 5 ≤ k.val → s.objB (0x3461 + k) 6 = true → s.obj 0x5400 17 = 2 →
    Answers (.xcheckWindowClose k) s fun t => (runRatio s (k + 1) = none → t = s)
      ∧ ((runRatio s (k + 1)).isSome = true → wantsBase s (k + 1) = true →
          ∀ m ∈ [6, 7, 8], t.obj (0x3460 + m) 5 = (match (if wantsBase s m then runRatio s m else none) with
            | some q => f32Word q
            | none => s.obj (0x3460 + m) 5)
            ∧ (m ∈ t.cells.baseReq ↔ m ∈ s.cells.baseReq ∧ runRatio s m = none))
      ∧ (∀ q, runRatio s (k + 1) = some q → wantsBase s (k + 1) = false →
          t.obj (0x3461 + k) 1 = f32Word (q / s.objF (0x3461 + k) 5 - 1)))
  ∧ (∀ s : State, s.hostUp = true → s.pwr.warning = false → entryFails s = false →
    Answers .takeInjectionBaseline s fun t => t.cells.baseReq = [6, 7, 8] ∧ t.host.lastErr = errOk)
  ∧ (∀ (s : State) (k : Fin 8), s.hostUp = true → (k = 0 ∨ k = 2) →
    Answers (.checkEnableWrite k) s fun t => t.host.lastErr = errAccess ∧ t.obj (0x3461 + k) 6 = s.obj (0x3461 + k) 6 ∧ t.cells = s.cells)
  ∧ (∀ (s : State) (k : Fin 8), s.hostUp = true → s.pwr.warning = false → entryFails s = false → k ≠ 0 → k ≠ 2 →
    writtenVal s (0x3461 + k) 6 ≠ 1 →
    Answers (.checkEnableWrite k) s fun t => t.host.lastErr = errOk ∧ t.obj (0x3461 + k) 6 = 0 ∧ t.obj (0x3461 + k) 3 = 0)
  ∧ (∀ (s : State) (k : Fin 8), s.hostUp = true → s.pwr.warning = false → entryFails s = false → k ≠ 0 → k ≠ 2 → writtenVal s (0x3461 + k) 6 = 1 →
    Answers (.checkEnableWrite k) s fun t => t.host.lastErr = errOk ∧ t.obj (0x3461 + k) 6 = 1)
  ∧ (∀ (s : State) (j : Fin 16) (iS iH vS vL : ChanPair), s.runs = false → exec (.loopSamplePush j iS iH vS vL) s = .next s)

/-! ### Cells -/

/-- Orders and windows of the cells, with the host domain running. A cycle outside Park, of the interval or written (OK), is due on all taps of a slot in
use, and waits as a whole while a test on demand of some unit is pending; in Park it changes nothing. A result of a slot that is ready gives its test
number and leaves no tap open; one not ready changes nothing. A rest window is scheduled (state 2, 0x4012:7 = 1, for the cells starved) or declined
(state 3, 0x4012:1 = 0) with OK while one is requested; scheduling is STATE otherwise. At the end of the decline the request ends where no cell is
starved and stands again (0x4012:1 = 1) where one is. A scheduled window ends with result 2 where every cell was served and 3 else, and is requested
again while cells are starved. An OCV table that fails a check is answered RANGE, status 2, and nothing is taken; one that passes waits for the
boundary, which puts it in force with status 1. An alignment is taken with OK while the string current is below the rest limit, else STATE; at the
boundary the dispatch SoC of every cell with an estimate is its z, z as before. A fit due takes its step away and leaves the objects; without a step
nothing changes. Rests on R128, R130, R145, R147, R158 and R165. Next states stated: openWireCycle, openWireTestNow, openWireResult,
restWindowSchedule, restWindowDecline, restWindowDeclineExpiry, restWindowEnd, ocvTableLoad, alignDispatch, rcFit. -/
def Obligations.CellCommands : Prop :=
  (∀ (s : State) (k : Fin 40), s.hostUp = true → s.profile ≠ 3 → slotUsed s k = true →
    Answers .openWireCycle s fun t => (demandPending s = false → (t.wire k).due = allTaps s k ∧ t.cells.owtLater = false)
      ∧ (demandPending s = true → t.wire k = s.wire k ∧ t.cells.owtLater = true))
  ∧ (∀ s : State, s.hostUp = true → s.profile = 3 → exec .openWireCycle s = .next s)
  ∧ (∀ (s : State) (k : Fin 40), s.hostUp = true → s.profile ≠ 3 → slotUsed s k = true →
    Answers .openWireTestNow s fun t => t.host.lastErr = errOk
      ∧ (demandPending s = false → (t.wire k).due = allTaps s k) ∧ (demandPending s = true → t.wire k = s.wire k ∧ t.cells.owtLater = true))
  ∧ (∀ (s : State) (k : Fin 40) (b c : Nat), s.hostUp = true → resultReady s k = some (b, c) →
    Answers (.openWireResult k) s fun t => (t.wire k).count = c ∧ (t.wire k).taps = 0)
  ∧ (∀ (s : State) (k : Fin 40), s.hostUp = true → resultReady s k = none → exec (.openWireResult k) s = .next s)
  ∧ (∀ s : State, s.hostUp = true → s.cells.window = 1 →
    Answers .restWindowSchedule s fun t => t.cells.window = 2 ∧ t.obj 0x4012 7 = 1 ∧ t.cells.windowLeft = starvedCells s ∧ t.host.lastErr = errOk)
  ∧ (∀ s : State, s.hostUp = true → s.cells.window ≠ 1 →
    Answers .restWindowSchedule s fun t => t.cells = s.cells ∧ t.host.lastErr = errState)
  ∧ (∀ s : State, s.hostUp = true → s.cells.window = 1 →
    Answers .restWindowDecline s fun t => t.cells.window = 3 ∧ t.obj 0x4012 1 = 0 ∧ t.host.lastErr = errOk)
  ∧ (∀ s : State, s.hostUp = true → s.cells.window = 3 →
    Answers .restWindowDeclineExpiry s fun t => (starvedCells s = [] → t.cells.window = 0)
      ∧ (starvedCells s ≠ [] → t.cells.window = 1 ∧ t.obj 0x4012 1 = 1))
  ∧ (∀ s : State, s.hostUp = true → s.cells.window = 2 →
    Answers .restWindowEnd s fun t => t.obj 0x4012 7 = (if s.cells.windowLeft = [] then 2 else 3)
      ∧ t.cells.window = if starvedCells s = [] then 0 else 1)
  ∧ (∀ (s : State) (k : Fin 4) (l : List Byte) (n : Nat), s.hostUp = true → ocvBad l = some n →
    Answers (.ocvTableLoad k l) s fun t => t.obj (0x4020 + k) 2 = 2 ∧ t.doms = s.doms ∧ t.cells = s.cells ∧ t.host.lastErr = errRange)
  ∧ (∀ (s : State) (k : Fin 4) (l : List Byte), s.hostUp = true → ocvBad l = none →
    Answers (.ocvTableLoad k l) s fun t => (k.val, l) ∈ t.cells.tablesDue ∧ t.doms = s.doms ∧ t.host.lastErr = errOk)
  ∧ (∀ (s : State) (k : Fin 4) (l : List Byte), s.cells.tablesDue = [(k.val, l)] →
    (tableBoundary s).dom (0x4020 + k) 1 = l ∧ (tableBoundary s).obj (0x4020 + k) 2 = 1 ∧ (tableBoundary s).cells.tablesDue = [])
  ∧ (∀ s : State, s.hostUp = true → absR (srcCurrent s) < restAmps s →
    Answers .alignDispatch s fun t => t.cells.align = true ∧ t.host.lastErr = errOk)
  ∧ (∀ s : State, s.hostUp = true → restAmps s ≤ absR (srcCurrent s) →
    Answers .alignDispatch s fun t => t.cells = s.cells ∧ t.host.lastErr = errState)
  ∧ (∀ s : State, s.cells.align = true → (alignBoundary s).cells.align = false
      ∧ ∀ n, 1 ≤ n → n ≤ s.cellCount → (s.cell n).est = true → ((alignBoundary s).cell n).zd = (s.cell n).z ∧ ((alignBoundary s).cell n).z = (s.cell n).z)
  ∧ (∀ (s : State) (c : Nat) (a b : Rat), s.hostUp = true → s.cells.step = some (c, a, b) → stepsAllowed s = true → s.runs = true →
    s.obj 0x4060 2 * 1000000000 ≤ elapsedNs s.clk c s.clk.c → Answers .rcFit s fun t => t.cells.step = none ∧ t.objs = s.objs)
  ∧ (∀ s : State, s.hostUp = true → s.cells.step = none → exec .rcFit s = .next s)

/-- The cells' memory, with the host domain running. A state block without a power-fail warning counts a commit and stands beside the newest block, with
format 0x5B01 and the next sequence number, 1 where there was none; under a warning nothing changes. The slice due goes last into lane 43 while that
holds fewer than 16 elements, else it is skipped with 0x0605, and the next one is due either way. A record reset of a cell position in use or of all
(65535) is answered OK and waits for the seal; any other is RANGE and changes neither. A commit takes its element from lane 43, where one held back
may enter: a slice counts, shows its number in 0x4420:1 and is the last stored, a capacity is the last stored of its position with format 0xCA01; a
slice whose commit fails leaves the cells, counts in 0x2080:4 and writes 0x0F0E; with nothing to commit nothing changes. With balancing on, a cell
that is not eligible has bleed-to-go and stored bleed 0 and no imbalance after the targets are formed; in mode 0 nothing changes. RWS writes take
effect here with no power-fail warning and their log entry committed. Rests on R151, R174 to R179, R181 to R183 and R442. Next states stated:
stateBlockWrite, recordCheckpoint, recordResetWrite, nvCommit, balanceTargets. -/
def Obligations.CellMemory : Prop :=
  (∀ s : State, s.hostUp = true → s.pwr.warning = false →
    Answers .stateBlockWrite s fun t => t.obj 0x2080 1 = countUp 32 (s.obj 0x2080 1)
      ∧ ∃ b, t.cells.blocks = (newestBlock s).toList ++ [b] ∧ b.origin = 1 ∧ b.bytes.take 2 = leBytes 2 0x5B01
        ∧ b.seq = match newestBlock s with | some p => (p.seq + 1) % 4294967296 | none => 1)
  ∧ (∀ s : State, s.hostUp = true → s.pwr.warning = true → exec .stateBlockWrite s = .next s)
  ∧ (∀ s : State, s.hostUp = true → (s.lane 43).elems.length < 16 →
    Answers .recordCheckpoint s fun t => t.cells.nextSlice = (s.cells.nextSlice + 1) % 16
      ∧ (t.lane 43).elems = (s.lane 43).elems ++ [.nums [7, s.cells.nextSlice]])
  ∧ (∀ s : State, s.hostUp = true → 16 ≤ (s.lane 43).elems.length →
    Answers .recordCheckpoint s fun t => t.cells.nextSlice = (s.cells.nextSlice + 1) % 16 ∧ t.lane 43 = s.lane 43
      ∧ Writes 0x0605 [d32 s.cells.nextSlice] s t)
  ∧ (∀ (s : State) (v : BitVec 16), s.hostUp = true → s.pwr.warning = false → entryFails s = false → ((1 ≤ v.toNat ∧ v.toNat ≤ s.cellCount) ∨ v.toNat = 65535) →
    Answers (.recordResetWrite v) s fun t => t.cells.resetDue = s.cells.resetDue ++ [v.toNat] ∧ t.obj 0x4410 0 = v.toNat ∧ t.host.lastErr = errOk)
  ∧ (∀ (s : State) (v : BitVec 16), s.hostUp = true → ¬ ((1 ≤ v.toNat ∧ v.toNat ≤ s.cellCount) ∨ v.toNat = 65535) →
    Answers (.recordResetWrite v) s fun t => t.cells = s.cells ∧ t.obj 0x4410 0 = s.obj 0x4410 0 ∧ t.host.lastErr = errRange)
  ∧ (∀ (s : State) (k : Nat) (l : List Elem), s.hostUp = true → takeCommit s (s.lane 43).elems = some (.nums [7, k], l) →
    Answers (.nvCommit true) s fun t => (t.lane 43).elems = l ++ (s.lane 43).waiting.take 1 ∧ t.obj 0x4420 1 = k
      ∧ t.obj 0x2080 1 = countUp 32 (s.obj 0x2080 1) ∧ ∃ c, t.cells.slices.getLast? = some c ∧ c.slice = k)
  ∧ (∀ (s : State) (n : Nat) (l : List Elem), s.hostUp = true → takeCommit s (s.lane 43).elems = some (.nums [6, n], l) →
    Answers (.nvCommit true) s fun t => (t.lane 43).elems = l ++ (s.lane 43).waiting.take 1
      ∧ ∃ c, t.cells.caps.getLast? = some c ∧ c.pos = n ∧ c.bytes.take 2 = leBytes 2 0xCA01)
  ∧ (∀ (s : State) (k : Nat) (l : List Elem), s.hostUp = true → takeCommit s (s.lane 43).elems = some (.nums [7, k], l) →
    Answers (.nvCommit false) s fun t => t.cells = s.cells ∧ t.obj 0x2080 4 = countUp 32 (s.obj 0x2080 4) ∧ Writes 0x0F0E [d32 7, d32 k] s t)
  ∧ (∀ (s : State) (rb : Bool), s.hostUp = true → takeCommit s (s.lane 43).elems = none → exec (.nvCommit rb) s = .next s)
  ∧ (∀ (s : State) (n : Nat), s.hostUp = true → s.obj 0x4600 1 ≠ 0 → 1 ≤ n → n ≤ s.cellCount → eligible s n = false →
    Answers .balanceTargets s fun t => t.obj 0x4610 n = 0 ∧ t.obj 0x4613 n = 0 ∧ (t.cell n).imbalance = false)
  ∧ (∀ s : State, s.hostUp = true → s.obj 0x4600 1 = 0 → exec .balanceTargets s = .next s)

/-! ### Avenue -/

/-- The loops of Avenue; on an OFFLINE card no slot of Avenue or Sliproad does anything. On any other, with the string domain running, a slot whose
lane-13 element is there empties lane 13, is the slot noted for this frame and puts one command element of its slot last into lane 5, its repeat mark
that of the converter link; a slot without the element is late: counted in 0x5000:4, the link marked late, and its command element has the repeat
mark; the late deadline does the same count and mark. An evaluated loop's error is the saturated difference of set-point and feedback, and its output
lies within its effective limits where those are in order. A loop its detector froze (2) or stopped (3), not about to be released, holds its output
within the limits, or takes its safe output, and shows that in :20. With the host domain running: a commit that is refused is CONFIG and leaves the
loops; any other is OK, and waits for the loop's sample, or is held where the detector acts, a commit with states kept (1) then marking the conflict;
likewise a commit with output tracking (2). A flags write clears the bits written as 1 of a loop's or a section's flags, with OK. The fallback of a
loop whose set-point and feedback have each been invalid for its count of samples stands for both, the objects as they are. An acknowledgement of a
detector that acts lets the loop go, with output tracking, the held commit pending and :8 = 0, with OK; without an action it is STATE and changes
nothing of Avenue. Rests on R190, R192, R198, R199, R203, R205, R212 and R213. Next states stated: loopSample, avenueSlotLate, coeffCommitKeep,
coeffCommitTrack, loopFlagsWrite, sectionFlagsWrite, fallbackHoldExpiry, detectorAcknowledge. -/
def Obligations.LoopRules : Prop :=
  (∀ (s : State) (j : Fin 16), s.stringUp = true → s.runs = true → (slotElem s (s.lane 13).elems 12 j).isSome = true →
    Answers (.loopSample j) s fun t => (t.lane 13).elems = [] ∧ t.av.slot = (s.frameNo, j.val)
      ∧ ∃ a b c, (t.lane 5).elems.getLast? = some (.nums [a, b, c, j, if t.av.conv.late = true then 1 else 0]))
  ∧ (∀ (s : State) (j : Fin 16), s.stringUp = true → s.runs = true → slotElem s (s.lane 13).elems 12 j = none →
    Answers (.loopSample j) s fun t => t.obj 0x5000 4 = countUp 32 (s.obj 0x5000 4) ∧ t.av.conv.late = true
      ∧ ∃ a b c, (t.lane 5).elems.getLast? = some (.nums [a, b, c, j, 1]))
  ∧ (∀ (s : State) (j : Fin 16), s.stringUp = true → s.runs = true → slotElem s (s.lane 13).elems 12 j = none →
    Answers (.avenueSlotLate j) s fun t => t.obj 0x5000 4 = countUp 32 (s.obj 0x5000 4) ∧ t.av.conv.late = true)
  ∧ (∀ (s : State) (j : Fin 16), s.runs = false →
    exec (.loopSample j) s = .next s ∧ exec (.avenueSlotLate j) s = .next s ∧ exec (.sliproadUpdate j) s = .next s)
  ∧ (∀ (s : State) (l : Fin 16) (j : Nat) (r f st lo hi : Int), lo = (toLoopFrac (loopLimits s l).1 (uScale s l)).1 →
    hi = (toLoopFrac (loopLimits s l).2 (uScale s l)).1 → lo ≤ hi →
    ((runLoop s l j r f st).loop l).x = (sat24 (r - f)).1 ∧ lo ≤ ((runLoop s l j r f st).loop l).y ∧ ((runLoop s l j r f st).loop l).y ≤ hi)
  ∧ (∀ (s : State) (l : Fin 16) (j : Nat), (s.loop l).det.next ≠ 1 → (s.loop l).det.hold = 3 →
    ((evalLoop j s l).loop l).y = safeFrac s l ∧ (evalLoop j s l).obj (loopIx l) 20 = 3)
  ∧ (∀ (s : State) (l : Fin 16) (j : Nat), (s.loop l).det.next ≠ 1 → (s.loop l).det.hold = 2 →
    ((evalLoop j s l).loop l).y = (clampOutput s l (s.loop l).y).1 ∧ (evalLoop j s l).obj (loopIx l) 20 = 2)
  ∧ (∀ (s : State) (l : Fin 16), s.hostUp = true → commitRefused s l = true →
    Answers (.coeffCommitKeep l) s fun t => t.av.loops = s.av.loops ∧ t.host.lastErr = errConfig)
  ∧ (∀ (s : State) (l : Fin 16), s.hostUp = true → commitRefused s l = false →
    Answers (.coeffCommitKeep l) s fun t => t.host.lastErr = errOk ∧ ((s.loop l).det.hold = 0 → (t.loop l).commit = 1)
      ∧ ((s.loop l).det.hold ≠ 0 → (t.loop l).held = 1 ∧ (t.loop l).conflict = true ∧ (t.loop l).commit = (s.loop l).commit))
  ∧ (∀ (s : State) (l : Fin 16), s.hostUp = true → commitRefused s l = false →
    Answers (.coeffCommitTrack l) s fun t => t.host.lastErr = errOk ∧ ((s.loop l).det.hold = 0 → (t.loop l).commit = 2)
      ∧ ((s.loop l).det.hold ≠ 0 → (t.loop l).held = 2))
  ∧ (∀ (s : State) (l : Fin 16) (v : BitVec 16), s.hostUp = true →
    Answers (.loopFlagsWrite l v) s fun t => t.obj (0x5100 + l) 19 = clearBits (s.obj (0x5100 + l) 19) v.toNat ∧ t.host.lastErr = errOk)
  ∧ (∀ (s : State) (q : Fin 96) (v : BitVec 8), s.hostUp = true →
    Answers (.sectionFlagsWrite q v) s fun t => t.obj (0x5200 + q) 13 = clearBits (s.obj (0x5200 + q) 13) v.toNat ∧ t.host.lastErr = errOk)
  ∧ (∀ (s : State) (l : Fin 16), s.stringUp = true → s.objN (0x5100 + l) 16 ≤ (s.loop l).bad.1 → s.objN (0x5100 + l) 16 ≤ (s.loop l).bad.2 →
    Answers (.fallbackHoldExpiry l) s fun t => (t.loop l).fall = (true, true) ∧ t.objs = s.objs)
  ∧ (∀ (s : State) (l : Fin 16), s.hostUp = true → (s.loop l).det.hold ≠ 0 →
    Answers (.detectorAcknowledge l) s fun t => (t.loop l).det.hold = 0 ∧ (t.loop l).track = true ∧ (t.loop l).commit = (s.loop l).held
      ∧ (t.loop l).held = 0 ∧ t.obj (0x5480 + l) 8 = 0 ∧ t.host.lastErr = errOk)
  ∧ (∀ (s : State) (l : Fin 16), s.hostUp = true → (s.loop l).det.hold = 0 →
    Answers (.detectorAcknowledge l) s fun t => t.av = s.av ∧ t.host.lastErr = errState)

/-- Set-point inputs, injection and capture. With the string domain running: a sample of an input gives its scaled value, its status and the element of
its lane. In the pulse modes 3 and 4 a rising edge counts, is the newest rise and ends a timeout, a falling one is noted and changes no object, and
without a rise within 0x5010+i:5 the timeout gives status 8; in other modes an edge changes nothing. With the host domain running: an injection
started in Service, with none running, within its bounds, runs (0x5400:17 = 2, OK, no end); beyond them :17 = 3 and RANGE; in another profile, or with
one running, STATE and nothing of Avenue changes. A stop of one waiting or running gives :17 = 4 with OK. With the string domain running: a scheduled
start that is due, with none running and its duration not over, runs in Metrology and Service within the bounds from its scheduled time, and in other
profiles gives :17 = 3; not scheduled or not yet due nothing changes. A duration that is over ends the injection, :17 = 1 where a start is ahead and 0
where none is, and that start as it was. Arming a capture clears it (:8 = 1, OK), but is STATE while a snapshot is held or taken; disarming one armed
or triggered clears it; a host trigger of one armed for it starts the post-trigger, the rows kept; with the post-trigger complete the record is in
0x5442:0 (:8 = 3); a snapshot complete likewise with :8 = 5, until its release gives 0. Rests on R207 to R209 and R214 to R219. Next states stated:
setpointInputSample, setpointPulseEdge, setpointPulseTimeout, injectionStartNow, injectionStop, injectionScheduleStart, injectionDurationEnd,
captureArm, captureDisarm, captureTrigger, captureComplete, snapshotRelease. -/
def Obligations.SignalCommands : Prop :=
  (∀ (s : State) (i : Fin 2) (j : Fin 16) (raw : BitVec 32), s.stringUp = true →
    Answers (.setpointInputSample i j raw) s fun t =>
      t.obj (0x5010 + i) 7 = f32Word (s.objF (0x5010 + i) 3 + s.objF (0x5010 + i) 2 * (inputRaw s i j (f32Value raw.toNat)).1)
      ∧ t.obj (0x5010 + i) 9 = (inputRaw s i j (f32Value raw.toNat)).2
      ∧ (t.lane (18 + i)).elems.getLast? = some (.bytes (leBytes 4 (t.obj (0x5010 + i) 7)
          ++ [BitVec.ofNat 8 (inputRaw s i j (f32Value raw.toNat)).2, BitVec.ofNat 8 j] ++ leBytes 2 (s.frameNo : Int))))
  ∧ (∀ (s : State) (i : Fin 2) (c : BitVec 64), s.stringUp = true → (s.obj (0x5010 + i) 1 = 3 ∨ s.obj (0x5010 + i) 1 = 4) →
    Answers (.setpointPulseEdge i true c) s fun t => t.obj (0x5010 + i) 10 = (s.obj (0x5010 + i) 10 + 1) % 4294967296
      ∧ (t.input i).rises.head? = some c.toNat ∧ (t.input i).timedOut = false)
  ∧ (∀ (s : State) (i : Fin 2) (c : BitVec 64), s.stringUp = true → (s.obj (0x5010 + i) 1 = 3 ∨ s.obj (0x5010 + i) 1 = 4) →
    Answers (.setpointPulseEdge i false c) s fun t => t.objs = s.objs ∧ (t.input i).fell = some c.toNat)
  ∧ (∀ (s : State) (i : Fin 2) (b : Bool) (c : BitVec 64), s.stringUp = true → s.obj (0x5010 + i) 1 ≠ 3 → s.obj (0x5010 + i) 1 ≠ 4 →
    exec (.setpointPulseEdge i b c) s = .next s)
  ∧ (∀ (s : State) (i : Fin 2), s.stringUp = true → (s.obj (0x5010 + i) 1 = 3 ∨ s.obj (0x5010 + i) 1 = 4) →
    (∀ r, (s.input i).rises.head? = some r → s.obj (0x5010 + i) 5 * 1000000 ≤ elapsedNs s.clk r s.clk.c) →
    Answers (.setpointPulseTimeout i) s fun t => t.obj (0x5010 + i) 9 = 8 ∧ (t.input i).timedOut = true)
  ∧ (∀ s : State, s.hostUp = true → s.profile = 5 → injRuns s = false → injBounds s (injMode s) (injTarget s) = true →
    Answers .injectionStartNow s fun t => t.obj 0x5400 17 = 2 ∧ t.av.inj.startNs = none ∧ t.av.inj.survey = false ∧ t.host.lastErr = errOk)
  ∧ (∀ s : State, s.hostUp = true → s.profile = 5 → injRuns s = false → injBounds s (injMode s) (injTarget s) = false →
    Answers .injectionStartNow s fun t => t.obj 0x5400 17 = 3 ∧ t.av.inj = s.av.inj ∧ t.host.lastErr = errRange)
  ∧ (∀ s : State, s.hostUp = true → (s.profile ≠ 5 ∨ injRuns s = true) →
    Answers .injectionStartNow s fun t => t.obj 0x5400 17 = s.obj 0x5400 17 ∧ t.av = s.av ∧ t.host.lastErr = errState)
  ∧ (∀ s : State, s.hostUp = true → (s.obj 0x5400 17 = 1 ∨ s.obj 0x5400 17 = 2) →
    Answers .injectionStop s fun t => t.obj 0x5400 17 = 4 ∧ t.av.inj.startNs = none ∧ t.host.lastErr = errOk)
  ∧ (∀ s : State, s.stringUp = true → s.av.inj.sched = true → injRuns s = false → s.av.inj.dueNs ≤ s.now / 65536 →
    s.now / 65536 < s.av.inj.dueNs + s.obj 0x5400 13 * 1000000000 → (s.profile = 0 ∨ s.profile = 5) → injBounds s (injMode s) (injTarget s) = true →
    Answers .injectionScheduleStart s fun t => t.obj 0x5400 17 = 2 ∧ t.av.inj.startNs = some s.av.inj.dueNs)
  ∧ (∀ s : State, s.stringUp = true → s.av.inj.sched = true → injRuns s = false → s.av.inj.dueNs ≤ s.now / 65536 →
    s.now / 65536 < s.av.inj.dueNs + s.obj 0x5400 13 * 1000000000 → s.profile ≠ 0 → s.profile ≠ 5 →
    Answers .injectionScheduleStart s fun t => t.obj 0x5400 17 = 3 ∧ t.av.inj.startNs = s.av.inj.startNs)
  ∧ (∀ s : State, s.stringUp = true → (s.av.inj.sched = false ∨ s.now / 65536 < s.av.inj.dueNs) → exec .injectionScheduleStart s = .next s)
  ∧ (∀ (s : State) (t0 : Int), s.stringUp = true → s.av.inj.startNs = some t0 → injRuns s = true → s.av.inj.survey = false →
    t0 + s.obj 0x5400 13 * 1000000000 ≤ s.now / 65536 →
    Answers .injectionDurationEnd s fun t => t.av.inj.startNs = none
      ∧ t.obj 0x5400 17 = (if s.av.inj.sched = true then 1 else 0) ∧ t.av.inj.dueNs = s.av.inj.dueNs)
  ∧ (∀ s : State, s.hostUp = true → s.obj 0x5440 8 ≠ 5 → s.av.snap = none →
    Answers .captureArm s fun t => t.obj 0x5440 8 = 1 ∧ t.av.cap = {} ∧ t.dom 0x5442 0 = [] ∧ t.host.lastErr = errOk)
  ∧ (∀ s : State, s.hostUp = true → (s.obj 0x5440 8 = 5 ∨ s.av.snap.isSome = true) →
    Answers .captureArm s fun t => t.obj 0x5440 8 = s.obj 0x5440 8 ∧ t.av = s.av ∧ t.host.lastErr = errState)
  ∧ (∀ s : State, s.hostUp = true → (s.obj 0x5440 8 = 1 ∨ s.obj 0x5440 8 = 2) →
    Answers .captureDisarm s fun t => t.obj 0x5440 8 = 0 ∧ t.av.cap = {} ∧ t.host.lastErr = errOk)
  ∧ (∀ s : State, s.hostUp = true → s.obj 0x5440 8 = 1 → s.obj 0x5440 4 = 0 →
    Answers .captureTrigger s fun t => t.obj 0x5440 8 = 2 ∧ t.av.cap.after = some 0 ∧ t.av.cap.rows = s.av.cap.rows ∧ t.host.lastErr = errOk)
  ∧ (∀ s : State, s.stringUp = true → s.av.snap = none → s.obj 0x5440 8 = 2 → s.av.cap.after = some ((captureLen s).1 - (captureLen s).2) →
    Answers .captureComplete s fun t => t.obj 0x5440 8 = 3 ∧ t.dom 0x5442 0 = captureRecord s.av.cap (captureSels s) (captureRate s) ∧ t.av.cap = {})
  ∧ (∀ (s : State) (c : Capture), s.stringUp = true → s.av.snap = some c → c.after = some snapshotPost →
    Answers .captureComplete s fun t => t.obj 0x5440 8 = 5 ∧ t.dom 0x5442 0 = captureRecord c (snapshotSels s) 8 ∧ t.av.snap = none)
  ∧ (∀ s : State, s.hostUp = true → s.obj 0x5440 8 = 5 → Answers .snapshotRelease s fun t => t.obj 0x5440 8 = 0 ∧ t.host.lastErr = errOk)

/-- The converter link, with the string domain running. At a slot, a card that drives and whose epoch is not due sends one command frame with the fields
of the slot's element of lane 5, which is then empty, and awaits its answer: its set-point is that of the element, zero in Park, and held within the
effective limits in Guarded; a card that does not drive sends nothing and awaits it as well. A response of a wrong length or CRC counts in 0x5600:12
and nothing else changes. A good one that answers a command of its slot and frame gives status, fault code and epoch, ends the run of missing ones,
counts as good and gives the current as a fraction; the eighth good one in succession brings a link that is down up. An answer that does not come ends
the run of good ones, counts as missing and in 0x5600:13, and takes a link that is up down once 0x5600:6 are missing in succession; below that
0x5600:7 stays; where no answer is awaited nothing changes. Rests on R220 to R225. Next states stated: converterCommandSend, converterResponse,
converterResponseMissing. -/
def Obligations.ConverterLink : Prop :=
  (∀ (s : State) (j : Fin 16) (sp ch di rep : Int) (l : List Elem), s.stringUp = true → s.drives = true → s.av.conv.epochDue = false →
    (s.lane 5).elems = l ++ [.nums [sp, ch, di, j, rep]] →
    Answers (.converterCommandSend j) s fun t => t.sent = s.sent ++ [⟨17, commandFrame s j (heldSetpoint s sp, ch, di, decide (rep = 1))⟩] ∧ (t.lane 5).elems = []
      ∧ t.av.conv.sent = s.av.conv.sent ++ [(s.frameNo, j.val)])
  ∧ (∀ (s : State) (j : Fin 16), s.stringUp = true → s.drives = false →
    Answers (.converterCommandSend j) s fun t => t.sent = s.sent ∧ t.av.conv.sent = s.av.conv.sent ++ [(s.frameNo, j.val)])
  ∧ (∀ (s : State) (b : List Byte), s.stringUp = true → (b.length ≠ 24 ∨ crc32c (b.take 20) ≠ getLe b 20 4) →
    exec (.converterResponse b) s = .next (s.bump 0x5600 12))
  ∧ (∀ (s : State) (b : List Byte), s.stringUp = true → b.length = 24 → crc32c (b.take 20) = getLe b 20 4 → getLe b 0 1 = 0x52 →
    s.av.conv.sent.any (fun p => p.2 == getLe b 1 1 % 8 && p.1 % 65536 == getLe b 16 2) = true →
    Answers (.converterResponse b) s fun t => t.obj 0x5600 10 = getLe b 1 1 ∧ t.obj 0x5600 11 = getLe b 15 1 ∧ t.obj 0x5620 2 = getLe b 2 4
      ∧ t.av.conv.missing = 0 ∧ t.av.conv.good = s.av.conv.good + 1
      ∧ t.av.conv.frac = some (toLoopFrac ((toS 32 (getLe b 6 4) : Rat) / 1000) (s.objF 0x5600 15)).1
      ∧ (s.obj 0x5600 7 = 0 → 7 ≤ s.av.conv.good → t.obj 0x5600 7 = 1))
  ∧ (∀ (s : State) (j : Fin 16) (q : Nat × Nat), s.stringUp = true → s.av.conv.sent.find? (fun p => p.2 == j.val) = some q →
    Answers (.converterResponseMissing j) s fun t => t.av.conv.missing = s.av.conv.missing + 1 ∧ t.av.conv.good = 0
      ∧ t.obj 0x5600 13 = countUp 32 (s.obj 0x5600 13)
      ∧ (s.obj 0x5600 7 = 1 → s.objN 0x5600 6 ≤ s.av.conv.missing + 1 → t.obj 0x5600 7 = 0)
      ∧ (s.av.conv.missing + 1 < s.objN 0x5600 6 → t.obj 0x5600 7 = s.obj 0x5600 7))
  ∧ (∀ (s : State) (j : Fin 16), s.stringUp = true → s.av.conv.sent.find? (fun p => p.2 == j.val) = none →
    exec (.converterResponseMissing j) s = .next s)
  ∧ (∀ (s : State) (v : Int), (s.profile = 3 → heldSetpoint s v = 0) ∧ (s.profile ≠ 3 → s.profile ≠ 4 → heldSetpoint s v = v)
      ∧ (s.profile = 4 → -(floorR (effLimit s false * 1000)) ≤ floorR (effLimit s true * 1000) →
          -(floorR (effLimit s false * 1000)) ≤ heldSetpoint s v ∧ heldSetpoint s v ≤ floorR (effLimit s true * 1000)))

/-! ### Sliproad and valves -/

/-- The channels of Sliproad. With the string domain running, on a card that is not OFFLINE, an update empties lane 44 and takes the profile in force. A
channel without gearing shows position, speed and target of its plan. A target given to a channel that is not off, of a homed valve, is clamped to its
limits; while a stop or, for P0, an orderly shutdown holds it is stored, so clamped, and the target stays. With the host domain running: a stop of a
channel not stopped keeps the target in force, or one stored since, takes the stop position as the target, ends gearing and is OK; a channel stopped
before is left alone, with OK. The release of a host stop, no orderly shutdown holding the channel, takes the stored target back, with OK; otherwise
it is STATE and changes no channel. Gearing is asked for with OK where the second set-point input is in pulse mode 3 and valid, else STATE and no
channel changes. A disengagement is taken with OK where the channel is geared, and withdraws an engagement where it is not. Rests on R228, R229, R236
and R237. Next states stated: sliproadUpdate, sliproadStop, sliproadStopRelease, gearEngage, gearDisengage. -/
def Obligations.SliproadChannels : Prop :=
  (∀ (s : State) (j : Fin 16), s.stringUp = true → s.runs = true → Answers (.sliproadUpdate j) s fun t => (t.lane 44).elems = [] ∧ t.av.prof = s.profile)
  ∧ (∀ (s : State) (c : Fin 2) (t : Int), (s.slip c).gear = none →
    (slipObjects s c t).obj (0x5820 + c) 1 = f32Word (slipAt (s.slip c) t).1 ∧ (slipObjects s c t).obj (0x5820 + c) 2 = f32Word (slipAt (s.slip c) t).2.1
      ∧ (slipObjects s c t).obj (0x5820 + c) 3 = f32Word (s.slip c).target)
  ∧ (∀ (s : State) (c : Fin 4) (v : Rat) (t : Int), s.obj (0x5810 + c) 1 ≠ 0 → (2 ≤ c.val → s.obj (0x583E + c) 15 = 5) →
    ((s.slip c).stop = 0 → shutHolds s c = false → ((takeTarget s c v t).slip c).target = clampR (s.objF (0x5810 + c) 12) (s.objF (0x5810 + c) 13) v)
      ∧ (((s.slip c).stop ≠ 0 ∨ shutHolds s c = true) → ((takeTarget s c v t).slip c).target = (s.slip c).target
          ∧ ((takeTarget s c v t).slip c).stored = clampR (s.objF (0x5810 + c) 12) (s.objF (0x5810 + c) 13) v))
  ∧ (∀ (s : State) (c : Fin 4), s.hostUp = true → (s.slip c).stop = 0 →
    Answers (.sliproadStop c) s fun t => (t.slip c).stop = 1
      ∧ ((c.val < 2 ∨ s.obj (0x583E + c) 15 = 5) → (t.slip c).stored = if (s.slip c).early then (s.slip c).stored else (s.slip c).target)
      ∧ (t.slip c).target = stopTarget s c
      ∧ (t.slip c).gear = none ∧ t.host.lastErr = errOk)
  ∧ (∀ (s : State) (c : Fin 4), s.hostUp = true → 1 ≤ (s.slip c).stop → Answers (.sliproadStop c) s fun t => t.slips = s.slips ∧ t.host.lastErr = errOk)
  ∧ (∀ (s : State) (c : Fin 4), s.hostUp = true → (s.slip c).stop = 1 → shutHolds s c = false →
    Answers (.sliproadStopRelease c) s fun t => (t.slip c).stop = 0 ∧ (t.slip c).target = (s.slip c).stored ∧ t.host.lastErr = errOk)
  ∧ (∀ (s : State) (c : Fin 4), s.hostUp = true → ((s.slip c).stop ≠ 1 ∨ shutHolds s c = true) →
    Answers (.sliproadStopRelease c) s fun t => t.slips = s.slips ∧ t.host.lastErr = errState)
  ∧ (∀ (s : State) (c : Fin 2), s.hostUp = true → s.obj 0x5011 1 = 3 → bitOf (s.obj 0x5011 9) 0 = true →
    Answers (.gearEngage c) s fun t => (t.slip c).engage = 1 ∧ t.host.lastErr = errOk)
  ∧ (∀ (s : State) (c : Fin 2), s.hostUp = true → (s.obj 0x5011 1 ≠ 3 ∨ bitOf (s.obj 0x5011 9) 0 = false) →
    Answers (.gearEngage c) s fun t => t.slips = s.slips ∧ t.host.lastErr = errState)
  ∧ (∀ (s : State) (c : Fin 2), s.hostUp = true →
    Answers (.gearDisengage c) s fun t => (t.slip c).engage = (if (s.slip c).gear.isSome then 2 else 0) ∧ (t.slip c).gear = (s.slip c).gear
      ∧ t.host.lastErr = errOk)

/-- Valves. With the host domain running: homing of a valve that is UNHOMED or FAILED, without a driver fault and not off, begins with OK, the channel
energised: in BACKOFF where it was UNHOMED with its switch on, else FAST; otherwise it is STATE and channels, valves and state stay. With the string
domain running: an edge of a digital input sets that level and no other. In SLOW the edge that asserts the valve's switch is captured (CAPTURED,
chatter 0): the time is kept, the channel stands and 0x5840+v:16 is its microstep count; on a homed valve that moves it takes the home. Once asserted
for :11 the edge is the home position value: homed, no stop limit, and the position is the present one minus the edge plus :13; without an assertion
or in another state nothing changes. Chatter for :12 fails the homing. With no microstep for :3 the coil holds, staying energised or not as it was;
before that nothing changes. A driver status other than 0 is shown, takes the home, de-energises the channel and stops it; status 0 is shown and
leaves channels and valves. Rests on R242 to R246. Next states stated: homeStart, endSwitchEdge, homeQualified, homeQualifyTimeout,
standstillDelayExpiry, stepperFault. -/
def Obligations.ValveHoming : Prop :=
  (∀ (s : State) (v : Fin 2), s.hostUp = true → (s.obj (0x5840 + v) 15 = 0 ∨ s.obj (0x5840 + v) 15 = 6) → s.obj (0x5840 + v) 19 = 0 →
    s.obj (0x5810 + (v + 2)) 1 ≠ 0 →
    Answers (.homeStart v) s fun t => t.obj (0x5840 + v) 15 = (if s.obj (0x5840 + v) 15 = 0 ∧ switchOn s v = true then 2 else 1)
      ∧ (t.valve v).energised = true ∧ t.host.lastErr = errOk)
  ∧ (∀ (s : State) (v : Fin 2), s.hostUp = true →
    ((s.obj (0x5840 + v) 15 ≠ 0 ∧ s.obj (0x5840 + v) 15 ≠ 6) ∨ s.obj (0x5840 + v) 19 ≠ 0 ∨ s.obj (0x5810 + (v + 2)) 1 = 0) →
    Answers (.homeStart v) s fun t => t.slips = s.slips ∧ t.valves = s.valves ∧ t.obj (0x5840 + v) 15 = s.obj (0x5840 + v) 15
      ∧ t.host.lastErr = errState)
  ∧ (∀ (s : State) (n : Fin 8) (a : Bool), s.stringUp = true →
    Answers (.endSwitchEdge n a) s fun t => t.av.levels.testBit n = a ∧ ∀ m : Fin 8, m ≠ n → t.av.levels.testBit m = s.av.levels.testBit m)
  ∧ (∀ (s : State) (v : Fin 2) (n : Fin 8), s.stringUp = true → s.objN (0x5840 + v) 4 = n.val → s.obj (0x5840 + v) 15 = 3 →
    Answers (.endSwitchEdge n (s.objB (0x5840 + v) 5)) s fun t => t.obj (0x5840 + v) 15 = 4 ∧ t.obj (0x5840 + v) 18 = 0 ∧ (t.valve v).captured = some s.clk.c
      ∧ (t.slip (v + 2)).vel = 0
      ∧ t.obj (0x5840 + v) 16 = f32Word ((toSteps (slipAt (s.slip (v + 2)) (s.now / 65536)).1 : Int) : Rat))
  ∧ (∀ (s : State) (v : Fin 2) (n : Fin 8), s.stringUp = true → s.objN (0x5840 + v) 4 = n.val → s.obj (0x5840 + v) 15 = 5 →
    (slipAt (s.slip (v + 2)) (s.now / 65536)).2.2 ≠ 0 →
    Answers (.endSwitchEdge n (s.objB (0x5840 + v) 5)) s fun t => t.obj (0x5840 + v) 15 = 0)
  ∧ (∀ (s : State) (v : Fin 2) (c : Nat), s.stringUp = true → (s.valve v).since = some c → s.obj (0x5840 + v) 15 = 4 →
    s.obj (0x5840 + v) 11 * 1000000 ≤ elapsedNs s.clk c s.clk.c →
    Answers (.homeQualified v) s fun t => t.obj (0x5840 + v) 15 = 5 ∧ (t.valve v).captured = none ∧ (t.slip (v + 2)).limit = 0
      ∧ (t.slip (v + 2)).target = (slipAt (s.slip (v + 2)) (s.now / 65536)).1 - (s.valve v).edge + s.objF (0x5840 + v) 13)
  ∧ (∀ (s : State) (v : Fin 2), s.stringUp = true → ((s.valve v).since = none ∨ s.obj (0x5840 + v) 15 ≠ 4) → exec (.homeQualified v) s = .next s)
  ∧ (∀ (s : State) (v : Fin 2) (c : Nat), s.stringUp = true → (s.valve v).captured = some c → s.obj (0x5840 + v) 15 = 4 →
    s.obj (0x5840 + v) 12 * 1000000 ≤ elapsedNs s.clk c s.clk.c →
    Answers (.homeQualifyTimeout v) s fun t => t.obj (0x5840 + v) 15 = 6 ∧ (t.valve v).captured = none ∧ t.slips = s.slips)
  ∧ (∀ (s : State) (v : Fin 2), s.stringUp = true → s.obj (0x5840 + v) 3 * 1000000 ≤ elapsedNs s.clk (s.valve v).stepC s.clk.c →
    Answers (.standstillDelayExpiry v) s fun t => (t.valve v).holding = true ∧ (t.valve v).energised = (s.valve v).energised)
  ∧ (∀ (s : State) (v : Fin 2), s.stringUp = true → elapsedNs s.clk (s.valve v).stepC s.clk.c < s.obj (0x5840 + v) 3 * 1000000 →
    exec (.standstillDelayExpiry v) s = .next s)
  ∧ (∀ (s : State) (v : Fin 2) (w : BitVec 4), s.stringUp = true → w ≠ 0 →
    Answers (.stepperFault v w) s fun t => t.obj (0x5840 + v) 19 = w.toNat ∧ t.obj (0x5840 + v) 15 = 0 ∧ (t.valve v).energised = false
      ∧ (t.slip (v + 2)).segs = [] ∧ (t.slip (v + 2)).vel = 0)
  ∧ (∀ (s : State) (v : Fin 2), s.stringUp = true →
    Answers (.stepperFault v 0) s fun t => t.obj (0x5840 + v) 19 = 0 ∧ t.slips = s.slips ∧ t.valves = s.valves)

/-! ### Thermal management and the orderly shutdown -/

/-- Throttling, with the host domain running. A request whose grace ends without having been met, or that was met and is exceeded for its time, is marked
for enforcement, no object changing; otherwise neither timer changes anything. At the boundary an enforcement marked gives 0x6050:8 = 2, the clamp at
the larger of the present current and I_thr, and bit 3 of 0x6000:1. Causes clear for the clear time end a request (0, bit 2 of 0x6000:1 clear, no
grace) and make an enforced one wait for its acknowledgement (3, bit 3 standing); not clear, nothing changes. An acknowledgement is taken with OK in
state 3, else STATE; at the boundary it ends the enforcement and the clamp. While throttling stands its period makes a message due, no object
changing, else nothing changes. A die temperature below −40.0 °C or above 144.0 °C inhibits nonvolatile programming at the seal: 0x6040:2 and bit 6 of
0x6000:1. Rests on R255 and R257 to R261. Next states stated: throttleGraceExpiry, throttleOvercurrentTimeout, throttleClearTime, throttleAcknowledge,
throttleMessagePeriod. -/
def Obligations.Throttling : Prop :=
  (∀ s : State, s.hostUp = true → s.obj 0x6050 8 = 1 → s.therm.grace.isSome = true → s.therm.met = false →
    Answers .throttleGraceExpiry s fun t => t.therm.enforce = true ∧ t.objs = s.objs)
  ∧ (∀ s : State, s.hostUp = true → (s.obj 0x6050 8 ≠ 1 ∨ s.therm.grace = none ∨ s.therm.met = true) → exec .throttleGraceExpiry s = .next s)
  ∧ (∀ s : State, s.hostUp = true → s.obj 0x6050 8 = 1 → s.therm.met = true → s.therm.above.isSome = true →
    Answers .throttleOvercurrentTimeout s fun t => t.therm.enforce = true ∧ t.objs = s.objs)
  ∧ (∀ s : State, s.hostUp = true → (s.obj 0x6050 8 ≠ 1 ∨ s.therm.met = false ∨ s.therm.above = none) → exec .throttleOvercurrentTimeout s = .next s)
  ∧ (∀ s : State, s.therm.enforce = true → s.obj 0x6050 8 = 1 →
    (throttleBoundary s).obj 0x6050 8 = 2 ∧ (throttleBoundary s).therm.clamp = some (maxR (absR (s.objF 0x3410 3)) (throttleAmps s))
      ∧ bitOf ((throttleBoundary s).obj 0x6000 1) 3 = true)
  ∧ (∀ s : State, s.hostUp = true → s.therm.clearFrom.isSome = true → s.obj 0x6050 8 = 1 →
    Answers .throttleClearTime s fun t => t.obj 0x6050 8 = 0 ∧ bitOf (t.obj 0x6000 1) 2 = false ∧ t.therm.grace = none)
  ∧ (∀ s : State, s.hostUp = true → s.therm.clearFrom.isSome = true → s.obj 0x6050 8 = 2 →
    Answers .throttleClearTime s fun t => t.obj 0x6050 8 = 3 ∧ bitOf (t.obj 0x6000 1) 3 = true ∧ t.therm.clearedC = s.clk.c)
  ∧ (∀ s : State, s.hostUp = true → s.therm.clearFrom = none → exec .throttleClearTime s = .next s)
  ∧ (∀ s : State, s.hostUp = true → s.obj 0x6050 8 = 3 → Answers .throttleAcknowledge s fun t => t.therm.ack = true ∧ t.host.lastErr = errOk)
  ∧ (∀ s : State, s.hostUp = true → s.obj 0x6050 8 ≠ 3 → Answers .throttleAcknowledge s fun t => t.therm = s.therm ∧ t.host.lastErr = errState)
  ∧ (∀ s : State, s.therm.enforce = false → s.therm.ack = true → s.obj 0x6050 8 = 3 →
    (throttleBoundary s).obj 0x6050 8 = 0 ∧ (throttleBoundary s).therm.clamp = none ∧ (throttleBoundary s).therm.ack = false)
  ∧ (∀ s : State, s.hostUp = true → s.obj 0x6050 8 ≠ 0 → Answers .throttleMessagePeriod s fun t => t.therm.message = true ∧ t.objs = s.objs)
  ∧ (∀ s : State, s.hostUp = true → s.obj 0x6050 8 = 0 → exec .throttleMessagePeriod s = .next s)
  ∧ (∀ s : State, s.objB 0x6040 2 = false → (s.obj 0x6040 1 < -400 ∨ 1440 < s.obj 0x6040 1) →
    (sealDie s).obj 0x6040 2 = 1 ∧ bitOf ((sealDie s).obj 0x6000 1) 6 = true)

/-- The orderly shutdown, with the host domain running. A request sets bit 4 of 0x6000:1, source 3, and is due at the next boundary, with OK; one during a
shutdown is OK and changes nothing of it. In step 1 with P0 at 0: step 2, standby asked and the converter off; in step 2 with zero current for
0x6060:4 frames: step 3, every contactor driver open; in step 3 the flush: step 4, a state block of origin 2 the last stored; in step 4 with nothing
left to write: step 5, SSI of bit 21 and bit 5 of 0x6000:1. A missed deadline of step 1 or 2 gives 6, with the same SSI and bit. In another step, or
with its condition unmet, each of these changes nothing. Rests on R262 and R263. Next states stated: shutdownRequest, shutdownZeroReached,
shutdownZeroConfirmed, shutdownFlush, shutdownIsolate, shutdownStepDeadline. -/
def Obligations.OrderlyShutdown : Prop :=
  (∀ s : State, s.hostUp = true → bitOf (s.obj 0x6000 1) 4 = false →
    Answers .shutdownRequest s fun t => bitOf (t.obj 0x6000 1) 4 = true ∧ t.obj 0x6060 7 = 3
      ∧ t.therm.shutDue = some ((s.frameNo + 1) % 4294967296) ∧ t.host.lastErr = errOk)
  ∧ (∀ s : State, s.hostUp = true → bitOf (s.obj 0x6000 1) 4 = true →
    Answers .shutdownRequest s fun t => t.therm = s.therm ∧ t.obj 0x6060 7 = s.obj 0x6060 7 ∧ t.host.lastErr = errOk)
  ∧ (∀ s : State, s.hostUp = true → s.obj 0x6060 6 = 1 → (slipAt (s.slip 0) (s.now / 65536)).1 = 0 →
    Answers .shutdownZeroReached s fun t => t.obj 0x6060 6 = 2 ∧ t.safe.con.standby = true ∧ t.av.conv.off = true)
  ∧ (∀ s : State, s.hostUp = true → (s.obj 0x6060 6 ≠ 1 ∨ (slipAt (s.slip 0) (s.now / 65536)).1 ≠ 0) → exec .shutdownZeroReached s = .next s)
  ∧ (∀ s : State, s.hostUp = true → s.obj 0x6060 6 = 2 → s.obj 0x6060 4 ≤ s.therm.zero →
    Answers .shutdownZeroConfirmed s fun t => t.obj 0x6060 6 = 3 ∧ t.safe.con.low = 0 ∧ t.obj 0x6880 4 = 0 ∧ t.safe.con.standby = true)
  ∧ (∀ s : State, s.hostUp = true → (s.obj 0x6060 6 ≠ 2 ∨ (s.therm.zero : Int) < s.obj 0x6060 4) → exec .shutdownZeroConfirmed s = .next s)
  ∧ (∀ s : State, s.hostUp = true → s.obj 0x6060 6 = 3 →
    Answers .shutdownFlush s fun t => t.obj 0x6060 6 = 4 ∧ ∃ b, t.cells.blocks.getLast? = some b ∧ b.origin = 2)
  ∧ (∀ s : State, s.hostUp = true → s.obj 0x6060 6 ≠ 3 → exec .shutdownFlush s = .next s)
  ∧ (∀ s : State, s.hostUp = true → s.obj 0x6060 6 = 4 → flushLeft s = false →
    Answers .shutdownIsolate s fun t => t.obj 0x6060 6 = 5 ∧ t.safe.guard.ssi = s.safe.guard.ssi ||| 2 ^ 21 ∧ bitOf (t.obj 0x6000 1) 5 = true)
  ∧ (∀ s : State, s.hostUp = true → s.obj 0x6060 6 ≠ 4 → exec .shutdownIsolate s = .next s)
  ∧ (∀ s : State, s.hostUp = true → (s.obj 0x6060 6 = 1 ∨ s.obj 0x6060 6 = 2) →
    Answers .shutdownStepDeadline s fun t => t.obj 0x6060 6 = 6 ∧ t.safe.guard.ssi = s.safe.guard.ssi ||| 2 ^ 21 ∧ bitOf (t.obj 0x6000 1) 5 = true)
  ∧ (∀ s : State, s.hostUp = true → s.obj 0x6060 6 ≠ 1 → s.obj 0x6060 6 ≠ 2 → exec .shutdownStepDeadline s = .next s)

/-! ### Safety -/

/-- Bollard's causes, with the string domain running. Once the SLV window is committed, a comparator that was within and is beyond its threshold latches
its cause, gives Guarded, opens every driver and withdraws the hold, and the first cause with its frame is in 0x6803 where none was latched; one
within its threshold, or its hysteresis, leaves the causes and is within; before the window nothing changes. In a pair the partner's trip line latches
cause 5 where it was not, with Guarded and every driver open; a single module ignores it. The loss of a permit once seen, without a trip, latches
cause 6, with Guarded and every driver open; before the first permit, or in a trip, nothing changes. A low string supply latches cause 7, with Guarded
and every driver open. A CRC check or a self-test that fails latches cause 18 and sets its mark where that was clear; one that passes clears its mark
and changes no object. Rests on R267 to R271, R280 and R281. Next states stated: bollardComparatorTrip, partnerTripReceived, guardPermitLoss,
stringSupplyLow, bollardCrcCheck, bollardSelfTest. -/
def Obligations.BollardTrips : Prop :=
  (∀ (s : State) (k : Fin 4) (v : BitVec 32), s.stringUp = true → configured s = true → s.safe.bol.beyond.testBit k = false →
    compareOver (threshold s k) (f32Value v.toNat) k false = true →
    Answers (.bollardComparatorTrip k v) s fun t => bitOf (t.obj 0x6801 0) k = true ∧ t.profile = 4 ∧ t.safe.con.low = 0 ∧ t.safe.bol.hold = false
      ∧ (s.obj 0x6801 0 = 0 → t.obj 0x6803 1 = k.val ∧ t.obj 0x6803 2 = s.frameNo))
  ∧ (∀ (s : State) (k : Fin 4) (v : BitVec 32), s.stringUp = true → configured s = true →
    compareOver (threshold s k) (f32Value v.toNat) k (s.safe.bol.beyond.testBit k) = false →
    Answers (.bollardComparatorTrip k v) s fun t => t.obj 0x6801 0 = s.obj 0x6801 0 ∧ t.safe.bol.beyond.testBit k = false)
  ∧ (∀ (s : State) (k : Fin 4) (v : BitVec 32), s.stringUp = true → configured s = false → exec (.bollardComparatorTrip k v) s = .next s)
  ∧ (∀ s : State, s.stringUp = true → s.pairOn = true → latched s 5 = false →
    Answers .partnerTripReceived s fun t => bitOf (t.obj 0x6801 0) 5 = true ∧ t.profile = 4 ∧ t.safe.con.low = 0 ∧ t.safe.bol.partnerIn = true)
  ∧ (∀ s : State, s.stringUp = true → s.pairOn = false → exec .partnerTripReceived s = .next s)
  ∧ (∀ s : State, s.stringUp = true → s.safe.bol.permitSeen = true → s.safe.bol.trip = false →
    Answers .guardPermitLoss s fun t => bitOf (t.obj 0x6801 0) 6 = true ∧ t.profile = 4 ∧ t.safe.con.low = 0)
  ∧ (∀ s : State, s.stringUp = true → (s.safe.bol.permitSeen = false ∨ s.safe.bol.trip = true) → exec .guardPermitLoss s = .next s)
  ∧ (∀ s : State, s.stringUp = true →
    Answers .stringSupplyLow s fun t => bitOf (t.obj 0x6801 0) 7 = true ∧ t.profile = 4 ∧ t.safe.con.low = 0 ∧ t.safe.bol.supplyC = s.clk.c)
  ∧ (∀ s : State, s.stringUp = true → s.safe.bol.diag.testBit 0 = false →
    Answers (.bollardCrcCheck false) s fun t => bitOf (t.obj 0x6801 0) 18 = true ∧ t.safe.bol.diag.testBit 0 = true)
  ∧ (∀ s : State, s.stringUp = true →
    Answers (.bollardCrcCheck true) s fun t => t.safe.bol.diag.testBit 0 = false ∧ t.objs = s.objs)
  ∧ (∀ (s : State) (k : Fin 8), s.stringUp = true → s.safe.bol.diag.testBit 2 = false →
    Answers (.bollardSelfTest k false) s fun t => bitOf (t.obj 0x6801 0) 18 = true ∧ t.safe.bol.diag.testBit 2 = true)
  ∧ (∀ (s : State) (k : Fin 8), s.stringUp = true →
    Answers (.bollardSelfTest k true) s fun t => t.safe.bol.diag.testBit 2 = false ∧ t.objs = s.objs)

/-- The guard core. With the string domain running: outside BLANK, in every profile, a verdict with a current beyond 0x6810:1 plus its margin latches
cause 8; in BLANK a verdict takes lanes 15 and 24, latches nothing and restarts the hold of absent values. A discrepancy that lasts degrades SLC
without a cause; degraded for its time it latches cause 17, with Guarded and every driver open; calm for its time the limits return, no object
changing; without its condition each changes nothing. Outside Park an absent cell latches cause 12 once the SLV window is committed, and a unit's
absent temperatures latch cause 15 outside BLANK, each first cause with the cell or unit in 0x6803:3; otherwise nothing changes. An open door latches
cause 20 where the interlock is enabled outside BLANK, else it is noted alone. At the boundary an SSI of bit 22 latches cause 22 where it was not,
opens every driver and is done; SDC in force is the union of both masks. With the host domain running: an SDC request up to 3 is stored with OK, the
mask in force waiting, any other is RANGE and not stored; an SSI request is taken with OK and latches nothing yet. Rests on R267, R272 to R278 and
R290. Next states stated: guardVerdict, slcDiscrepancyTimeout, slcDegradedTimeout, slcLimitsReturn, slvMissingHoldExpiry, sltMissingHoldExpiry,
sdcRequestWrite, ssiRequest, doorOpen. -/
def Obligations.GuardTrips : Prop :=
  (∀ (s : State) (co sh : BitVec 4) (ho rb os : Bool) (i : Rat), s.stringUp = true → s.obj 0x2040 1 ≠ 0 →
    (guardCurrents (s.lane 15).elems).1 = some i → s.objF 0x6810 1 + s.objF 0x6810 3 < i →
    Answers (.guardVerdict co sh ho rb os) s fun t => bitOf (t.obj 0x6801 0) 8 = true)
  ∧ (∀ (s : State) (co sh : BitVec 4) (ho rb os : Bool), s.stringUp = true → s.obj 0x2040 1 = 0 →
    Answers (.guardVerdict co sh ho rb os) s fun t => t.obj 0x6801 0 = s.obj 0x6801 0 ∧ (t.lane 15).elems = [] ∧ (t.lane 24).elems = []
      ∧ t.safe.guard.holdFrom = s.clk.c)
  ∧ (∀ s : State, s.stringUp = true → s.safe.guard.discFrom.isSome = true → s.safe.guard.degraded = none →
    Answers .slcDiscrepancyTimeout s fun t => t.safe.guard.degraded = some s.clk.c ∧ t.obj 0x6801 0 = s.obj 0x6801 0)
  ∧ (∀ s : State, s.stringUp = true → s.safe.guard.discFrom = none → exec .slcDiscrepancyTimeout s = .next s)
  ∧ (∀ s : State, s.stringUp = true → s.safe.guard.degraded.isSome = true → latched s 17 = false →
    Answers .slcDegradedTimeout s fun t => bitOf (t.obj 0x6801 0) 17 = true ∧ t.profile = 4 ∧ t.safe.con.low = 0)
  ∧ (∀ s : State, s.stringUp = true → s.safe.guard.degraded = none → exec .slcDegradedTimeout s = .next s)
  ∧ (∀ s : State, s.stringUp = true → s.safe.guard.degraded.isSome = true → s.safe.guard.calmFrom.isSome = true →
    Answers .slcLimitsReturn s fun t => t.safe.guard.degraded = none ∧ slcLimit t 1 = s.objF 0x6810 1 ∧ t.objs = s.objs)
  ∧ (∀ s : State, s.stringUp = true → (s.safe.guard.degraded = none ∨ s.safe.guard.calmFrom = none) → exec .slcLimitsReturn s = .next s)
  ∧ (∀ (s : State) (n : Nat), s.stringUp = true → configured s = true → s.profile ≠ 3 → slvMissing s true = some n →
    Answers .slvMissingHoldExpiry s fun t => bitOf (t.obj 0x6801 0) 12 = true ∧ (s.obj 0x6801 0 = 0 → t.obj 0x6803 1 = 12 ∧ t.obj 0x6803 3 = n))
  ∧ (∀ (s : State) (k : Nat), s.stringUp = true → guardRuns s = true → s.profile ≠ 3 → sltMissing s = some k →
    Answers .sltMissingHoldExpiry s fun t => bitOf (t.obj 0x6801 0) 15 = true ∧ (s.obj 0x6801 0 = 0 → t.obj 0x6803 1 = 15 ∧ t.obj 0x6803 3 = k))
  ∧ (∀ s : State, s.stringUp = true → (configured s = false ∨ s.profile = 3) → exec .slvMissingHoldExpiry s = .next s)
  ∧ (∀ s : State, s.stringUp = true → (s.obj 0x2040 1 = 0 ∨ s.profile = 3) → exec .sltMissingHoldExpiry s = .next s)
  ∧ (∀ (s : State) (v : BitVec 8), s.hostUp = true → v.toNat ≤ 3 →
    Answers (.sdcRequestWrite v) s fun t => t.obj 0x6850 2 = v.toNat ∧ t.obj 0x6850 3 = s.obj 0x6850 3 ∧ t.host.lastErr = errOk)
  ∧ (∀ (s : State) (v : BitVec 8), s.hostUp = true → 3 < v.toNat →
    Answers (.sdcRequestWrite v) s fun t => t.obj 0x6850 2 = s.obj 0x6850 2 ∧ t.host.lastErr = errRange)
  ∧ (∀ s : State, (sdcBoundary s).objN 0x6850 3 = s.objN 0x6850 1 ||| s.objN 0x6850 2)
  ∧ (∀ s : State, s.hostUp = true →
    Answers .ssiRequest s fun t => t.safe.guard.ssi = s.safe.guard.ssi ||| 2 ^ 22 ∧ t.obj 0x6801 0 = s.obj 0x6801 0 ∧ t.host.lastErr = errOk)
  ∧ (∀ s : State, s.safe.guard.ssi.testBit 22 = true → latched s 22 = false →
    bitOf ((ssiBoundary s).obj 0x6801 0) 22 = true ∧ (ssiBoundary s).safe.guard.ssi = 0 ∧ (ssiBoundary s).safe.con.low = 0)
  ∧ (∀ s : State, s.stringUp = true → s.objB 0x6870 4 = true → s.obj 0x2040 1 ≠ 0 →
    Answers .doorOpen s fun t => bitOf (t.obj 0x6801 0) 20 = true ∧ t.safe.guard.door = true)
  ∧ (∀ s : State, s.stringUp = true → (s.objB 0x6870 4 = false ∨ s.obj 0x2040 1 = 0) →
    Answers .doorOpen s fun t => t.objs = s.objs ∧ t.safe.guard.door = true)

/-- The reset after a trip. With the string domain running: a rise of SAFE_RST keeps its time and the causes, shows 1 where the line is not stuck, and
clears nothing; on a high line nothing changes. A fall, of a line not stuck and ready, within 110 ms to 1.9 s, with every latched cause among those of
the rise and ended, clears all causes and starts Bollard's test; a fall within 90 ms clears nothing, starts nothing and, with the host domain running,
writes 0x0A03 with reason 2; of a low line it changes nothing. A line high for its time is stuck (0x6870:3 = 2), and not again; a stuck line that is
low for its time is not. A test without failure at the start sets the tested mark, later it ends and clears the two faults of every driver, the causes
as they are; a failure before the first leaves it untested with the mark of the diagnostic. An edge of the partner's trip line within 10 ms resets
cause 5 alone. With the host domain running, in the plant controller's session: a remote reset not enabled, or with a cause of Bollard or cause 23
latched, is STATE with 0x0A03, reason 6 or 5, and clears nothing; enabled, with every latched cause ended, it clears them and starts the test, with
OK; from another writer it is STATE and clears nothing (log entry 129). A password in range is taken without a session where none is set in
COMMISSION, and kept as its PBKDF2 derivation with a fresh salt; one out of range is RANGE, one that would replace a password without a session
SAFETY, and neither changes anything. RWS writes take effect here with no power-fail warning and their log entry committed. Rests on R281, R286 to
R289 and R291. Next states stated: safeRstRise, safeRstReleaseEdge, safeRstStuck, safeRstUnstuck, resetTestComplete, remoteReset,
partnerTripDeasserted, safetyPasswordWrite. -/
def Obligations.SafetyReset : Prop :=
  (∀ s : State, s.stringUp = true → s.safe.bol.rst.high = false →
    Answers .safeRstRise s fun t => t.safe.bol.rst.high = true ∧ t.safe.bol.rst.causes = s.obj 0x6801 0 ∧ t.safe.bol.rst.riseC = s.clk.c
      ∧ (s.safe.bol.rst.stuck = none → t.obj 0x6870 3 = 1) ∧ t.obj 0x6801 0 = s.obj 0x6801 0)
  ∧ (∀ s : State, s.stringUp = true → s.safe.bol.rst.high = true → exec .safeRstRise s = .next s)
  ∧ (∀ s : State, s.stringUp = true → s.safe.bol.rst.high = true → s.safe.bol.rst.stuck = none → s.safe.bol.rst.ready = true →
    110000000 ≤ elapsedNs s.clk s.safe.bol.rst.riseC s.clk.c → elapsedNs s.clk s.safe.bol.rst.riseC s.clk.c ≤ 1900000000 →
    0 < s.obj 0x6801 0 → s.obj 0x6801 0 < 16777216 → (∀ b < 24, latched s b = true → bitOf s.safe.bol.rst.causes b = true ∧ causeEnded s b = true) →
    Answers .safeRstReleaseEdge s fun t => t.obj 0x6801 0 = 0 ∧ t.safe.bol.test.isSome = true ∧ t.safe.bol.rst.high = false ∧ t.obj 0x6870 3 = 0)
  ∧ (∀ s : State, s.stringUp = true → s.safe.bol.rst.high = true → s.safe.bol.rst.stuck = none → s.safe.bol.rst.ready = true →
    elapsedNs s.clk s.safe.bol.rst.riseC s.clk.c < 90000000 →
    Answers .safeRstReleaseEdge s fun t => t.obj 0x6801 0 = s.obj 0x6801 0 ∧ t.safe.bol.test = s.safe.bol.test
      ∧ (s.hostUp = true → Writes 0x0A03 [d32 2, d32 (s.obj 0x6801 0)] s t))
  ∧ (∀ s : State, s.stringUp = true → s.safe.bol.rst.high = false → exec .safeRstReleaseEdge s = .next s)
  ∧ (∀ s : State, s.stringUp = true → s.safe.bol.rst.high = true → s.safe.bol.rst.stuck = none →
    Answers .safeRstStuck s fun t => t.safe.bol.rst.stuck = some s.clk.c ∧ t.obj 0x6870 3 = 2)
  ∧ (∀ s : State, s.stringUp = true → (s.safe.bol.rst.high = false ∨ s.safe.bol.rst.stuck.isSome = true) → exec .safeRstStuck s = .next s)
  ∧ (∀ s : State, s.stringUp = true → s.safe.bol.rst.high = false → s.safe.bol.rst.stuck.isSome = true →
    Answers .safeRstUnstuck s fun t => t.safe.bol.rst.stuck = none ∧ t.obj 0x6870 3 = 0)
  ∧ (∀ s : State, s.stringUp = true → (s.safe.bol.rst.high = true ∨ s.safe.bol.rst.stuck = none) → exec .safeRstUnstuck s = .next s)
  ∧ (∀ s : State, s.stringUp = true → s.safe.bol.tested = false →
    Answers (.resetTestComplete 0) s fun t => t.safe.bol.tested = true ∧ t.obj 0x6801 0 = s.obj 0x6801 0)
  ∧ (∀ (s : State) (x : Nat × Int), s.stringUp = true → s.safe.bol.tested = true → s.safe.bol.test = some x →
    Answers (.resetTestComplete 0) s fun t => t.safe.bol.test = none ∧ t.obj 0x6880 5 = maskAnd (s.obj 0x6880 5) 0x8888
      ∧ t.obj 0x6801 0 = s.obj 0x6801 0)
  ∧ (∀ (s : State) (f : BitVec 8), s.stringUp = true → f ≠ 0 → s.safe.bol.tested = false →
    Answers (.resetTestComplete f) s fun t => t.safe.bol.tested = false ∧ t.safe.bol.diag.testBit 2 = true)
  ∧ (∀ s : State, s.hostUp = true → (∀ w, writeOf s 0x6870 2 = some w → w.origin = .eop) → s.objB 0x6870 1 = false →
    Answers .remoteReset s fun t => t.obj 0x6801 0 = s.obj 0x6801 0 ∧ t.host.lastErr = errState ∧ Writes 0x0A03 [d32 6, d32 (s.obj 0x6801 0)] s t)
  ∧ (∀ s : State, s.hostUp = true → (∀ w, writeOf s 0x6870 2 = some w → w.origin = .eop) → s.objB 0x6870 1 = true → (latchedBollard s = true ∨ latched s 23 = true) →
    Answers .remoteReset s fun t => t.obj 0x6801 0 = s.obj 0x6801 0 ∧ t.host.lastErr = errState ∧ Writes 0x0A03 [d32 5, d32 (s.obj 0x6801 0)] s t)
  ∧ (∀ s : State, s.hostUp = true → (∀ w, writeOf s 0x6870 2 = some w → w.origin = .eop) → s.objB 0x6870 1 = true → latchedBollard s = false → latched s 23 = false →
    0 < s.obj 0x6801 0 → s.obj 0x6801 0 < 16777216 → (∀ b < 24, latched s b = true → causeEnded s b = true) →
    Answers .remoteReset s fun t => t.obj 0x6801 0 = 0 ∧ t.safe.bol.test.isSome = true ∧ t.host.lastErr = errOk)
  ∧ (∀ (s : State) (c src : Nat) (m : Int), s.stringUp = true → s.safe.bol.edge = some (c, src, m) → s.obj 0x6801 0 = 32 →
    elapsedNs s.clk c s.clk.c ≤ 10000000 →
    Answers .partnerTripDeasserted s fun t => t.obj 0x6801 0 = 0 ∧ t.safe.bol.partnerIn = false ∧ t.safe.bol.test = some (src, m + 32))
  ∧ (∀ (s : State) (p : List Byte), s.hostUp = true → s.pwr.warning = false → entryFails s = false → passwordOk p = true → s.log.derived = [] → s.obj 0x2040 1 = 1 →
    Answers (.safetyPasswordWrite p) s fun t => t.obj 0x6890 4 = 1 ∧ t.log.derived = pbkdf2 p t.log.salt 100000 ∧ t.free = s.free + 1
      ∧ t.host.lastErr = errOk)
  ∧ (∀ (s : State) (p : List Byte), s.hostUp = true → passwordOk p = false →
    Answers (.safetyPasswordWrite p) s fun t => t.log = s.log ∧ t.host.lastErr = errRange)
  ∧ (∀ (s : State) (p : List Byte), s.hostUp = true → passwordOk p = true → s.log.derived ≠ [] → s.host.due = [] → s.host.batch = [] →
    s.host.eop.safety = false → Answers (.safetyPasswordWrite p) s fun t => t.log = s.log ∧ t.host.lastErr = errSafety)
  ∧ (∀ (s : State) (w : WriteReq), s.hostUp = true → writeOf s 0x6870 2 = some w → w.origin ≠ .eop →
    Answers .remoteReset s fun t => t.obj 0x6801 0 = s.obj 0x6801 0 ∧ t.host.lastErr = errState)

/-- The contactors. With the host domain running: a close that may act, with the command 0 and nothing closed, is taken with OK and drives nothing yet; at
the release it closes main negative and the state is 1. A close that may not act is STATE and changes nothing of the safety state. An open is taken
with OK, the drivers as they are; at the release, with zero current where Park asked for it, every driver is open and the state 0. With the string
domain running: 50 ms later precharge closes (state 2), with the voltage reached main positive (3), 50 ms later precharge opens and the auxiliary
closes (5); in another state none of these changes anything. A precharge that is not reached in time opens every driver, gives command and state 0,
latches nothing and, with the host domain running, writes 0x0A0F. A coil driven goes to its hold, its driver staying on; one not driven is left alone.
The end of a weld check suspects a weld; without a check nothing changes. With the host domain running an acknowledgement ends the suspicion with OK.
Rests on R27, R35, R284 and R285. Next states stated: contactorClose, contactorOpen, contactorStepTimer, prechargeReached, prechargeTimeout,
economiserHold, weldCheckTimeout, weldAcknowledge. -/
def Obligations.ContactorSequence : Prop :=
  (∀ s : State, s.hostUp = true → mayClose s = true → s.obj 0x6880 1 = 0 → s.safe.con.rearm = true → s.obj 0x6880 4 = 0 →
    Answers .contactorClose s fun t => t.obj 0x6880 1 = 1 ∧ t.safe.con.closing = true ∧ t.safe.con.low = s.safe.con.low ∧ t.obj 0x6880 4 = 0
      ∧ t.host.lastErr = errOk)
  ∧ (∀ s : State, s.safe.con.closing = true → s.safe.con.opening = false → mayClose s = true → s.obj 0x6880 4 = 0 →
    (releaseContactors s).obj 0x6880 4 = 1 ∧ lowOn (releaseContactors s) 2 = true ∧ (releaseContactors s).safe.con.closing = false)
  ∧ (∀ s : State, s.hostUp = true → mayClose s = false →
    Answers .contactorClose s fun t => t.obj 0x6880 1 = s.obj 0x6880 1 ∧ t.safe = s.safe ∧ t.host.lastErr = errState)
  ∧ (∀ s : State, s.hostUp = true →
    Answers .contactorOpen s fun t => t.obj 0x6880 1 = 0 ∧ t.safe.con.opening = decide (s.obj 0x6880 4 ≠ 0) ∧ t.safe.con.low = s.safe.con.low
      ∧ t.host.lastErr = errOk)
  ∧ (∀ s : State, s.safe.con.opening = true → s.safe.con.closing = false → (s.safe.con.atZero = false ∨ s.frame.restFrom.isSome = true) →
    (releaseContactors s).safe.con.low = 0 ∧ (releaseContactors s).obj 0x6880 4 = 0)
  ∧ (∀ s : State, s.stringUp = true → s.obj 0x6880 4 = 1 → Answers .contactorStepTimer s fun t => t.obj 0x6880 4 = 2 ∧ lowOn t 3 = true)
  ∧ (∀ s : State, s.stringUp = true → s.obj 0x6880 4 = 3 →
    Answers .contactorStepTimer s fun t => t.obj 0x6880 4 = 5 ∧ lowOn t 3 = false ∧ lowOn t 4 = true)
  ∧ (∀ s : State, s.stringUp = true → s.obj 0x6880 4 ≠ 1 → s.obj 0x6880 4 ≠ 3 → exec .contactorStepTimer s = .next s)
  ∧ (∀ s : State, s.stringUp = true → s.obj 0x6880 4 = 2 → Answers .prechargeReached s fun t => t.obj 0x6880 4 = 3 ∧ lowOn t 1 = true)
  ∧ (∀ s : State, s.stringUp = true → s.obj 0x6880 4 ≠ 2 → exec .prechargeReached s = .next s ∧ exec .prechargeTimeout s = .next s)
  ∧ (∀ s : State, s.stringUp = true → s.obj 0x6880 4 = 2 →
    Answers .prechargeTimeout s fun t => t.obj 0x6880 4 = 0 ∧ t.obj 0x6880 1 = 0 ∧ t.safe.con.low = 0 ∧ t.obj 0x6801 0 = s.obj 0x6801 0
      ∧ (s.hostUp = true → Writes 0x0A0F [dF (linkGap s)] s t))
  ∧ (∀ (s : State) (k : Fin 4), s.stringUp = true → lowOn s (k + 1) = true →
    Answers (.economiserHold k) s fun t => t.safe.con.held.testBit k = true ∧ t.safe.con.low = s.safe.con.low)
  ∧ (∀ (s : State) (k : Fin 4), s.stringUp = true → lowOn s (k + 1) = false → exec (.economiserHold k) s = .next s)
  ∧ (∀ (s : State) (n : Nat), s.stringUp = true → s.safe.con.weld = some n →
    Answers .weldCheckTimeout s fun t => weldSuspected t = true ∧ t.safe.con.weld = none)
  ∧ (∀ s : State, s.stringUp = true → s.safe.con.weld = none → exec .weldCheckTimeout s = .next s)
  ∧ (∀ s : State, s.hostUp = true → Answers .weldAcknowledge s fun t => weldSuspected t = false ∧ t.host.lastErr = errOk)

/-! ### The duplex pair -/

/-- Footbridge, with the host domain running and the pair configured. A single module leaves the state as it is on each of its twelve commands. A card
that armed its heartbeat, with both lanes up, sends one of 32 bytes on both, headed 0xF0B0, with its frame number and CRC; not armed it sends nothing.
A received block of a wrong length or CRC counts in 0x7008 of its lane; a heartbeat of another frame leaves this frame's own, counts as misaligned,
once per frame, and is compared: a difference makes a card that is not ACTIVE OFFLINE; one of this frame within T_F/4 of S + 3 us is this frame's,
ends the run of missing ones and gives epoch, role 0x7002:1 and 0x7007:2. A lane that comes up has its bit and 0x0B0D with 1, one that goes down with
0, the pair's own state as it was while the other stays up; a lane that is so already changes nothing. Without the last lane an ACTIVE card, with its
converter link down and no yield, is STANDBY where the partner was heard, else LISTEN; a pull breaks: below three it stays in SHADOW from zero, at the
third it is LISTEN with result 4. A card that drives, with window 5 in time, sends its mirror on both lanes, numbered one higher, batch and staged
writes shortened by what the batch of at most 16 takes; another card sends nothing. A mirror with both CRCs bad counts on both lanes in every role; a
good one gives its number and frame, and a gap in the numbers takes a STANDBY or SUSPECT card back to SHADOW with phase 1. A bulk block of a wrong
length or CRC counts; one that is new to a pull begun, and does not complete it, enters it. A pull block leaves for a partner that pulls, within the
frame's rate; beyond the rate nothing changes. Rests on R298, R302 to R304, R307, R309, R316, R319 and R323. Next states stated: heartbeatSend,
heartbeatReceived, footbridgeLaneUp, footbridgeLaneDown, mirrorSend, mirrorReceived, pullBlockReceived, pullBlockSend. -/
def Obligations.FootbridgeTraffic : Prop :=
  (∀ (s : State) (l : Fin 2) (a b : List Byte), s.pairOn = false → ∀ c ∈ [Instr.heartbeatSend, .heartbeatReceived l a, .heartbeatMissing, .footbridgeLaneUp l, .footbridgeLaneDown l, .mirrorSend,
      .mirrorReceived a b, .mirrorMissing, .startListenEnd, .pullBlockSend, .pullBlockReceived l a, .shadowRunComplete], exec c s = .next s)
  ∧ (∀ s : State, s.hostUp = true → s.pairOn = true → s.duplex.armed = true → fbUp s 0 = true → fbUp s 1 = true →
    Answers .heartbeatSend s fun t => t.duplex.armed = false ∧ ∃ b, b.length = 32 ∧ getLe b 0 2 = 0xF0B0 ∧ getLe b 4 4 = s.frameNo % 4294967296
      ∧ crc32c (b.take 28) = getLe b 28 4 ∧ t.sent = s.sent ++ [⟨2, b⟩, ⟨3, b⟩])
  ∧ (∀ s : State, s.duplex.armed = false → exec .heartbeatSend s = .next s)
  ∧ (∀ (s : State) (l : Fin 2) (b : List Byte), s.hostUp = true → s.pairOn = true → (b.length ≠ 32 ∨ crc32c (b.take 28) ≠ getLe b 28 4) →
    exec (.heartbeatReceived l b) s = .next (s.bump 0x7008 (2 + l.val)))
  ∧ (∀ (s : State) (l : Fin 2) (b : List Byte), s.hostUp = true → s.pairOn = true → b.length = 32 → crc32c (b.take 28) = getLe b 28 4 → getLe b 0 2 = 0xF0B0 →
    getLe b 4 4 ≠ s.frameNo → s.duplex.misSeen ≠ some (getLe b 4 4) →
    Answers (.heartbeatReceived l b) s fun t => t.duplex.beatFrame = s.duplex.beatFrame ∧ t.duplex.beat = s.duplex.beat
      ∧ t.duplex.missing = s.duplex.missing
      ∧ (beatDiff s b = none → s.duplex.mismatch = false → s.obj 0x7001 0 ≠ 3 →
          t = { s with duplex := { s.duplex with misSeen := some (getLe b 4 4), misaligned := s.duplex.misaligned + 1 } })
      ∧ ((beatDiff s b).isSome = true → s.duplex.mismatch = false → s.obj 0x7001 0 ≠ 3 → t.obj 0x7001 0 = 0 ∧ t.duplex.mismatch = true))
  ∧ (∀ (s : State) (l : Fin 2) (b : List Byte), s.hostUp = true → s.pairOn = true → b.length = 32 → crc32c (b.take 28) = getLe b 28 4 → getLe b 0 2 = 0xF0B0 →
    getLe b 4 4 = s.frameNo → s.duplex.beatFrame ≠ some s.frameNo →
    -(s.tf / 4) ≤ s.now / 65536 - s.frame.sAt - 3000 → s.now / 65536 - s.frame.sAt - 3000 ≤ s.tf / 4 →
    Answers (.heartbeatReceived l b) s fun t => t.duplex.beatFrame = some s.frameNo ∧ t.duplex.missing = 0 ∧ t.duplex.beat.epoch = getLe b 8 4
      ∧ t.obj 0x7002 1 = (getLe b 2 1 % 16 : Nat) ∧ t.obj 0x7007 2 = (getLe b 3 1 : Nat))
  ∧ (∀ (s : State) (l : Fin 2), s.hostUp = true → s.pairOn = true → fbUp s l = false →
    Answers (.footbridgeLaneUp l) s fun t => fbUp t l = true ∧ t.obj 0x7001 0 = s.obj 0x7001 0 ∧ Writes 0x0B0D [d32 l.val, d32 1] s t)
  ∧ (∀ (s : State) (l : Fin 2), fbUp s l = true → exec (.footbridgeLaneUp l) s = .next s)
  ∧ (∀ (s : State) (l : Fin 2), s.hostUp = true → s.pairOn = true → s.obj 0x7008 1 = 3 →
    Answers (.footbridgeLaneDown l) s fun t => fbUp t l = false ∧ fbUp t (1 - l.val) = true ∧ t.duplex = s.duplex ∧ Writes 0x0B0D [d32 l.val, d32 0] s t)
  ∧ (∀ (s : State) (l : Fin 2), fbUp s l = false → exec (.footbridgeLaneDown l) s = .next s)
  ∧ (∀ (s : State) (l : Fin 2), s.hostUp = true → s.pairOn = true → s.obj 0x7008 1 = 2 ^ l.val → s.obj 0x7001 0 = 3 → s.obj 0x5600 7 = 0 → s.duplex.yield = none →
    Answers (.footbridgeLaneDown l) s fun t => t.obj 0x7001 0 = if partnerHeard s then 2 else 0)
  ∧ (∀ (s : State) (l : Fin 2), s.hostUp = true → s.pairOn = true → s.obj 0x7008 1 = 2 ^ l.val → s.obj 0x7001 0 = 1 → s.obj 0x7009 1 = 1 →
    Answers (.footbridgeLaneDown l) s fun t => t.duplex.broken = s.duplex.broken + 1 ∧ t.duplex.pull = []
      ∧ (s.duplex.broken < 2 → t.obj 0x7001 0 = 1 ∧ t.obj 0x7009 2 = 0) ∧ (2 ≤ s.duplex.broken → t.obj 0x7001 0 = 0 ∧ t.obj 0x7009 1 = 4))
  ∧ (∀ s : State, s.hostUp = true → s.pairOn = true → s.drives = true → windowLate s 5 = false → fbUp s 0 = true → fbUp s 1 = true →
    Answers .mirrorSend s fun t => t.duplex.mirrorSeq = (s.duplex.mirrorSeq + 1) % 4294967296 ∧ t.duplex.batchSeq = (s.duplex.batchSeq + 1) % 4294967296
      ∧ t.obj 0x7008 5 = t.duplex.mirrorSeq ∧ t.duplex.stagedOut = s.duplex.stagedOut.drop 16
      ∧ t.duplex.carriedStaged = s.duplex.carriedStaged ++ s.duplex.stagedOut.take 16
      ∧ t.host.batch = (s.host.batch.filter (fun w => !localWrite w)).drop (16 - min 16 s.duplex.stagedOut.length)
      ∧ ∃ b0 b1, t.sent = s.sent ++ [⟨2, b0⟩, ⟨3, b1⟩] ∧ getLe b0 0 2 = 0xF0B1 ∧ getLe b1 0 2 = 0xF0B1)
  ∧ (∀ s : State, (s.drives = false ∨ windowLate s 5 = true) → exec .mirrorSend s = .next s)
  ∧ (∀ (s : State) (a b : List Byte), s.hostUp = true → s.pairOn = true → (s.obj 0x7001 0 = 1 ∨ s.obj 0x7001 0 = 2 ∨ s.obj 0x7001 0 = 4) → a ≠ [] → b ≠ [] →
    commonGood a = false → commonGood b = false → exec (.mirrorReceived a b) s = .next (((passLane s 32).bump 0x7008 2).bump 0x7008 3))
  ∧ (∀ (s : State) (a b : List Byte), s.hostUp = true → s.pairOn = true → (s.obj 0x7001 0 = 1 ∨ s.obj 0x7001 0 = 2 ∨ s.obj 0x7001 0 = 4) → commonGood a = true →
    Answers (.mirrorReceived a b) s fun t => t.duplex.mirrorSeq = getLe a 4 4 ∧ t.obj 0x7008 5 = (getLe a 4 4 : Nat) ∧ t.duplex.mirrorFrame = some (getLe a 8 4)
      ∧ (s.duplex.mirrorSeen = true → getLe a 4 4 ≠ (s.duplex.mirrorSeq + 1) % 4294967296 → s.obj 0x7001 0 ≠ 1 → t.obj 0x7001 0 = 1 ∧ t.obj 0x7009 1 = 1))
  ∧ (∀ (s : State) (l : Fin 2) (b : List Byte), s.hostUp = true → s.pairOn = true → (b.length ≠ 4100 ∨ crc32c (b.take 4096) ≠ getLe b 4096 4) →
    exec (.pullBlockReceived l b) s = .next (s.bump 0x7008 (2 + l.val)))
  ∧ (∀ (s : State) (l : Fin 2) (b : List Byte) (need j : Nat), s.hostUp = true → s.pairOn = true → b.length = 4100 → crc32c (b.take 4096) = getLe b 4096 4 →
    getLe b 0 2 = 0xF0B2 → getLe b 2 1 = 0 → s.obj 0x7001 0 = 1 → s.obj 0x7009 1 = 1 → s.duplex.pullHead = some (getLe b 12 4, need) →
    s.duplex.pull.any (fun p => p.1 == getLe b 4 4) = false → j < blocksOf need → j ≠ getLe b 4 4 → s.duplex.pull.any (fun p => p.1 == j) = false →
    Answers (.pullBlockReceived l b) s fun t => t.duplex.pull = storePut (fun _ => []) s.duplex.pull (getLe b 4 4) ((b.drop 32).take (getLe b 16 2))
      ∧ t.obj 0x7009 2 = s.obj 0x7009 2 + ((b.drop 32).take (getLe b 16 2)).length ∧ t.obj 0x7001 0 = 1)
  ∧ (∀ s : State, s.hostUp = true → s.pairOn = true → s.isActive = true → s.obj 0x7008 1 ≠ 0 → bulkSent s < bulkRate s → partnerHeard s = true → s.duplex.beat.role = 1 →
    s.duplex.beat.pulled = false → Answers .pullBlockSend s fun t => t.duplex.serve.isSome = true ∧ t.duplex.served = (s.frameNo, bulkSent s + 1)
      ∧ ∃ l b, t.sent = s.sent ++ [⟨l, b⟩] ∧ (l = 2 ∨ l = 3))
  ∧ (∀ s : State, bulkRate s ≤ bulkSent s → exec .pullBlockSend s = .next s)
  ∧ (∀ (s : State) (a b : List Byte), s.hostUp = true → s.pairOn = true → (s.obj 0x7001 0 = 0 ∨ s.obj 0x7001 0 = 3) → a ≠ [] → b ≠ [] →
    commonGood a = false → commonGood b = false → exec (.mirrorReceived a b) s = .next ((s.bump 0x7008 2).bump 0x7008 3))

/-- Comparison on a STANDBY and the shadow run (the comparison of a frame is `tally`). On a STANDBY an agreeing frame counts in 0x7006:1, zeroes 0x7006:2
and leaves the pair's state and the lanes; a disagreement frame zeroes 0x7006:1 and counts in 0x7006:2, and starts arbitration exactly when that count
reaches K = 0x7000:4, with 0x0B05 (differing items of 0x7006:3, K, the partner's and the own self-fault map) while the host domain runs. In the shadow
run an agreeing frame counts in 0x7009:3, a disagreement frame zeroes it and counts a restart, and the sixteenth restart makes the card SUSPECT. The
complete count of 0x7000:7 frames, 256 at reset, makes a SHADOW card STANDBY with 0x7009:1 = 3; before that nothing changes. A frame without a mirror
counts in 0x7008:4 and, on a STANDBY, is a disagreement frame; with this frame's mirror there nothing changes. States R312. Next states stated:
shadowRunComplete, mirrorMissing. -/
def Obligations.PairComparison : Prop :=
  (∀ s : State, s.pairOn = true → s.obj 0x7001 0 = 2 → s.obj 0x7006 1 < 4294967295 →
    (tally s false).obj 0x7006 1 = s.obj 0x7006 1 + 1 ∧ (tally s false).obj 0x7006 2 = 0 ∧ (tally s false).duplex = s.duplex ∧ (tally s false).lanes = s.lanes)
  ∧ (∀ s : State, s.pairOn = true → s.obj 0x7001 0 = 2 → s.obj 0x7006 2 < 255 →
    (tally s true).obj 0x7006 1 = 0 ∧ (tally s true).obj 0x7006 2 = s.obj 0x7006 2 + 1
      ∧ (s.obj 0x7006 2 + 1 ≠ s.obj 0x7000 4 → (tally s true).duplex = s.duplex ∧ (tally s true).lanes = s.lanes)
      ∧ (s.obj 0x7006 2 + 1 = s.obj 0x7000 4 → (tally s true).duplex.arbitrate = some s.frameNo
          ∧ (s.hostUp = true → Writes 0x0B05 [d32 (s.obj 0x7006 3), d8 (s.obj 0x7000 4), d8 s.duplex.beat.faults, d8 (selfFaults s)] s (tally s true))))
  ∧ (∀ s : State, s.pairOn = true → s.obj 0x7001 0 = 1 → s.obj 0x7009 1 = 2 →
    (tally s false).obj 0x7009 3 = countUp 16 (s.obj 0x7009 3) ∧ (tally s true).obj 0x7009 3 = 0 ∧ (tally s true).duplex.restarts = s.duplex.restarts + 1
      ∧ (tally s true).obj 0x7001 0 = if 16 ≤ s.duplex.restarts + 1 then 4 else 1)
  ∧ (∀ s : State, s.hostUp = true → s.pairOn = true → s.obj 0x7001 0 = 1 → s.obj 0x7009 1 = 2 → s.obj 0x7000 7 ≤ s.obj 0x7009 3 →
    Answers .shadowRunComplete s fun t => t.obj 0x7001 0 = 2 ∧ t.obj 0x7009 1 = 3)
  ∧ (∀ s : State, s.hostUp = true → (s.obj 0x7009 1 ≠ 2 ∨ s.obj 0x7009 3 < s.obj 0x7000 7) → exec .shadowRunComplete s = .next s)
  ∧ State.reset.obj 0x7000 7 = 256
  ∧ (∀ s : State, s.hostUp = true → s.pairOn = true → s.obj 0x7001 0 = 4 → s.duplex.mirrorFrame ≠ some ((s.frameNo + 4294967295) % 4294967296) →
    exec .mirrorMissing s = .next (s.bump 0x7008 4))
  ∧ (∀ s : State, s.hostUp = true → s.pairOn = true → s.obj 0x7001 0 = 2 → s.duplex.mirrorFrame ≠ some ((s.frameNo + 4294967295) % 4294967296) →
    exec .mirrorMissing s = .next (tally (s.bump 0x7008 4) true))
  ∧ (∀ s : State, s.duplex.mirrorFrame = some ((s.frameNo + 4294967295) % 4294967296) → exec .mirrorMissing s = .next s)

/-- Roles of the pair, with the host domain running. A second frame in succession without a heartbeat makes a STANDBY ACTIVE with trigger 1, counted in
0x700A, its epoch above the three it knows, and its exclusive outputs held for the two frames after the last heartbeat counted; on an ACTIVE card it
writes 0x0B03; otherwise it only counts. The end of the listen makes a card whose partner does not listen ACTIVE with such an epoch; one that heard a
partner that listens and is preferred waits; before the end nothing changes. A write to clear SUSPECT is OK: a SUSPECT card is SHADOW with phase 1 and
bit 5 of 0x2004:0 clear, another keeps its role with 0x7006:4 = 0. A switchover request that is refused is STATE with 0x0B08 and its reason, roles as
they are; one taken is OK, names the frame 8 ahead with 0x0B07 and leaves the role ACTIVE; without a pair, from a card that is not ACTIVE or to a
partner that is not STANDBY it is refused with reason 1. An uncorrected ECC error is an ECC storm, a corrected one is noted; objects stay. The
complete shadow run writes 0x0B0C with frames and restarts. The numbers of triggers and reasons are the model's (log entry 69). Rests on R313, R315 to
R318, R320, R322 and R325. Next states stated: heartbeatMissing, startListenEnd, clearSuspect, switchoverRequest, plazaEccError, shadowRunComplete. -/
def Obligations.PairRoles : Prop :=
  (∀ (s : State) (m : Nat), s.hostUp = true → s.pairOn = true → s.duplex.beatFrame = some m → m ≠ s.frameNo → s.duplex.missing = 1 → s.obj 0x7001 0 = 2 →
    Answers .heartbeatMissing s fun t => t.obj 0x7001 0 = 3 ∧ t.obj 0x700A 2 = 1 ∧ t.obj 0x700A 1 = countUp 32 (s.obj 0x700A 1)
      ∧ t.duplex.exclusive = some ((m + 3) % 4294967296)
      ∧ t.obj 0x5620 1 = (epochAbove s (max (s.objN 0x5620 1) (max s.duplex.beat.epoch (s.objN 0x5620 2))) : Nat))
  ∧ (∀ (s : State) (m : Nat), s.hostUp = true → s.pairOn = true → s.duplex.beatFrame = some m → m ≠ s.frameNo → s.duplex.missing = 1 → s.obj 0x7001 0 = 3 →
    Answers .heartbeatMissing s fun t => t.obj 0x7001 0 = 3 ∧ t.duplex.missing = 2 ∧ (s.hostUp = true → Writes 0x0B03 [d8 (beatAge s), d8 3] s t))
  ∧ (∀ (s : State) (m : Nat), s.hostUp = true → s.pairOn = true → s.duplex.beatFrame = some m → m ≠ s.frameNo → s.duplex.missing ≠ 1 →
    exec .heartbeatMissing s = .next { s with duplex := { s.duplex with missing := s.duplex.missing + 1 } })
  ∧ (∀ s : State, s.hostUp = true → s.pairOn = true → s.obj 0x7001 0 = 0 → s.duplex.listen = some 0 → s.duplex.partnerListens = false →
    Answers .startListenEnd s fun t => t.obj 0x7001 0 = 3 ∧ t.duplex.listen = none
      ∧ t.obj 0x5620 1 = (epochAbove s (max (s.objN 0x5620 1) (max s.duplex.beat.epoch (s.objN 0x5620 2))) : Nat))
  ∧ (∀ s : State, s.hostUp = true → s.pairOn = true → s.obj 0x7001 0 = 0 → s.duplex.listen = some 0 → s.duplex.partnerListens = true → partnerHeard s = true →
    preferred s = false → exec .startListenEnd s = .next { s with duplex := { s.duplex with listen := none, waitActive := true } })
  ∧ (∀ s : State, s.duplex.listen ≠ some 0 → exec .startListenEnd s = .next s)
  ∧ (∀ s : State, s.hostUp = true → s.pairOn = true → s.obj 0x7001 0 = 4 →
    Answers .clearSuspect s fun t => t.obj 0x7001 0 = 1 ∧ t.obj 0x7009 1 = 1 ∧ bitOf (t.obj 0x2004 0) 5 = false ∧ t.host.lastErr = errOk)
  ∧ (∀ s : State, s.hostUp = true → s.pairOn = true → s.obj 0x7001 0 ≠ 4 →
    Answers .clearSuspect s fun t => t.obj 0x7001 0 = s.obj 0x7001 0 ∧ t.obj 0x7006 4 = 0 ∧ t.host.lastErr = errOk)
  ∧ (∀ s : State, s.hostUp = true → switchRefusal s ≠ 0 →
    Answers .switchoverRequest s fun t => t.duplex.handover = s.duplex.handover ∧ t.obj 0x7001 0 = s.obj 0x7001 0 ∧ t.host.lastErr = errState
      ∧ Writes 0x0B08 [d32 (switchRefusal s)] s t)
  ∧ (∀ s : State, s.hostUp = true → switchRefusal s = 0 → s.duplex.handover = none →
    Answers .switchoverRequest s fun t => t.duplex.handover = some ((s.frameNo + 8) % 4294967296, 1) ∧ t.obj 0x7001 0 = 3 ∧ t.host.lastErr = errOk
      ∧ Writes 0x0B07 [d32 ((s.frameNo + 8) % 4294967296 : Nat), d32 1] s t)
  ∧ (∀ s : State, (s.pairOn = false ∨ s.obj 0x7001 0 ≠ 3 ∨ s.duplex.beat.role ≠ 2) → switchRefusal s = 1)
  ∧ (∀ s : State, s.hostUp = true → Answers (.plazaEccError false) s fun t => t.duplex.eccHard = true ∧ eccStorm t = true ∧ t.objs = s.objs)
  ∧ (∀ s : State, s.hostUp = true → Answers (.plazaEccError true) s fun t => t.duplex.ecc.head? = some s.clk.c ∧ t.duplex.eccHard = s.duplex.eccHard ∧ t.objs = s.objs)
  ∧ (∀ s : State, s.hostUp = true → s.pairOn = true → s.obj 0x7001 0 = 1 → s.obj 0x7009 1 = 2 → s.obj 0x7000 7 ≤ s.obj 0x7009 3 →
    Answers .shadowRunComplete s fun t => Writes 0x0B0C [d16 (s.obj 0x7009 3), d32 s.duplex.restarts] (setRole (s.setObj 0x7009 1 3) 2 2) t)

/-- The epoch of a takeover: one more than the largest of the card's own (0x5620:1), the one in the partner's last heartbeat and the one last reported by
the converter (0x5620:2), raised by 1 more where it is then odd on slot A or even on slot B. So slot A's are even, slot B's odd, and no two cards send
the same. The card that takes over is ACTIVE, has E in 0x5620:1 and keeps the elements its own loops put into lane 5; at its next slot it sends one
command frame with the set-point and limits of the slot's own element (zero in Park, within the effective limits in Guarded), and every command frame
carries 0x5620:1 in bytes 2 to 5 and the set-point in bytes 6 to 9. States R317. Next states stated: converterCommandSend. -/
def Obligations.TakeoverEpoch : Prop :=
  (∀ (s : State) (f : Nat), s.pairOn = true → f + 2 ≤ epochTop s → s.obj 0x7001 1 = 0 → epochAbove s f = if (f + 1) % 2 = 1 then f + 2 else f + 1)
  ∧ (∀ (s : State) (f : Nat), s.pairOn = true → f + 2 ≤ epochTop s → s.obj 0x7001 1 = 1 → epochAbove s f = if (f + 1) % 2 = 0 then f + 2 else f + 1)
  ∧ (∀ (s u : State) (f g : Nat), s.pairOn = true → u.pairOn = true → s.obj 0x7001 1 = 0 → u.obj 0x7001 1 = 1 → f + 2 ≤ epochTop s → g + 2 ≤ epochTop u →
    epochAbove s f % 2 = 0 ∧ epochAbove u g % 2 = 1 ∧ epochAbove s f ≠ epochAbove u g)
  ∧ (∀ (s : State) (tr : Int), s.pairOn = true → s.obj 0x7001 0 ≠ 3 →
    (takeover s tr).obj 0x5620 1 = (epochAbove s (max (s.objN 0x5620 1) (max s.duplex.beat.epoch (s.objN 0x5620 2))) : Nat) ∧ (takeover s tr).obj 0x7001 0 = 3
      ∧ (takeover s tr).lane 5 = s.lane 5)
  ∧ (∀ (s : State) (tr : Int) (j : Fin 16) (sp ch di rep : Int) (l : List Elem), s.pairOn = true → s.obj 0x7001 0 ≠ 3 → s.frame.released = 0 → s.stringUp = true →
    (s.lane 5).elems = l ++ [.nums [sp, ch, di, j.val, rep]] →
    Answers (.converterCommandSend j) (takeover s tr) fun t =>
      t.sent = (takeover s tr).sent ++ [⟨17, commandFrame (takeover s tr) j (heldSetpoint (takeover s tr) sp, ch, di, decide (rep = 1))⟩])
  ∧ (∀ (s : State) (j : Nat) (f : Int × Int × Int × Bool),
    ((commandFrame s j f).drop 2).take 4 = leBytes 4 (s.obj 0x5620 1) ∧ ((commandFrame s j f).drop 6).take 4 = leBytes 4 f.1)

/-! ### The cyclic program -/

/-- Runs of the tasks, with the host domain running, an image, and on a card that is not OFFLINE. While the program runs, a release of the fast task, or
of a slow task in its frame (number modulo period = phase), starts a run at the present counter; a fast task still running is left alone and 0xA022:1
counts; a slow task outside its frame is left alone. A background pass starts where none runs. A run that its engine executes ends with writes that
the memory protection grants: it stops, adds those of region 4 to what the next seal takes, and leaves the constants; one write that is not granted
gives TRAPPED, no task running, the program counter being one more free value; a run that is not executed goes on. A background pass beyond 0xA020:2
seconds is marked once, with 0x0C0E and its length. The environment calls of the task that executes return status 0 and the module time, the release
time or the frame number; a user event of the program's codes with severity up to 3 is written with 16 data bytes and status 0, any other returns a
status that is not 0 and leaves the lanes. Rests on R334, R337, R340 and R352. Next states stated: fastTaskRelease, slowTaskRelease,
backgroundPassStart, taskRunEnd, backgroundLong, envCallModuleTime, envCallReleaseTime, envCallFrameNumber, envCallUserEvent. -/
def Obligations.TaskRuns : Prop :=
  (∀ (s : State) (im : ProgImage), s.hostUp = true → s.prog.image = some im → im.fastEntry ≠ 0xFFFFFFFF → progRuns s = true → s.runs = true →
    (s.task 0).running = false →
    Answers .fastTaskRelease s fun t => (t.task 0).running = true ∧ (t.task 0).releaseC = s.clk.c ∧ (t.task 0).first = false)
  ∧ (∀ (s : State) (im : ProgImage), s.hostUp = true → s.prog.image = some im → im.fastEntry ≠ 0xFFFFFFFF → progRuns s = true → s.runs = true →
    (s.task 0).running = true →
    Answers .fastTaskRelease s fun t => t.obj 0xA022 1 = countUp 32 (s.obj 0xA022 1) ∧ t.task 0 = s.task 0)
  ∧ (∀ (s : State) (im : ProgImage) (k : Fin 4) (e n ph : Nat), s.hostUp = true → s.prog.image = some im →
    im.slow[k.val]? = some (e, n, ph) → s.frameNo % n = ph → progRuns s = true → s.runs = true → (s.task (k.val + 1)).running = false →
    Answers (.slowTaskRelease k) s fun t => (t.task (k.val + 1)).running = true ∧ (t.task (k.val + 1)).releaseC = s.clk.c)
  ∧ (∀ (s : State) (im : ProgImage) (k : Fin 4) (e n ph : Nat), s.hostUp = true → s.prog.image = some im →
    im.slow[k.val]? = some (e, n, ph) → s.frameNo % n ≠ ph → exec (.slowTaskRelease k) s = .next s)
  ∧ (∀ (s : State) (im : ProgImage), s.hostUp = true → s.prog.image = some im → im.backEntry ≠ 0xFFFFFFFF → progRuns s = true → s.runs = true →
    (s.task 5).running = false →
    Answers .backgroundPassStart s fun t => (t.task 5).running = true ∧ (t.task 5).releaseC = s.clk.c)
  ∧ (∀ (s : State) (k : Fin 6) (w : List RegionWrite), s.hostUp = true → executes s k = true → (∀ x ∈ w, granted s x = true) →
    Answers (.taskRunEnd k w) s fun t => (t.task k).running = false
      ∧ (t.task k).out = some ((s.task k).out.getD [] ++ w.filterMap fun x => if x.region = 4 then some (x.off, x.bytes) else none)
      ∧ t.prog.consts = s.prog.consts)
  ∧ (∀ (s : State) (k : Fin 6) (w : List RegionWrite) (x : RegionWrite), s.hostUp = true → executes s k = true → x ∈ w → granted s x = false →
    Answers (.taskRunEnd k w) s fun t => t.obj 0xA000 2 = 4 ∧ (∀ j, (t.task j).running = false) ∧ t.free = s.free + 1)
  ∧ (∀ (s : State) (k : Fin 6) (w : List RegionWrite), s.hostUp = true → executes s k = false → exec (.taskRunEnd k w) s = .next s)
  ∧ (∀ s : State, s.hostUp = true → (s.task 5).running = true → (s.task 5).long = false →
    s.obj 0xA020 2 * 1000000000 < elapsedNs s.clk (s.task 5).releaseC s.clk.c →
    Answers .backgroundLong s fun t => (t.task 5).long = true ∧ (t.task 5).running = true
      ∧ Writes 0x0C0E [d32 (elapsedNs s.clk (s.task 5).releaseC s.clk.c / 1000)] s t)
  ∧ (∀ (s : State) (k : Fin 6), s.hostUp = true → executes s k = true →
    (Answers (.envCallModuleTime k) s fun t => (t.task k).ret = (0, time80 s.now))
    ∧ (Answers (.envCallReleaseTime k) s fun t => (t.task k).ret = (0, (s.task k).releaseNs))
    ∧ (Answers (.envCallFrameNumber k) s fun t => (t.task k).ret = (0, (s.frameNo : Int))))
  ∧ (∀ (s : State) (k : Fin 6) (code sev : BitVec 32) (data : List Byte), s.hostUp = true → executes s k = true →
    userCode code.toNat = true → sev.toNat ≤ 3 →
    Answers (.envCallUserEvent k code sev data) s fun t => (t.task k).ret = (0, 0) ∧ Writes code.toNat [padTo 16 data] s t)
  ∧ (∀ (s : State) (k : Fin 6) (code sev : BitVec 32) (data : List Byte), s.hostUp = true → executes s k = true →
    ¬ (userCode code.toNat = true ∧ sev.toNat ≤ 3) →
    Answers (.envCallUserEvent k code sev data) s fun t => (t.task k).ret.1 ≠ 0 ∧ t.lanes = s.lanes)

/-- Starts, stops and traps, with the host domain running and an image. Outside TRAPPED a warm and a cold start are OK: state RUNNING, in Guarded and Park
HELD, with the initial data; the warm one keeps the retained region, the cold one begins it with its initial values. In TRAPPED, or without an image,
both are STATE and leave program and state. A stop is OK: STOPPED, every task at rest. A trap of the task that executes gives TRAPPED, every task at
rest; of another nothing changes. The entry to Guarded holds a running program at once. Rests on R335 to R337. Next states stated: warmStart,
coldStart, programStop, programTrap. -/
def Obligations.ProgramStarts : Prop :=
  (∀ (s : State) (im : ProgImage), s.hostUp = true → s.prog.image = some im → s.obj 0xA000 2 ≠ 4 →
    (Answers .warmStart s fun t => t.obj 0xA000 2 = (if s.profile = 3 ∨ s.profile = 4 then 3 else 2) ∧ t.prog.data = im.initData
      ∧ t.prog.retained = s.prog.retained ∧ t.prog.image = some im ∧ t.host.lastErr = errOk)
    ∧ (Answers .coldStart s fun t => t.obj 0xA000 2 = (if s.profile = 3 ∨ s.profile = 4 then 3 else 2) ∧ t.prog.data = im.initData
      ∧ t.prog.retained = putBytes s.prog.retained 0 im.initRetained ∧ t.host.lastErr = errOk))
  ∧ (∀ s : State, s.hostUp = true → (s.prog.image = none ∨ s.obj 0xA000 2 = 4) →
    (Answers .warmStart s fun t => t.host.lastErr = errState ∧ t.prog = s.prog ∧ t.obj 0xA000 2 = s.obj 0xA000 2)
    ∧ (Answers .coldStart s fun t => t.host.lastErr = errState ∧ t.prog = s.prog ∧ t.obj 0xA000 2 = s.obj 0xA000 2))
  ∧ (∀ (s : State) (im : ProgImage), s.hostUp = true → s.prog.image = some im →
    Answers .programStop s fun t => t.obj 0xA000 2 = 1 ∧ (∀ k, t.task k = {}) ∧ t.host.lastErr = errOk)
  ∧ (∀ (s : State) (k : Fin 6) (cause pc : BitVec 32), s.hostUp = true → executes s k = true →
    Answers (.programTrap k cause pc) s fun t => t.obj 0xA000 2 = 4 ∧ ∀ k, t.task k = {})
  ∧ (∀ (s : State) (k : Fin 6) (cause pc : BitVec 32), s.hostUp = true → executes s k = false → exec (.programTrap k cause pc) s = .next s)
  ∧ (∀ s : State, s.profile ≠ 4 → s.obj 0xA000 2 = 2 → (enterGuarded s 1 false).obj 0xA000 2 = 3 ∧ progRuns (enterGuarded s 1 false) = false)

/-- Image, online change and forcing, with the host domain running. An image that fails a check gives 0xA011:1 = 3 and its reason in :2, nothing staged or
checked; one that passes is staged and checked with :1 = 5, in a pair 2 until its first block leaves; in both the active image stays. A forwarding
whose blocks are all sent gives 5. Activation outside 5 is STATE and leaves the program; in 5 without a conflict of pins the checked image is active
with its data and constants, its version in 0xA001:1, :1 = 0, with OK; with a conflict it is CONFIG and the program stays. A change of a symbol that
does not exist is NO_OBJECT, of one not changeable ACCESS, both leaving the program; with the program not running, of one in region 1, it is OK and
writes the element. A force to be set that R349 refuses is RANGE and changes nothing; with the program not running another is OK and among the forces;
likewise one to be cleared, which is then no longer among them; clearing all leaves none. Rests on R330 to R332, R348 and R349. Next states stated:
imageCheck, imageForwardComplete, imageActivate, onlineChangeWrite, forceSetRequest, forceClearRequest, forceClearAllRequest. -/
def Obligations.ProgramImage : Prop :=
  (∀ (s : State) (b : List Byte) (r o : Nat), s.hostUp = true → imageBad s b = some (r, o) →
    Answers (.imageCheck b) s fun t => t.obj 0xA011 1 = 3 ∧ t.obj 0xA011 2 = r ∧ t.prog.staged = [] ∧ t.prog.checked = none
      ∧ t.prog.image = s.prog.image)
  ∧ (∀ (s : State) (b : List Byte), s.hostUp = true → imageBad s b = none →
    Answers (.imageCheck b) s fun t => t.obj 0xA011 1 = (if s.pairOn then 2 else 5) ∧ t.obj 0xA011 2 = 0 ∧ t.prog.staged = b
      ∧ t.prog.checked = some (parseImage b) ∧ t.prog.image = s.prog.image)
  ∧ (∀ (s : State) (b : List Byte) (k : Nat), s.hostUp = true → s.prog.fwd = some (b, k) → s.obj 0xA011 1 = 4 → blocksOf b.length ≤ k →
    Answers .imageForwardComplete s fun t => t.obj 0xA011 1 = 5 ∧ t.prog.fwd = none)
  ∧ (∀ s : State, s.hostUp = true → (s.prog.checked = none ∨ s.obj 0xA011 1 ≠ 5) →
    Answers .imageActivate s fun t => t.host.lastErr = errState ∧ t.prog = s.prog)
  ∧ (∀ (s : State) (im : ProgImage), s.hostUp = true → s.prog.checked = some im → s.obj 0xA011 1 = 5 → mfConflicts s im = [] →
    Answers .imageActivate s fun t => t.prog.image = some im ∧ t.prog.data = im.initData ∧ t.prog.consts = im.consts ∧ t.prog.checked = none
      ∧ t.obj 0xA011 1 = 0 ∧ t.obj 0xA001 1 = im.version ∧ t.host.lastErr = errOk)
  ∧ (∀ (s : State) (im : ProgImage), s.hostUp = true → s.prog.checked = some im → s.obj 0xA011 1 = 5 → mfConflicts s im ≠ [] →
    Answers .imageActivate s fun t => t.prog = s.prog ∧ t.obj 0xA011 1 = 5 ∧ t.host.lastErr = errConfig)
  ∧ (∀ (s : State) (ref : ObjRef) (v : List Byte), s.hostUp = true → symbolAt s ref.index.toNat ref.sub.toNat = none →
    Answers (.onlineChangeWrite ref v) s fun t => t.host.lastErr = errNoObject ∧ t.prog = s.prog)
  ∧ (∀ (s : State) (ref : ObjRef) (v : List Byte) (y : Symbol), s.hostUp = true → symbolAt s ref.index.toNat ref.sub.toNat = some y →
    y.flags.testBit 4 = false → Answers (.onlineChangeWrite ref v) s fun t => t.host.lastErr = errAccess ∧ t.prog = s.prog)
  ∧ (∀ (s : State) (ref : ObjRef) (v : List Byte) (y : Symbol), s.hostUp = true → symbolAt s ref.index.toNat ref.sub.toNat = some y →
    y.flags.testBit 4 = true → progRuns s = false → y.region = 1 →
    Answers (.onlineChangeWrite ref v) s fun t => t.host.lastErr = errOk
      ∧ t.prog.data = putBytes s.prog.data (elemOff y ref.sub.toNat) (padTo y.size v))
  ∧ (∀ (s : State) (ref : ObjRef) (v : BitVec 64), s.hostUp = true → forceReason s (forcedKeys s) 1 ref.index.toNat ref.sub.toNat ≠ 0 →
    Answers (.forceSetRequest ref v) s fun t => t.host.lastErr = errRange ∧ t.prog = s.prog)
  ∧ (∀ (s : State) (ref : ObjRef) (v : BitVec 64), s.hostUp = true → forceReason s (forcedKeys s) 1 ref.index.toNat ref.sub.toNat = 0 → progRuns s = false →
    Answers (.forceSetRequest ref v) s fun t => t.host.lastErr = errOk
      ∧ ∃ f ∈ t.prog.forces, f.index = ref.index.toNat ∧ f.sub = ref.sub.toNat ∧ f.value = v.toNat)
  ∧ (∀ (s : State) (ref : ObjRef), s.hostUp = true → forceReason s (forcedKeys s) 2 ref.index.toNat ref.sub.toNat ≠ 0 →
    Answers (.forceClearRequest ref) s fun t => t.host.lastErr = errRange ∧ t.prog = s.prog)
  ∧ (∀ (s : State) (ref : ObjRef), s.hostUp = true → forceReason s (forcedKeys s) 2 ref.index.toNat ref.sub.toNat = 0 → progRuns s = false →
    Answers (.forceClearRequest ref) s fun t => t.host.lastErr = errOk
      ∧ ∀ f ∈ t.prog.forces, f ∈ s.prog.forces ∧ ¬ (f.index = ref.index.toNat ∧ f.sub = ref.sub.toNat))
  ∧ (∀ s : State, s.hostUp = true → progRuns s = false → Answers .forceClearAllRequest s fun t => t.prog.forces = [] ∧ t.obj 0xA042 0 = 0)

/-- Stations and the retained checkpoint, with the host domain running. A CAN station silent for its timeout and not lost yet is lost, counts in 0xA051
and writes 0x0C0A with station, 1 and frame; one not silent, or lost, changes nothing. A checkpoint that completes is the last copy: valid, of the
image's layout, with the region as it stood at the seal, numbered one above the newest valid copy, which stays; one cut short leaves the newest valid
copy and 0xA060:2. Rests on R343 and R346. Next states stated: stationReceiveTimeout, retainedCheckpoint. -/
def Obligations.StationsAndCheckpoint : Prop :=
  (∀ (s : State) (n : Fin 16) (x : Station), s.hostUp = true → stationOf s (48 + n.val) = some x → stationSilent s x = true →
    (s.station (48 + n.val)).lost = false →
    Answers (.stationReceiveTimeout n) s fun t => (t.station (48 + n.val)).lost = true
      ∧ t.obj 0xA051 (49 + n.val) = countUp 32 (s.obj 0xA051 (49 + n.val)) ∧ Writes 0x0C0A [d32 (48 + n.val : Nat), d32 1, d32 s.frameNo] s t)
  ∧ (∀ (s : State) (n : Fin 16) (x : Station), s.hostUp = true → stationOf s (48 + n.val) = some x →
    (stationSilent s x = false ∨ (s.station (48 + n.val)).lost = true) → exec (.stationReceiveTimeout n) s = .next s)
  ∧ (∀ (s : State) (im : ProgImage), s.hostUp = true → s.prog.image = some im →
    Answers (.retainedCheckpoint true) s fun t => ∃ c, t.prog.copies.getLast? = some c ∧ c.valid = true ∧ c.layout = im.retCrc
      ∧ c.region = padTo im.initRetained.length s.prog.sealedRet ∧ (∀ d, retNewest s = some d → c.seq = d.seq + 1 ∧ d ∈ t.prog.copies))
  ∧ (∀ (s : State) (im : ProgImage) (d : RetCopy), s.hostUp = true → s.prog.image = some im → retNewest s = some d → d.valid = true →
    Answers (.retainedCheckpoint false) s fun t => retNewest t = some d ∧ t.obj 0xA060 2 = s.obj 0xA060 2)

/-! ### Sessions, reading and writing -/

/-- The handshake, with the host domain running and the channel up. A HELLO that R360 refuses starts nothing, leaves the session, is answered, and writes
0x0D04 with reason and address; any other begins a handshake of that channel and address with the nonce and client name given, the key in force then,
and an identifier that is not 0, drawn with two free values. A PROOF without a handshake of its address changes nothing but what every message counts;
the proof of R361, with no session open, opens one with that identifier and the key of R361, no safety session and no sequence number taken; any other
leaves the session, counts in 0x1201:5 and ends the channel's handshake. The timeout ends the handshake, leaves the session and is answered. Rests on
R360 to R362. Next states stated: eopHello, eopProof, handshakeTimeout. -/
def Obligations.SessionHandshake : Prop :=
  (∀ (s : State) (c : Channel) (addr : BitVec 32) (udp : BitVec 16) (q : BitVec 32) (k : Bool) (n cl : List Byte), s.hostUp = true → channelUp s c = true →
    helloRefusal s c addr.toNat k ≠ 0 →
    Answers (.eopHello c addr udp q k n cl) s fun t => t.host.shakes = s.host.shakes ∧ t.session c = s.session c
      ∧ s.sent.length < t.sent.length ∧ Writes 0x0D04 [d32 (helloRefusal s c addr.toNat k), d32 addr.toNat] s t)
  ∧ (∀ (s : State) (c : Channel) (addr : BitVec 32) (udp : BitVec 16) (q : BitVec 32) (k : Bool) (n cl : List Byte), s.hostUp = true → channelUp s c = true →
    helloRefusal s c addr.toNat k = 0 →
    Answers (.eopHello c addr udp q k n cl) s fun t => ∃ h, t.host.shakes = s.host.shakes ++ [h] ∧ h.chan = c ∧ h.addr = addr.toNat
      ∧ h.takeover = k ∧ h.key = shakeKey s c ∧ h.nc = padTo 16 n ∧ h.client = padTo 16 cl ∧ h.sid ≠ 0 ∧ t.free = s.free + 2)
  ∧ (∀ (s : State) (c : Channel) (addr q : BitVec 32) (proof : List Byte), s.hostUp = true →
    s.host.shakes.find? (fun h => h.chan == c && h.addr == addr.toNat) = none → exec (.eopProof c addr q proof) s = .next (comesIn s c))
  ∧ (∀ (s : State) (c : Channel) (addr q : BitVec 32) (h : Handshake), s.hostUp = true →
    s.host.shakes.find? (fun h => h.chan == c && h.addr == addr.toNat) = some h → (s.session c).isOpen = false →
    Answers (.eopProof c addr q (clientProof h)) s fun t => (t.session c).isOpen = true ∧ (t.session c).sid = h.sid
      ∧ (t.session c).key = sessionKey h ∧ (t.session c).safety = false ∧ (t.session c).high = none)
  ∧ (∀ (s : State) (c : Channel) (addr q : BitVec 32) (proof : List Byte) (h : Handshake), s.hostUp = true →
    s.host.shakes.find? (fun h => h.chan == c && h.addr == addr.toNat) = some h → proof ≠ clientProof h →
    Answers (.eopProof c addr q proof) s fun t => t.session c = s.session c ∧ t.obj 0x1201 5 = countUp 32 (s.obj 0x1201 5)
      ∧ (∀ x ∈ t.host.shakes, x.chan ≠ c))
  ∧ (∀ (s : State) (c : Channel) (h : Handshake), s.hostUp = true → s.host.shakes.find? (fun h => h.chan == c) = some h →
    Answers (.handshakeTimeout c) s fun t => (∀ x ∈ t.host.shakes, x.chan ≠ c) ∧ t.session c = s.session c ∧ s.sent.length < t.sent.length)

/-- Messages of an open session, with the host domain running. A KEEPALIVE whose tag does not verify counts in 0x1201:2 and changes nothing else but the
high-water of its lane. A good KEEPALIVE is answered and leaves the writes due. READ of at most 64 items and DESCRIBE are answered, leave the pending
set, and leave every object but those of 0x1201 and the lane counters. CLOSE, and the keep-alive timeout with a message, end the session; none of its
transfers remains, and after CLOSE none of its responses and no safety session. Rests on R357 to R359, R363 and R367. Next states stated:
eopKeepalive, eopRead, eopDescribe, eopClose, keepaliveTimeout. -/
def Obligations.SessionMessages : Prop :=
  (∀ (s : State) (h : MsgHead), s.hostUp = true → (s.session h.chan).isOpen = true → tagOk s h 0x06 0 [] = false →
    exec (.eopKeepalive h) s = .next ((comesIn s h.chan).bump 0x1201 2))
  ∧ (∀ (s : State) (h : MsgHead), Accepts s h 0x06 [] → Answers (.eopKeepalive h) s fun t => Answered h s t ∧ t.host.due = s.host.due)
  ∧ (∀ (s : State) (h : MsgHead) (v : Bool) (items : List ObjRef), Accepts s h 0x10 (readReqBytes v (items.take 64)) → items.length ≤ 64 →
    Answers (.eopRead h v items) s fun t => Answered h s t ∧ t.host.pendSet = s.host.pendSet
      ∧ ∀ i k, i ≠ 0x1201 → laneCounters i = false → k < 65536 → t.obj i k = s.obj i k)
  ∧ (∀ (s : State) (h : MsgHead) (items : List ObjRef), Accepts s h 0x12 (readReqBytes false items) →
    Answers (.eopDescribe h items) s fun t => Answered h s t ∧ t.host.pendSet = s.host.pendSet
      ∧ ∀ i k, i ≠ 0x1201 → laneCounters i = false → k < 65536 → t.obj i k = s.obj i k)
  ∧ (∀ (s : State) (h : MsgHead) (r : BitVec 8), Accepts s h 0x07 [r, 0#8, 0#8, 0#8] →
    Answers (.eopClose h r) s fun t => (t.session h.chan).isOpen = false ∧ (t.session h.chan).safety = false
      ∧ (∀ x ∈ t.host.transfers, x.chan ≠ h.chan) ∧ ∀ x ∈ t.host.resps, x.chan ≠ h.chan)
  ∧ (∀ (s : State) (c : Channel), s.hostUp = true → (s.session c).isOpen = true →
    Answers (.keepaliveTimeout c) s fun t => (t.session c).isOpen = false ∧ (∀ x ∈ t.host.transfers, x.chan ≠ c)
      ∧ s.sent.length < t.sent.length)

/-- WRITE of one item in an open session, outside the service session of a RETIRED card, and the batch. An item that a check refuses has that error last,
and leaves lane 41, the pending set and every object but those of 0x1201 and the lane counters. With an empty pending set a staged one is answered and
is the set, 0x2020:2 being 1 and :4 its owner, lane 41 as it was. Any other, while lane 41 holds fewer than 64, goes last into it with index,
sub-index, bytes, session and number, the pending set as it was. With the host domain running, the close of a batch takes the first 16 elements from
lane 41; what is added to the batch is among them, no two of one object. A serialised write of a plain RW number whose row has no command of its own
gives the object its value, with OK; with none due nothing changes. In the service session of a RETIRED card a WRITE is answered and leaves lane, set
and those objects. Rests on R354, R366, R368 to R370 and R373. Next states stated: eopWrite, writeBatchClose, objectWriteApply. -/
def Obligations.WritesAndBatch : Prop :=
  (∀ (s : State) (h : MsgHead) (w : WriteItem), Accepts s h 0x11 (writeReqBytes [w]) → (h.chan = .eop ∨ s.obj 0x2040 1 ≠ 4) →
    checkItem s false (s.session h.chan).safety w.ref.index.toNat w.ref.sub.toNat w.ty.toNat w.value ≠ 0 →
    Answers (.eopWrite h [w]) s fun t => t.lane 41 = s.lane 41 ∧ t.host.pendSet = s.host.pendSet
      ∧ t.host.lastErr = checkItem s false (s.session h.chan).safety w.ref.index.toNat w.ref.sub.toNat w.ty.toNat w.value
      ∧ ∀ i k, i ≠ 0x1201 → laneCounters i = false → k < 65536 → t.obj i k = s.obj i k)
  ∧ (∀ (s : State) (h : MsgHead) (w : WriteItem) (r : ObjRow), Accepts s h 0x11 (writeReqBytes [w]) → (h.chan = .eop ∨ s.obj 0x2040 1 ≠ 4) →
    checkItem s false (s.session h.chan).safety w.ref.index.toNat w.ref.sub.toNat w.ty.toNat w.value = 0 →
    objInfo s w.ref.index.toNat w.ref.sub.toNat = some r → staged w.ref.index.toNat w.ref.sub.toNat = true → s.host.pendSet = [] →
    Answers (.eopWrite h [w]) s fun t => Answered h s t ∧ t.lane 41 = s.lane 41
      ∧ t.host.pendSet = [⟨w.ref.index.toNat, w.ref.sub.toNat, decodeVal r.ty w.value, r.access == .rws⟩]
      ∧ t.obj 0x2020 2 = 1 ∧ t.obj 0x2020 4 = originOwner (chanOrigin h.chan))
  ∧ (∀ (s : State) (h : MsgHead) (w : WriteItem), Accepts s h 0x11 (writeReqBytes [w]) → (h.chan = .eop ∨ s.obj 0x2040 1 ≠ 4) →
    checkItem s false (s.session h.chan).safety w.ref.index.toNat w.ref.sub.toNat w.ty.toNat w.value = 0 →
    staged w.ref.index.toNat w.ref.sub.toNat = false → (s.lane 41).elems.length < 64 →
    Answers (.eopWrite h [w]) s fun t => t.host.pendSet = s.host.pendSet
      ∧ ∃ x, (t.lane 41).elems = (s.lane 41).elems ++ [.write x] ∧ x.index = w.ref.index.toNat ∧ x.sub = w.ref.sub.toNat
        ∧ x.bytes = w.value ∧ x.origin = chanOrigin h.chan ∧ x.seq = h.seq.toNat)
  ∧ (∀ s : State, s.hostUp = true → Answers .writeBatchClose s fun t => (t.lane 41).elems = (s.lane 41).elems.drop 16
      ∧ ∃ win, t.host.batch = s.host.batch ++ win ∧ (∀ w ∈ win, .write w ∈ (s.lane 41).elems.take 16)
        ∧ win.Pairwise (fun a b => ¬ (a.index = b.index ∧ a.sub = b.sub)))
  ∧ (∀ (s : State) (ref : ObjRef) (w : WriteReq) (r : ObjRow), s.hostUp = true →
    (takeWrite ref.index.toNat ref.sub.toNat s.host.due).1 = some w → objInfo s ref.index.toNat ref.sub.toNat = some r →
    ownRow s ref.index.toNat ref.sub.toNat = false → isBytes r = false → r.access = .rw → laneCounters ref.index.toNat = false →
    Answers (.objectWriteApply ref) s fun t => t.host.lastErr = errOk
      ∧ t.obj ref.index.toNat ref.sub.toNat = storedVal ref.index.toNat ref.sub.toNat w.val)
  ∧ (∀ (s : State) (ref : ObjRef), s.hostUp = true → (takeWrite ref.index.toNat ref.sub.toNat s.host.due).1 = none →
    exec (.objectWriteApply ref) s = .next s)
  ∧ (∀ (s : State) (h : MsgHead) (w : WriteItem), Accepts s h 0x11 (writeReqBytes [w]) → h.chan = .service → s.obj 0x2040 1 = 4 →
    Answers (.eopWrite h [w]) s fun t => Answered h s t ∧ t.lane 41 = s.lane 41 ∧ t.host.pendSet = s.host.pendSet
      ∧ ∀ i k, i ≠ 0x1201 → laneCounters i = false → k < 65536 → t.obj i k = s.obj i k)

/-- The configuration commit, with the host domain running. One while another is under way is BUSY and leaves the set. From the set's owner, of a set
without safety objects: where a check fails it is CONFIG, keeps set and every object but 0x2020 and the lane counters, and 0x2020:3, :5, :6 read 3,
the code and the object of the first failure; where none fails the set is empty and the commit under way holds it, no object changed yet. Without a
power-fail warning the effect of one that was stored ends it with OK, 0x2020:3 = 2 and 0x2020:8 one higher; of one not stored ends it with CONFIG and
3, keeps the set, and changes no object but 0x2020, 0x2080 and the lane counters. Under a warning, or without a commit, nothing changes. Any of the
ten RWS writes of its own whose change-log entry is not committed keeps the old value and counts in 0x2080:4 with 0x0F0E, kind 9, answered STATE (log
entry 166); under a warning it waits. A discard by the owner empties a set, with OK and 0x2020:2 = 0. Rests on R373 to R375. Next states stated:
configCommit, configCommitEffect, configDiscard. -/
def Obligations.ConfigurationCommit : Prop :=
  (∀ (s : State), s.hostUp = true → s.host.commit.isSome = true →
    Answers .configCommit s fun t => t.host.lastErr = errBusy ∧ t.host.pendSet = s.host.pendSet)
  ∧ (∀ (s : State) (f : CommitFail) (fs : List CommitFail), s.hostUp = true → s.host.commit = none →
    ownsSet s (writeOf s 0x2020 1) = true → s.host.pendSet.any (·.rws) = false → commitFails s s.host.pendSet = f :: fs →
    Answers .configCommit s fun t => t.host.lastErr = errConfig ∧ t.host.pendSet = s.host.pendSet ∧ t.host.commit = none
      ∧ t.obj 0x2020 3 = 3 ∧ t.obj 0x2020 5 = f.code ∧ t.obj 0x2020 6 = objKey f.index f.sub
      ∧ ∀ i k, i ≠ 0x2020 → laneCounters i = false → k < 65536 → t.obj i k = s.obj i k)
  ∧ (∀ (s : State), s.hostUp = true → s.host.commit = none → ownsSet s (writeOf s 0x2020 1) = true → s.host.pendSet.any (·.rws) = false →
    commitFails s s.host.pendSet = [] →
    Answers .configCommit s fun t => t.host.pendSet = [] ∧ (∃ o, t.host.commit = some ⟨s.host.pendSet, o⟩) ∧ t.objs = s.objs)
  ∧ (∀ (s : State) (c : Commit), s.hostUp = true → s.host.commit = some c → s.host.pendSet = [] → s.pwr.warning = false →
    Answers (.configCommitEffect true) s fun t => t.host.commit = none ∧ t.host.lastErr = errOk ∧ t.obj 0x2020 3 = 2
      ∧ t.obj 0x2020 8 = countUp 32 (s.obj 0x2020 8))
  ∧ (∀ (s : State) (c : Commit), s.hostUp = true → s.host.commit = some c → s.pwr.warning = false →
    Answers (.configCommitEffect false) s fun t => t.host.commit = none ∧ t.host.lastErr = errConfig ∧ t.obj 0x2020 3 = 3
      ∧ (∀ e ∈ s.host.pendSet, e ∈ t.host.pendSet) ∧ ∀ i k, i ≠ 0x2020 → i ≠ 0x2080 → laneCounters i = false → k < 65536 → t.obj i k = s.obj i k)
  ∧ (∀ (s : State) (b : Bool), s.hostUp = true → (s.host.commit = none ∨ s.pwr.warning = true) → exec (.configCommitEffect b) s = .next s)
  ∧ (∀ (s : State) (c : Instr) (i k : Nat), s.hostUp = true → s.pwr.warning = false → Unstored s c i k → RefusedForStorage c s i k)
  ∧ (∀ (s : State) (c : Instr) (i k : Nat), s.hostUp = true → s.pwr.warning = true → Unstored s c i k → exec c s = .next s)
  ∧ (∀ (s : State), s.hostUp = true → ownsSet s (writeOf s 0x2020 1) = true → s.host.pendSet ≠ [] →
    Answers .configDiscard s fun t => t.host.pendSet = [] ∧ t.host.lastErr = errOk ∧ t.obj 0x2020 2 = 0)

/-- Segmented transfer, in an open session. A SEG_INIT of identifier 0, of one in use, or that is refused is answered and starts nothing; an accepted one
of a write is answered and starts an empty transfer of its length and CRC. A segment at the acknowledged offset, of at most 1,408 bytes, with fewer
than three unacknowledged, not the last, appends its bytes. A SEG_ACK of status 2 of a read, and a SEG_ABORT, end the transfer. With the host domain
running: the acknowledgement timer of a write with segments unacknowledged sends and acknowledges them; the resend timer of a read with bytes left and
a window sends and keeps the acknowledged count; the timeout of a transfer that is not queued, nor a write paused by its window, ends it with a
message. Rests on R371 and R372. Next states stated: segInit, segData, segAck, segAbort, segAckTimer, segResendTimer, segTransferTimeout. -/
def Obligations.SegmentedTransfer : Prop :=
  (∀ (s : State) (h : MsgHead) (tid : BitVec 8) (w : Bool) (ref : ObjRef) (len crc : BitVec 32),
    Accepts s h 0x20 (segInitBytes tid w ref.index.toNat ref.sub.toNat len.toNat crc.toNat) →
    (tid = 0 ∨ (findTransfer s h.chan tid.toNat).isSome = true ∨ segRefusal s h.chan w ref.index.toNat ref.sub.toNat len.toNat ≠ 0) →
    Answers (.segInit h tid w ref len crc) s fun t => Answered h s t ∧ t.host.transfers = s.host.transfers)
  ∧ (∀ (s : State) (h : MsgHead) (tid : BitVec 8) (ref : ObjRef) (len crc : BitVec 32),
    Accepts s h 0x20 (segInitBytes tid true ref.index.toNat ref.sub.toNat len.toNat crc.toNat) → tid ≠ 0 →
    findTransfer s h.chan tid.toNat = none → segRefusal s h.chan true ref.index.toNat ref.sub.toNat len.toNat = 0 →
    Answers (.segInit h tid true ref len crc) s fun t => Answered h s t
      ∧ ∃ x, t.host.transfers = s.host.transfers ++ [x] ∧ x.write = true ∧ x.data = [] ∧ x.acked = 0 ∧ x.len = len.toNat ∧ x.crc = crc.toNat)
  ∧ (∀ (s : State) (h : MsgHead) (tid : BitVec 8) (off : BitVec 32) (b : List Byte) (x : Transfer),
    Accepts s h 0x21 (segDataBytes tid.toNat off.toNat b) → findTransfer s h.chan tid.toNat = some x → x.write = true → x.queued = false →
    x.unacked < 3 → off.toNat = x.acked → b.length ≤ 1408 → x.acked + b.length < x.len →
    Answers (.segData h tid off b) s fun t => ∃ y, findTransfer t h.chan tid.toNat = some y ∧ y.data = x.data ++ b
      ∧ y.acked = x.acked + b.length ∧ y.unacked = x.unacked + 1)
  ∧ (∀ (s : State) (h : MsgHead) (tid : BitVec 8) (w er : BitVec 8) (got : BitVec 32) (x : Transfer),
    Accepts s h 0x22 (segAckBytes tid.toNat 2 w.toNat er.toNat got.toNat) → findTransfer s h.chan tid.toNat = some x → x.write = false →
    Answers (.segAck h tid ⟨2, er⟩ w got) s fun t => findTransfer t h.chan tid.toNat = none)
  ∧ (∀ (s : State) (h : MsgHead) (tid r : BitVec 8), Accepts s h 0x23 [tid, r, 0#8, 0#8] →
    (findTransfer s h.chan tid.toNat).isSome = true →
    Answers (.segAbort h tid r) s fun t => findTransfer t h.chan tid.toNat = none)
  ∧ (∀ (s : State) (c : Channel) (tid : BitVec 8) (x : Transfer), s.hostUp = true → findTransfer s c tid.toNat = some x → x.write = true →
    x.queued = false → 0 < x.unacked →
    Answers (.segAckTimer c tid) s fun t => (∃ y, findTransfer t c tid.toNat = some y ∧ y.unacked = 0 ∧ y.acked = x.acked)
      ∧ s.sent.length < t.sent.length)
  ∧ (∀ (s : State) (c : Channel) (tid : BitVec 8) (x : Transfer), s.hostUp = true → findTransfer s c tid.toNat = some x → x.write = false →
    x.acked < x.len → 0 < x.window →
    Answers (.segResendTimer c tid) s fun t => s.sent.length < t.sent.length ∧ ∃ y, findTransfer t c tid.toNat = some y ∧ y.acked = x.acked)
  ∧ (∀ (s : State) (c : Channel) (tid : BitVec 8) (x : Transfer), s.hostUp = true → findTransfer s c tid.toNat = some x → x.queued = false →
    (x.write = false ∨ x.window ≠ 0) →
    Answers (.segTransferTimeout c tid) s fun t => findTransfer t c tid.toNat = none ∧ s.sent.length < t.sent.length)

/-- Safety sessions, password and key. SAFETY_OPEN in an open session is answered; in the service session of a RETIRED card nonce and safety session stay;
else, outside a lockout it draws a nonce with one free value, in one the nonce stays. With a nonce, outside a lockout, the proof of the password's
derivation opens the safety session, takes the nonce away and zeroes 0x6890:2; any other leaves the session, takes the nonce away and counts in
0x6890:2. SAFETY_CLOSE and the timeout end the safety session, the session as it was. With the host domain running: a password out of bounds is RANGE,
and nothing of the log changes; the first one, in COMMISSION, is OK and kept as PBKDF2 of 100,000 rounds, 0x6890:4 = 1. A pre-shared key not of 32
bytes is TYPE and not stored; one of 32 in COMMISSION is OK and stored, 0x1210:4 = 1. RWS writes take effect here with no power-fail warning and their
log entry committed. Rests on R291, R292, R364 and R365. Next states stated: safetyOpen, safetyProof, safetyClose, safetySessionTimeout,
safetyPasswordWrite, preSharedKeyWrite. -/
def Obligations.SafetySessions : Prop :=
  (∀ (s : State) (h : MsgHead), Accepts s h 0x40 [] → (h.chan = .eop ∨ s.obj 0x2040 1 ≠ 4) → lockedOut s = false →
    Answers (.safetyOpen h) s fun t => Answered h s t ∧ (t.session h.chan).nonce.isSome = true
      ∧ (t.session h.chan).safety = (s.session h.chan).safety ∧ t.free = s.free + 1)
  ∧ (∀ (s : State) (h : MsgHead), Accepts s h 0x40 [] → (h.chan = .eop ∨ s.obj 0x2040 1 ≠ 4) → lockedOut s = true →
    Answers (.safetyOpen h) s fun t => Answered h s t ∧ (t.session h.chan).nonce = (s.session h.chan).nonce)
  ∧ (∀ (s : State) (h : MsgHead) (n : List Byte), Accepts s h 0x42 (hmacSha256 s.log.derived (asciiBytes "EOP-P" ++ n ++ sidBytes (s.session h.chan).sid)) →
    (s.session h.chan).nonce = some n → lockedOut s = false → s.log.derived ≠ [] →
    Answers (.safetyProof h (hmacSha256 s.log.derived (asciiBytes "EOP-P" ++ n ++ sidBytes (s.session h.chan).sid))) s fun t =>
      (t.session h.chan).safety = true ∧ (t.session h.chan).nonce = none ∧ t.obj 0x6890 2 = 0 ∧ bitOf (t.obj 0x1211 2) (chanBit h.chan) = true)
  ∧ (∀ (s : State) (h : MsgHead) (n proof : List Byte), Accepts s h 0x42 proof → (s.session h.chan).nonce = some n → lockedOut s = false →
    proof ≠ hmacSha256 s.log.derived (asciiBytes "EOP-P" ++ n ++ sidBytes (s.session h.chan).sid) → s.obj 0x6890 2 < 65535 →
    Answers (.safetyProof h proof) s fun t => (t.session h.chan).safety = (s.session h.chan).safety ∧ (t.session h.chan).nonce = none
      ∧ t.obj 0x6890 2 = s.obj 0x6890 2 + 1)
  ∧ (∀ (s : State) (h : MsgHead), Accepts s h 0x44 [] → Answers (.safetyClose h) s fun t =>
      (t.session h.chan).safety = false ∧ (t.session h.chan).isOpen = true)
  ∧ (∀ (s : State) (c : Channel), s.hostUp = true → Answers (.safetySessionTimeout c) s fun t =>
      (t.session c).safety = false ∧ (t.session c).isOpen = (s.session c).isOpen)
  ∧ (∀ (s : State) (p : List Byte), s.hostUp = true → passwordOk p = false →
    Answers (.safetyPasswordWrite p) s fun t => t.host.lastErr = errRange ∧ t.log = s.log)
  ∧ (∀ (s : State) (p : List Byte), s.hostUp = true → s.pwr.warning = false → entryFails s = false → passwordOk p = true → s.log.derived = [] → s.obj 0x2040 1 = 1 →
    Answers (.safetyPasswordWrite p) s fun t => t.host.lastErr = errOk ∧ t.log.derived = pbkdf2 p t.log.salt 100000 ∧ t.obj 0x6890 4 = 1)
  ∧ (∀ (s : State) (k : List Byte), s.hostUp = true → k.length ≠ 32 →
    Answers (.preSharedKeyWrite k) s fun t => t.host.lastErr = errType ∧ t.host.psk = s.host.psk)
  ∧ (∀ (s : State) (k : List Byte), s.hostUp = true → s.pwr.warning = false → entryFails s = false → k.length = 32 → s.obj 0x2040 1 = 1 →
    Answers (.preSharedKeyWrite k) s fun t => t.host.lastErr = errOk ∧ t.host.psk = k ∧ t.obj 0x1210 4 = 1)
  ∧ (∀ (s : State) (h : MsgHead), Accepts s h 0x40 [] → h.chan = .service → s.obj 0x2040 1 = 4 →
    Answers (.safetyOpen h) s fun t => Answered h s t ∧ (t.session h.chan).nonce = (s.session h.chan).nonce
      ∧ (t.session h.chan).safety = (s.session h.chan).safety)

/-- Networks and the service port, with the host domain running. A PRP frame counts on its LAN in 0x1101, and as of the wrong LAN where its trailer names
the other; the LAN is up. A supervision frame leaves on both LANs, numbered one higher. A LAN without link is down with 0x0D0B. A forgotten node is no
longer in the table, and 0x1101:7 is its length. An ARP request and an echo to the module's address, where it has one, are answered on both LANs; an
ARP request to another, and a fragment of an echo, change nothing. The service port attaches with 0x1500:1 = 1 and 0x0D10, and a port attached
detaches with 0 and its session closed. Rests on R356, R366, R379 and R380. Next states stated: prpFrameReceived, prpSupervisionSend, prpLanTimeout,
prpNodeForget, arpRequest, icmpEcho, servicePortAttach, servicePortDetach. -/
def Obligations.NetworkAndServicePort : Prop :=
  (∀ (s : State) (lan : Fin 2) (src : BitVec 48) (tr : Bool) (id : BitVec 4) (q : BitVec 16), s.hostUp = true →
    Answers (.prpFrameReceived lan src tr id q) s fun t => t.obj 0x1101 (2 + lan.val) = countUp 32 (s.obj 0x1101 (2 + lan.val))
      ∧ t.obj 0x1101 (4 + lan.val) = (if tr = true ∧ id.toNat = 0xB - lan.val then countUp 32 (s.obj 0x1101 (4 + lan.val))
          else s.obj 0x1101 (4 + lan.val))
      ∧ bitOf (t.obj 0x1101 1) lan.val = true)
  ∧ (∀ s : State, s.hostUp = true → Answers .prpSupervisionSend s fun t => ∃ a b, t.sent = s.sent ++ [a, b] ∧ a.link = 0 ∧ b.link = 1
      ∧ t.host.prpSeq = (s.host.prpSeq + 1) % 65536)
  ∧ (∀ (s : State) (lan : Fin 2), s.hostUp = true → bitOf (s.obj 0x1101 1) lan.val = true →
    Answers (.prpLanTimeout lan true) s fun t => bitOf (t.obj 0x1101 1) lan.val = false ∧ Writes 0x0D0B [d32 lan.val] s t)
  ∧ (∀ (s : State) (src : BitVec 48), s.hostUp = true →
    Answers (.prpNodeForget src) s fun t => (∀ n ∈ t.host.nodes, n ∈ s.host.nodes ∧ n.1 ≠ src.toNat) ∧ t.obj 0x1101 7 = t.host.nodes.length)
  ∧ (∀ (s : State) (lan : Fin 2) (target sender : BitVec 32) (mac : BitVec 48), s.hostUp = true → s.host.ip ≠ 0 → target.toNat = s.host.ip →
    Answers (.arpRequest lan target sender mac) s fun t => t.sent.length = s.sent.length + 2)
  ∧ (∀ (s : State) (lan : Fin 2) (target sender : BitVec 32) (mac : BitVec 48), s.hostUp = true → (s.host.ip = 0 ∨ target.toNat ≠ s.host.ip) →
    exec (.arpRequest lan target sender mac) s = .next s)
  ∧ (∀ (s : State) (dst src : BitVec 32) (body : List Byte), s.hostUp = true → s.host.ip ≠ 0 → dst.toNat = s.host.ip →
    Answers (.icmpEcho dst src false body) s fun t => t.sent.length = s.sent.length + 2)
  ∧ (∀ (s : State) (dst src : BitVec 32) (body : List Byte), s.hostUp = true → exec (.icmpEcho dst src true body) s = .next s)
  ∧ (∀ s : State, s.hostUp = true → s.obj 0x1500 1 = 0 →
    Answers .servicePortAttach s fun t => t.obj 0x1500 1 = 1 ∧ Writes 0x0D10 [d32 1] s t)
  ∧ (∀ s : State, s.hostUp = true → s.obj 0x1500 1 ≠ 0 →
    Answers .servicePortDetach s fun t => t.obj 0x1500 1 = 0 ∧ t.host.service.isOpen = false)

/-! ### Alley -/

/-- Command frames that Alley turns away, with its engine supplied (the 3.3 V standby). For each of the fourteen commands, a frame whose CRC does not fit
its code and length is counted in 0x1400:4 and holds status 2; for seven without parameters a wrong length holds 7. OBJECT_READ while the host domain
is down holds 5, whatever its length; BANK_SELECT with the lock closed 6. A refusal of a command that changes state (codes 06, 08, 09, 11, 12) is
recorded with 0x0D0F, its status the result. Beyond the frame's own count (`alleyIn`) and the response held nothing changes. Without the engine five
of them, as named, change nothing. Rests on R382 to R384. Next states stated: objectRead, bankSelect. -/
def Obligations.AlleyFrames : Prop :=
  (∀ (s : State) (c : List Byte → BitVec 8 → Instr) (code : Nat) (p : List Byte) (k : BitVec 8), (c, code) ∈ ([(.identity, 0x01), (.health, 0x02), (.eventNewest, 0x03),
      (.eventRead, 0x04), (.lifecycleGet, 0x05), (.lifecycleRequest, 0x06), (.bankGet, 0x07), (.bankSelect, 0x08), (.resetRequest, 0x09),
      (.lockChallenge, 0x10), (.lockProof, 0x11), (.lockClose, 0x12), (.objectRead, 0x20), (.objectWrite, 0x21)] : List ((List Byte → BitVec 8 → Instr) × Nat)) →
    hkUp s = true → k.toNat ≠ cmdCrc (alleyIn s) code p →
    exec (c p k) s = .next (holdResponse ((alleyIn s).bump 0x1400 4) 2 []))
  ∧ (∀ (s : State) (c : List Byte → BitVec 8 → Instr) (code : Nat) (p : List Byte) (k : BitVec 8), (c, code) ∈ ([(.identity, 0x01), (.health, 0x02), (.eventNewest, 0x03),
      (.lifecycleGet, 0x05), (.bankGet, 0x07), (.lockChallenge, 0x10), (.lockClose, 0x12)] : List ((List Byte → BitVec 8 → Instr) × Nat)) →
    hkUp s = true → k.toNat = cmdCrc (alleyIn s) code p → p ≠ [] → exec (c p k) s = .next (alleyRefuse (alleyIn s) code 7))
  ∧ (∀ (s : State) (p : List Byte) (k : BitVec 8), s.hostUp = false → s.pwr.standbyUp = true → k.toNat = cmdCrc (alleyIn s) 0x20 p →
    exec (.objectRead p k) s = .next (holdResponse (alleyIn s) 5 []))
  ∧ (∀ (s : State) (p : List Byte) (k : BitVec 8), hkUp s = true → k.toNat = cmdCrc (alleyIn s) 0x08 p → p.length = 2 → s.alley.lock = false →
    exec (.bankSelect p k) s = .next (alleyRefuse (alleyIn s) 0x08 6))
  ∧ (∀ (s : State) (code st : Nat), (code ∈ [0x06, 0x08, 0x09, 0x11, 0x12] →
      alleyRefuse s code st = holdResponse (raiseHk s 0x0D0F [d32 code, d32 st]) st [])
    ∧ (code ∉ [0x06, 0x08, 0x09, 0x11, 0x12] → alleyRefuse s code st = holdResponse s st []))
  ∧ (∀ (s : State) (c : List Byte → BitVec 8 → Instr) (p : List Byte) (k : BitVec 8), (c = .identity ∨ c = .health ∨ c = .eventNewest ∨ c = .eventRead ∨ c = .objectWrite) →
    hkUp s = false → exec (c p k) s = .next s)

/-- What Alley's readings hold as the response, each with status 0 where its frame is right and the engine is supplied. IDENTITY: SC576-01 and the serial
number first. HEALTH: flags of supply, domains and latched causes, and the life-cycle state. EVENT_NEWEST: newest number and the sizes of both areas.
EVENT_READ: the asked part of 16 bytes of the record, or status 0x07 where no area holds the number. LIFECYCLE_GET: 0x2040:1 and :3. BANK_GET:
0x2050:3 to :5. OBJECT_READ, with the host domain running and a value of at most 24 bytes: error, type, length and value as the object server reads
it. Reading the response sends it, or status 8 where none is held. States R421. Next states stated: identity, health, eventNewest, eventRead,
lifecycleGet, bankGet, objectRead, alleyResponseRead. -/
def Obligations.AlleyReadings : Prop :=
  (∀ (s : State) (k : BitVec 8), hkUp s = true → k.toNat = cmdCrc (alleyIn s) 0x01 [] →
    Answers (.identity [] k) s fun t => ∃ b, t.alley.response = some (0, asciiBytes "SC576-01" ++ serialBytes ++ b))
  ∧ (∀ (s : State) (k : BitVec 8), hkUp s = true → k.toNat = cmdCrc (alleyIn s) 0x02 [] →
    Answers (.health [] k) s fun t => ∃ f b, t.alley.response = some (0, d8 f ++ d8 (s.obj 0x2040 1) ++ b)
      ∧ bitOf f 0 = s.pwr.mainUp ∧ bitOf f 1 = s.hostUp ∧ bitOf f 2 = (s.hostUp && s.stringUp) ∧ bitOf f 3 = decide (s.obj 0x6801 0 ≠ 0))
  ∧ (∀ (s : State) (k : BitVec 8), hkUp s = true → k.toNat = cmdCrc (alleyIn s) 0x03 [] →
    Answers (.eventNewest [] k) s fun t =>
      t.alley.response = some (0, d32 (s.obj 0x8000 1) ++ leBytes 2 (s.evt.founding.length : Int) ++ leBytes 2 (s.evt.circ.length : Int)))
  ∧ (∀ (s : State) (p : List Byte) (k : BitVec 8), hkUp s = true → k.toNat = cmdCrc (alleyIn s) 0x04 p → p.length = 5 →
    Answers (.eventRead p k) s fun t =>
      (recordOf s (getLe p 0 4) = none → t.alley.response = some (7, []))
      ∧ (∀ r, recordOf s (getLe p 0 4) = some r → getLe p 4 1 ≤ 3 →
          t.alley.response = some (0, BitVec.ofNat 8 (getLe p 4 1) :: sliceAt r (16 * getLe p 4 1) 16)))
  ∧ (∀ (s : State) (k : BitVec 8), hkUp s = true → k.toNat = cmdCrc (alleyIn s) 0x05 [] →
    Answers (.lifecycleGet [] k) s fun t => t.alley.response = some (0, d8 (s.obj 0x2040 1) ++ d8 (s.obj 0x2040 3)))
  ∧ (∀ (s : State) (k : BitVec 8), hkUp s = true → k.toNat = cmdCrc (alleyIn s) 0x07 [] →
    Answers (.bankGet [] k) s fun t => t.alley.response = some (0, d8 (s.obj 0x2050 3) ++ d8 (s.obj 0x2050 4) ++ d8 (s.obj 0x2050 5)))
  ∧ (∀ (s : State) (p : List Byte) (k : BitVec 8), s.hostUp = true → hkUp s = true → k.toNat = cmdCrc (alleyIn s) 0x20 p → p.length = 4 →
    (readItem (alleyIn s) false (getLe p 0 2) (getLe p 2 2)).2.2.length ≤ 24 →
    Answers (.objectRead p k) s fun t => ∃ e ty v, readItem (alleyIn s) false (getLe p 0 2) (getLe p 2 2) = (e, ty, v)
      ∧ t.alley.response = some (0, [BitVec.ofNat 8 e, BitVec.ofNat 8 ty, BitVec.ofNat 8 v.length] ++ v))
  ∧ (∀ (s : State) (st : Nat) (p : List Byte), hkUp s = true → s.alley.mailbox = none → s.alley.response = some (st, p) →
    exec .alleyResponseRead s = .next (alleyOut s st p))
  ∧ (∀ s : State, hkUp s = true → s.alley.mailbox = none → s.alley.response = none →
    exec .alleyResponseRead s = .next (alleyOut s 8 []))

/-- The requests of Alley, each in a right frame, with the domains it needs. LOCK_CHALLENGE outside a lockout draws a nonce, the lock as it was; in one it
holds 6 (log entry 167). Outside a lockout the right proof opens the lock, takes the nonce away, zeroes 0x6890:2 and holds 0; a wrong one leaves the
lock, takes the nonce away and counts. LOCK_CLOSE and the idle timeout close the lock. OBJECT_WRITE of a RW object that is not staged, with writes
enabled, outside RETIRED, on an ACTIVE card, is held as BUSY in the mailbox, the lanes as they are. The poll gives a refused write its error and
leaves the host; one that may be made goes last into lane 41. Under the lock, BANK_SELECT of a valid bank with its key selects it, with a trial at the
next start where it changes. LIFECYCLE_REQUEST that R445 refuses leaves the state, gives 0x2040:4 its reason and result 1; any other begins: from, to
and source 2, reset of source 7 due, result 0. RESET_REQUEST with its key that may act, or is forced, has the reset of source 5 due; else status 4 and
none. Rests on R66, R292, R383, R385, R386, R436 and R445. Next states stated: lockChallenge, lockProof, lockClose, alleyLockTimeout, objectWrite,
alleyMailboxPoll, bankSelect, lifecycleRequest, resetRequest. -/
def Obligations.AlleyRequests : Prop :=
  (∀ (s : State) (k : BitVec 8), hkUp s = true → lockedOut s = false → k.toNat = cmdCrc (alleyIn s) 0x10 [] →
    Answers (.lockChallenge [] k) s fun t => t.alley.nonce.isSome = true ∧ t.free = s.free + 1 ∧ t.alley.lock = s.alley.lock)
  ∧ (∀ (s : State) (k : BitVec 8), hkUp s = true → lockedOut s = true → k.toNat = cmdCrc (alleyIn s) 0x10 [] →
    exec (.lockChallenge [] k) s = .next (holdResponse (alleyIn s) 6 []))
  ∧ (∀ (s : State) (k : BitVec 8) (n : List Byte), s.hostUp = true → hkUp s = true → lockedOut s = false → s.alley.nonce = some n → s.log.derived ≠ [] →
    ((hmacSha256 s.log.derived (asciiBytes "ALY-P" ++ n)).take 16).length = 16 →
    k.toNat = cmdCrc (alleyIn s) 0x11 ((hmacSha256 s.log.derived (asciiBytes "ALY-P" ++ n)).take 16) →
    Answers (.lockProof ((hmacSha256 s.log.derived (asciiBytes "ALY-P" ++ n)).take 16) k) s fun t => t.alley.lock = true ∧ t.alley.nonce = none
      ∧ t.obj 0x6890 2 = 0 ∧ t.alley.response = some (0, 0#8 :: leBytes 4 0))
  ∧ (∀ (s : State) (p : List Byte) (k : BitVec 8) (n : List Byte), s.hostUp = true → hkUp s = true → lockedOut s = false → s.alley.nonce = some n → p.length = 16 →
    p ≠ (hmacSha256 s.log.derived (asciiBytes "ALY-P" ++ n)).take 16 → k.toNat = cmdCrc (alleyIn s) 0x11 p → s.obj 0x6890 2 < 65535 →
    Answers (.lockProof p k) s fun t => t.alley.lock = s.alley.lock ∧ t.alley.nonce = none ∧ t.obj 0x6890 2 = s.obj 0x6890 2 + 1)
  ∧ (∀ (s : State) (k : BitVec 8), s.hostUp = true → hkUp s = true → k.toNat = cmdCrc (alleyIn s) 0x12 [] →
    Answers (.lockClose [] k) s fun t => t.alley.lock = false ∧ t.alley.nonce = none ∧ t.alley.response = some (0, []))
  ∧ (∀ s : State, Answers .alleyLockTimeout s fun t => t.alley.lock = false ∧ t.alley.nonce = none)
  ∧ (∀ (s : State) (p : List Byte) (k : BitVec 8) (r : ObjRow), s.hostUp = true → hkUp s = true → k.toNat = cmdCrc (alleyIn s) 0x21 p → 6 ≤ p.length →
    s.obj 0x1400 6 ≠ 0 → s.obj 0x2040 1 ≠ 4 → objInfo (alleyIn s) (getLe p 0 2) (getLe p 2 2) = some r → r.access = .rw → r.ty ≠ .domain → staged (getLe p 0 2) (getLe p 2 2) = false →
    getLe p 5 1 ≤ 21 → p.length = 6 + getLe p 5 1 → s.isActive = true →
    Answers (.objectWrite p k) s fun t => t.alley.response = some (1, []) ∧ t.lanes = s.lanes
      ∧ ∃ m, t.alley.mailbox = some m ∧ m.req.index = getLe p 0 2 ∧ m.req.sub = getLe p 2 2 ∧ m.req.bytes = p.drop 6 ∧ m.pushed = false ∧ m.result = none)
  ∧ (∀ (s : State) (m : Mailbox), s.hostUp = true → s.alley.mailbox = some m → m.pushed = false → m.result = none →
    checkItem s true m.req.locked m.req.index m.req.sub m.req.val.toNat m.req.bytes ≠ 0 →
    Answers .alleyMailboxPoll s fun t => t.alley.mailbox
      = some { m with result := some (checkItem s true m.req.locked m.req.index m.req.sub m.req.val.toNat m.req.bytes) } ∧ t.host = s.host)
  ∧ (∀ (s : State) (m : Mailbox), s.hostUp = true → s.alley.mailbox = some m → m.pushed = false → m.result = none →
    checkItem s true m.req.locked m.req.index m.req.sub m.req.val.toNat m.req.bytes = 0 → staged m.req.index m.req.sub = false →
    (s.lane 41).elems.length < 64 →
    Answers .alleyMailboxPoll s fun t => ∃ n w, t.alley.mailbox = some n ∧ n.pushed = true ∧ (t.lane 41).elems = (s.lane 41).elems ++ [.write w]
      ∧ w.index = m.req.index ∧ w.sub = m.req.sub)
  ∧ (∀ (s : State) (p : List Byte) (k : BitVec 8), s.hostUp = true → hkUp s = true → k.toNat = cmdCrc (alleyIn s) 0x08 p → p.length = 2 → s.alley.lock = true →
    getLe p 1 1 = 0x5A → getLe p 0 1 ≤ 1 → bitOf (s.obj 0x2050 5) (getLe p 0 1) = true →
    Answers (.bankSelect p k) s fun t => t.obj 0x2050 4 = getLe p 0 1 ∧ t.alley.response = some (0, [0#8])
      ∧ (s.obj 0x2050 4 ≠ getLe p 0 1 → t.pwr.trialNext = true))
  ∧ (∀ (s : State) (p : List Byte) (k : BitVec 8), s.hostUp = true → hkUp s = true → k.toNat = cmdCrc (alleyIn s) 0x06 p → p.length = 2 →
    (s.obj 0x2040 1 ≠ 0 → s.alley.lock = true) → getLe p 1 1 = 0x5A → getLe p 0 1 ≤ 4 →
    transitionRefusal (alleyIn s) (getLe p 0 1) s.alley.lock ≠ 0 →
    Answers (.lifecycleRequest p k) s fun t => t.obj 0x2040 1 = s.obj 0x2040 1 ∧ t.pwr.transition = s.pwr.transition
      ∧ t.obj 0x2040 4 = transitionRefusal (alleyIn s) (getLe p 0 1) s.alley.lock ∧ t.alley.response = some (0, [1#8]))
  ∧ (∀ (s : State) (p : List Byte) (k : BitVec 8), s.hostUp = true → hkUp s = true → k.toNat = cmdCrc (alleyIn s) 0x06 p → p.length = 2 →
    (s.obj 0x2040 1 ≠ 0 → s.alley.lock = true) → getLe p 1 1 = 0x5A → getLe p 0 1 ≤ 4 →
    transitionRefusal (alleyIn s) (getLe p 0 1) s.alley.lock = 0 →
    Answers (.lifecycleRequest p k) s fun t => (∃ x, t.pwr.transition = some x ∧ x.1 = s.objN 0x2040 1 ∧ x.2.1 = getLe p 0 1 ∧ x.2.2.1 = 2)
      ∧ t.pwr.resetDue = some 7 ∧ t.obj 0x2040 3 = getLe p 0 1 ∧ t.alley.response = some (0, [0#8]))
  ∧ (∀ (s : State) (p : List Byte) (k : BitVec 8), s.hostUp = true → hkUp s = true → k.toNat = cmdCrc (alleyIn s) 0x09 p → p.length = 2 → getLe p 0 1 = 0x5A →
    (resetRefused (alleyIn s) = false ∨ (getLe p 1 1).testBit 0 = true) →
    Answers (.resetRequest p k) s fun t => t.pwr.resetDue = some 5 ∧ t.alley.response = some (0, [0#8]))
  ∧ (∀ (s : State) (p : List Byte) (k : BitVec 8), s.hostUp = true → hkUp s = true → k.toNat = cmdCrc (alleyIn s) 0x09 p → p.length = 2 → getLe p 0 1 = 0x5A →
    resetRefused (alleyIn s) = true → (getLe p 1 1).testBit 0 = false →
    Answers (.resetRequest p k) s fun t => t.pwr.resetDue = s.pwr.resetDue ∧ t.alley.response = some (4, []))

/-! ### CAN -/

/-- CAN transmission and reception. With the string domain running: in state 2 or above, or where it is malformed, an element leaves the controller's lane
and no buffer changes; on the bus, with empty buffers and no order, a good one is in buffer 0. An attempt that is sent frees its buffer, counts and
puts its frame on the bus's link (a classic one with a DLC of 9 to 15 with 8 data bytes); one that lost arbitration keeps it with one more attempt up
to its limit, counting in :7 and not in :2, and frees it beyond. Each further rise adds 8 to the transmit counter. At a reset the rates written come
into force. With the host domain running, 72 bytes go last into a lane with room, with OK; another length is RANGE and leaves the lanes. In states 2,
4 and above a received frame changes nothing; in 0, 1 and 3, for no station, without isolation, filtered into a queue with room, it is stored last and
counts. A receive error in state 0 or 1 adds 1 or 8 to the receive counter, up to 255, and a CRC error counts in :11. Rests on R390 to R395, R398,
R400 and R404. Next states stated: canBufferLoad, canAttemptEnd, canHostTransmit, canFrameReceived, canReceiveError. -/
def Obligations.CanTraffic : Prop :=
  (∀ (s : State) (b : Fin 3) (e : List Byte) (r : List Elem), s.stringUp = true → (s.lane (9 + b.val)).elems = .bytes e :: r →
    (2 ≤ canState s b ∨ elBad s b e = true) →
    Answers (.canBufferLoad b) s fun t => (t.lane (9 + b.val)).elems = r ∧ (t.can b).bufs = (s.can b).bufs)
  ∧ (∀ (s : State) (b : Fin 3) (e : List Byte) (r : List Elem), s.stringUp = true → (s.lane (9 + b.val)).elems = .bytes e :: r →
    canState s b ≤ 1 → elBad s b e = false → (s.can b).order = 0 → (s.can b).bufs = [none, none, none] →
    Answers (.canBufferLoad b) s fun t => (t.lane (9 + b.val)).elems = r
      ∧ (t.can b).bufs = [some { elem := e, order := (s.can b).loads }, none, none] ∧ (t.can b).loads = (s.can b).loads + 1)
  ∧ (∀ (s : State) (b : Fin 3) (d : BitVec 16) (k : Nat) (f : CanBuf), s.stringUp = true → (s.can b).sending = some k →
    (s.can b).bufs.getD k none = some f →
    ∀ m : BitVec 5, Answers (.canAttemptEnd b .sent ⟨d, m⟩) s fun t => (t.can b).bufs.getD k none = none
      ∧ t.obj (canIx b + 2) 5 = countUp 32 (s.obj (canIx b + 2) 5) ∧ t.sent = s.sent ++ [⟨14 + b.val, canFrame f.elem⟩])
  ∧ (∀ e : List Byte, 72 ≤ e.length → (getLe e 4 1).testBit 4 = false → (elWord e).testBit 30 = false → 9 ≤ getLe e 4 1 % 16 →
    (canFrame e).length = 13 ∧ (canFrame e).take 5 = e.take 5)
  ∧ (∀ (s : State) (b : Fin 3), ((canStart s).can b).nominal = ⟨s.objN (canIx b + 1) 1, s.objN (canIx b + 1) 2⟩
    ∧ ((canStart s).can b).data = ⟨s.objN (canIx b + 1) 3, s.objN (canIx b + 1) 4⟩)
  ∧ (∀ (s : State) (b : Fin 3) (d : BitVec 16) (k : Nat) (f : CanBuf), s.stringUp = true → (s.can b).sending = some k →
    (s.can b).bufs.getD k none = some f → f.attempts + 1 ≤ elLimit s b f.elem →
    ((elWord f.elem).testBit 30 = true → s.objB (canIx b + 1) 5 = true) →
    Answers (.canAttemptEnd b .arbitration ⟨d, 0⟩) s fun t => (t.can b).bufs.getD k none = some { f with attempts := f.attempts + 1 }
      ∧ t.obj (canIx b + 2) 7 = countUp 32 (s.obj (canIx b + 2) 7) ∧ t.obj (canIx b + 2) 2 = s.obj (canIx b + 2) 2)
  ∧ (∀ (s : State) (b : Fin 3) (d : BitVec 16) (k : Nat) (f : CanBuf), s.stringUp = true → (s.can b).sending = some k →
    (s.can b).bufs.getD k none = some f → elLimit s b f.elem < f.attempts + 1 →
    ∀ m : BitVec 5, Answers (.canAttemptEnd b .arbitration ⟨d, m⟩) s fun t => (t.can b).bufs.getD k none = none)
  ∧ (∀ (s : State) (b : Fin 3) (e : List Byte), s.hostUp = true → e.length = 72 → (s.lane (9 + b.val)).elems.length < 32 →
    Answers (.canHostTransmit b e) s fun t => (t.lane (9 + b.val)).elems = (s.lane (9 + b.val)).elems ++ [.bytes e] ∧ t.host.lastErr = errOk)
  ∧ (∀ (s : State) (b : Fin 3) (e : List Byte), s.hostUp = true → e.length ≠ 72 →
    Answers (.canHostTransmit b e) s fun t => t.lanes = s.lanes ∧ t.host.lastErr = errRange)
  ∧ (∀ (s : State) (b : Fin 3) (w : BitVec 32) (f : BitVec 6) (d : List Byte), s.stringUp = true → (canState s b = 2 ∨ 4 ≤ canState s b) →
    exec (.canFrameReceived b w f d) s = .next s)
  ∧ (∀ (s : State) (b : Fin 3) (w : BitVec 32) (f : BitVec 6) (d : List Byte) (k : Nat), s.stringUp = true → (canState s b ≤ 1 ∨ canState s b = 3) →
    canStations s b w.toNat = [] → s.obj (canIx b) 8 = 0 → nativeFilter s b w.toNat = (k, true, false) → (canQueue s b false).length < 64 →
    Answers (.canFrameReceived b w f d) s fun t => (∃ e, canQueue t b false = canQueue s b false ++ [e])
      ∧ t.obj (canIx b + 2) 6 = countUp 32 (s.obj (canIx b + 2) 6))
  ∧ (∀ (s : State) (b : Fin 3) (m : Nat), (s.can b).off = none → s.obj (canIx b + 2) 2 + 8 * m < 256 →
    (moreTec s b m).obj (canIx b + 2) 2 = s.obj (canIx b + 2) 2 + 8 * m)
  ∧ (∀ (s : State) (b : Fin 3) (kind : CanError) (by8 : Bool), s.stringUp = true → canState s b ≤ 1 →
    Answers (.canReceiveError b kind by8) s fun t =>
      t.obj (canIx b + 2) 3 = min 255 (s.obj (canIx b + 2) 3 + if by8 then 8 else 1)
      ∧ (kind = .crc → t.obj (canIx b + 2) 11 = countUp 32 (s.obj (canIx b + 2) 11)))

/-- CAN control. With the string domain running: in bus-off, in automatic mode, the hold-off of :5 ms starts the recovery; a recovery that completes ends
bus-off with both counters 0. With the host domain running: a recovery written in bus-off starts, with OK; in another state it is STATE and leaves the
controllers. A filter list that R402 refuses is RANGE and leaves the DOMAIN values; another is the list, :2 its number of filters, with OK. Clearing
zeroes ten counters and leaves the transmit error counter and the controllers. Rests on R399 and R402. Next states stated: canRecoveryHoldoff,
canRecoverNow, canRecoveryComplete, canFilterListWrite, canClearCounters. -/
def Obligations.CanControl : Prop :=
  (∀ (s : State) (b : Fin 3) (c : Nat), s.stringUp = true → (s.can b).off = some c → (s.can b).recovering = false → s.obj (canIx b) 4 = 0 →
    s.obj (canIx b) 5 * 1000000 ≤ elapsedNs s.clk c s.clk.c →
    Answers (.canRecoveryHoldoff b) s fun t => (t.can b).recovering = true ∧ (t.can b).off = some c)
  ∧ (∀ (s : State) (b : Fin 3), s.hostUp = true → canState s b = 2 →
    Answers (.canRecoverNow b) s fun t => (t.can b).recovering = true ∧ t.host.lastErr = errOk)
  ∧ (∀ (s : State) (b : Fin 3), s.hostUp = true → canState s b ≠ 2 →
    Answers (.canRecoverNow b) s fun t => t.cans = s.cans ∧ t.host.lastErr = errState)
  ∧ (∀ (s : State) (b : Fin 3) (c : Nat), s.stringUp = true → (s.can b).off = some c → (s.can b).recovering = true →
    Answers (.canRecoveryComplete b) s fun t => (t.can b).off = none ∧ (t.can b).recovering = false ∧ t.obj (canIx b + 2) 2 = 0
      ∧ t.obj (canIx b + 2) 3 = 0)
  ∧ (∀ (s : State) (b : Fin 3) (l : List Byte) (k r : Nat), s.hostUp = true → filterBad l = some (k, r) →
    Answers (.canFilterListWrite b l) s fun t => t.doms = s.doms ∧ t.host.lastErr = errRange)
  ∧ (∀ (s : State) (b : Fin 3) (l : List Byte), s.hostUp = true → filterBad l = none →
    Answers (.canFilterListWrite b l) s fun t => t.dom (canIx b + 8) 1 = l ∧ t.obj (canIx b + 8) 2 = l.length / 8 ∧ t.host.lastErr = errOk)
  ∧ (∀ (s : State) (b : Fin 3), s.hostUp = true →
    Answers (.canClearCounters b) s fun t => (∀ k ∈ [5, 6, 7, 8, 9, 10, 11, 12, 13, 17], t.obj (canIx b + 2) k = 0)
      ∧ t.obj (canIx b + 2) 2 = s.obj (canIx b + 2) 2 ∧ t.cans = s.cans)

/-! ### The event recorder -/

/-- The recorder, with the host domain running. A request in lane 37 of class 0, or whose code and module have a token, leaves that lane, takes the next
number and goes last into lane 3 where that has room, nothing pending of its code; one whose code has none, while the module has one, leaves the lane
and is counted as pending and in 0x8016:1, no number taken. A record in lane 3, once the card has left BLANK, goes last into the founding area while
that holds fewer than 4,096; else into slot number mod 32,768 of the circulating area; 0x8000:1 is its number. The examination of the only code
pending, where its summary is due, writes it with the next number and nothing is pending; where it is not, nothing changes. Rests on R411, R412 and
R416 to R418. Next states stated: eventFrontRequest, eventWrite, suppressionExamination. -/
def Obligations.EventRecorder : Prop :=
  (∀ (s : State) (e : EventReq) (r : List Elem), s.hostUp = true → (s.lane 37).elems = .event e :: r → (s.lane 3).elems.length < 64 →
    (rateClass e.code = 0 ∨ (65536 ≤ codeTokens s e.code ∧ 65536 ≤ globalTokens s)) →
    Answers .eventFrontRequest s fun t => (t.lane 37).elems = r ∧ t.evt.next = s.evt.next + 1 ∧ pendingOf t e.code = 0
      ∧ ∃ b, (t.lane 3).elems = (s.lane 3).elems ++ [.bytes b] ∧ b.take 4 = leBytes 4 s.evt.next)
  ∧ (∀ (s : State) (e : EventReq) (r : List Elem), s.hostUp = true → (s.lane 37).elems = .event e :: r → rateClass e.code ≠ 0 →
    codeTokens s e.code < 65536 → 65536 ≤ globalTokens s → pendingOf s e.code < 65535 →
    Answers .eventFrontRequest s fun t => (t.lane 37).elems = r ∧ t.evt.next = s.evt.next ∧ pendingOf t e.code = pendingOf s e.code + 1
      ∧ t.obj 0x8016 1 = countUp 32 (s.obj 0x8016 1) ∧ t.lane 3 = s.lane 3)
  ∧ (∀ (s : State) (b : List Byte) (r : List Elem), s.hostUp = true → (s.lane 3).elems = .bytes b :: r → s.evt.leftBlank = true →
    s.evt.founding.length < 4096 →
    Answers .eventWrite s fun t => (t.lane 3).elems = r ∧ (∃ x, t.evt.founding = s.evt.founding ++ [(s.evt.founding.length, x)])
      ∧ t.evt.circ = s.evt.circ ∧ t.obj 0x8000 1 = recNumber b ∧ t.obj 0x8000 3 = s.evt.founding.length + 1)
  ∧ (∀ (s : State) (b : List Byte) (r : List Elem), s.hostUp = true → (s.lane 3).elems = .bytes b :: r →
    (s.evt.leftBlank = false ∨ 4096 ≤ s.evt.founding.length) →
    Answers .eventWrite s fun t => (t.lane 3).elems = r ∧ t.evt.founding = s.evt.founding
      ∧ storeGet (fun _ => []) t.evt.circ (recNumber b % 32768) = b ∧ t.obj 0x8000 1 = recNumber b)
  ∧ (∀ (s : State) (code n : Nat), s.hostUp = true → s.evt.pendingCnt = [(code, n)] → summaryDue s code = true →
    Answers .suppressionExamination s fun t => pendingOf t code = 0 ∧ t.evt.next = s.evt.next + 1)
  ∧ (∀ (s : State) (code n : Nat), s.hostUp = true → s.evt.pendingCnt = [(code, n)] → summaryDue s code = false →
    exec .suppressionExamination s = .next s)

/-! ### Supplies, resets, banks and life-cycle -/

/-- Supplies, hot swap, vault. A warning with the host domain running notes its voltage and whether every row is done; 0x0102 is written where it comes in
row 0 or 1; a second changes nothing. Main back with the board present, no transition begun, ends the warning with 0x0103; else nothing changes. A
rail lost with main takes both domains and the lanes, sends nothing, and keeps rail and source (1 where all was flushed, else 2); a rail lost with
main up is the host reset of source 2. Main good starts as `startUp` says, and without a valid bank stays in boot ROM with source, voltage, charge and
unpowered time in their objects; unswitched or up already it changes nothing. Present closed switches main and standby on, retries 0; a ramp that
times out switches main off and counts, failed at the third; a retry switches it on; present open switches both off, marks the removal and, with the
host domain running, is a warning that is flushed; where the switch is so already nothing changes. Standby power up gives the address 64 + pins and
the slot; its loss clears Alley. The vault's latches of case, charge and removal stay until cleared; vault power on begins it anew. RWS writes take
effect here with no power-fail warning and their log entry committed. Rests on R298, R381, R424, R426, R427, R429, R434, R437, R440, R469 and R470.
Next states stated: powerFailWarning, powerDip, railOutOfLimits, mainPowerGood, presentClosed, mainRampTimeout, mainRampRetry, presentOpen,
standbyPowerUp, standbyPowerLoss, caseSwitchOpen, vaultCapacitorLow, clearVaultLatches, vaultPowerOn. -/
def Obligations.SuppliesAndVault : Prop :=
  (∀ (s : State) (v : BitVec 32) (r : Fin 6), s.hostUp = true → s.pwr.warning = false →
    Answers (.powerFailWarning v r) s fun t => t.pwr.warning = true ∧ t.pwr.flushed = decide (r.val = 5) ∧ t.obj 0x2060 5 = v.toNat)
  ∧ (∀ (s : State) (v : BitVec 32) (r : Fin 6), s.hostUp = true → s.pwr.warning = false → r.val ≤ 1 →
    Answers (.powerFailWarning v r) s fun t => Writes 0x0102 [leBytes 4 (v.toNat : Int)] s t)
  ∧ (∀ (s : State) (v : BitVec 32) (r : Fin 6), s.pwr.warning = true → exec (.powerFailWarning v r) s = .next s)
  ∧ (∀ (s : State) (ms : BitVec 32), s.hostUp = true → s.pwr.warning = true → s.pwr.present = true → s.pwr.transition = none →
    Answers (.powerDip ms) s fun t => t.pwr = { s.pwr with warning := false, flushed := false } ∧ Writes 0x0103 [d32 ms.toNat] s t)
  ∧ (∀ (s : State) (ms : BitVec 32), (s.pwr.warning = false ∨ s.pwr.present = false) → exec (.powerDip ms) s = .next s)
  ∧ (∀ (s : State) (rail : BitVec 8) (tg : BitVec 23) (v : Bool), s.pwr.mainUp = true →
    Answers (.railOutOfLimits rail true 0 tg v) s fun t => t.pwr.mainUp = false ∧ t.hostUp = false ∧ t.stringUp = false ∧ t.lanes = [] ∧ t.obj 0x6801 0 = 0
      ∧ t.pwr.cause = (if s.pwr.flushed = true then 1 else 2) ∧ t.pwr.rail = rail.toNat ∧ t.sent = s.sent)
  ∧ (∀ (s : State) (rail : BitVec 8) (m : Bool) (k : BitVec 4) (tg : BitVec 23) (v : Bool), s.pwr.mainUp = false → exec (.railOutOfLimits rail m k tg v) s = .next s)
  ∧ (∀ (s : State) (rail : BitVec 8) (tg : BitVec 23) (v : Bool), s.pwr.mainUp = true →
    exec (.railOutOfLimits rail false 0 tg v) s = .next (hostReset { s with pwr := { s.pwr with rail := rail.toNat } } 2))
  ∧ (∀ (s : State) (v : BitVec 32) (u : BitVec 33) (c : BitVec 16), s.pwr.mainUp = false → s.pwr.mainSwitch = true → s.pwr.bank0.factory = false → s.pwr.bank1.factory = false →
    s.pwr.bank0.image = [] → s.pwr.bank1.image = [] → s.pwr.vault.alive = true → s.pwr.cause ≤ 7 →
    Answers (.mainPowerGood v u c 0) s fun t => t.hostUp = false ∧ t.pwr.bootRom = true ∧ t.pwr.mainUp = true ∧ t.obj 0x2070 2 = (u.toNat / 2 : Nat) ∧ t.obj 0x2070 3 = c.toNat
      ∧ t.obj 0x2060 5 = v.toNat ∧ t.pwr.vault.halfSecs = 0 ∧ t.obj 0x2060 1 = (if s.pwr.allLost = true then 1 else (s.pwr.cause : Int)))
  ∧ (∀ (s : State) (v : BitVec 32) (u : BitVec 33) (c : BitVec 16) (l : BitVec 4), s.pwr.mainUp = false → s.pwr.mainSwitch = true →
    exec (.mainPowerGood v u c l) s = .next (lostEvents (startUp (lostRecords
      (({ s with pwr := { s.pwr with mainUp := true, allLost := false, cause := (if s.pwr.allLost then 1 else s.pwr.cause), vault := { s.pwr.vault with halfSecs := u.toNat } } }.setObj
        0x2060 5 v.toNat).setObj 0x2070 3 c.toNat) l)) l))
  ∧ (∀ (s : State) (v : BitVec 32) (u : BitVec 33) (c : BitVec 16) (l : BitVec 4), (s.pwr.mainUp = true ∨ s.pwr.mainSwitch = false) → exec (.mainPowerGood v u c l) s = .next s)
  ∧ (∀ s : State, Answers .presentClosed s fun t => t.pwr = { s.pwr with present := true, standbySwitch := true, mainSwitch := true, inrushFail := false }
      ∧ t.obj 0x2090 7 = 0 ∧ bitOf (t.obj 0x2090 6) 2 = false)
  ∧ (∀ s : State, s.pwr.mainSwitch = true → s.pwr.mainUp = false →
    Answers .mainRampTimeout s fun t => t.pwr.mainSwitch = false ∧ (s.obj 0x2090 7 < 2 → t.pwr.inrushFail = false ∧ t.obj 0x2090 7 = s.obj 0x2090 7 + 1)
      ∧ (2 ≤ s.obj 0x2090 7 → t.pwr.inrushFail = true ∧ bitOf (t.obj 0x2090 6) 2 = true))
  ∧ (∀ s : State, (s.pwr.mainSwitch = false ∨ s.pwr.mainUp = true) → exec .mainRampTimeout s = .next s)
  ∧ (∀ s : State, s.pwr.present = true → s.pwr.mainSwitch = false → s.pwr.inrushFail = false → s.obj 0x2090 7 ≠ 0 →
    Answers .mainRampRetry s fun t => t.pwr = { s.pwr with mainSwitch := true } ∧ t.obj 0x2090 7 = s.obj 0x2090 7)
  ∧ (∀ s : State, (s.pwr.present = false ∨ s.pwr.inrushFail = true ∨ s.obj 0x2090 7 = 0) → exec .mainRampRetry s = .next s)
  ∧ (∀ (s : State) (v : BitVec 32), s.pwr.present = true → s.hostUp = false →
    Answers (.presentOpen v) s fun t => t.pwr.present = false ∧ t.pwr.mainSwitch = false ∧ t.pwr.standbySwitch = false ∧ t.pwr.vault.removal = true)
  ∧ (∀ (s : State) (v : BitVec 32), s.pwr.present = true → s.hostUp = true →
    Answers (.presentOpen v) s fun t => t.pwr.present = false ∧ t.pwr.mainSwitch = false ∧ t.pwr.standbySwitch = false ∧ t.pwr.vault.removal = true
      ∧ t.pwr.warning = true ∧ t.pwr.flushed = true ∧ t.obj 0x2060 5 = v.toNat)
  ∧ (∀ (s : State) (v : BitVec 32), s.pwr.present = false → exec (.presentOpen v) s = .next s)
  ∧ (∀ (s : State) (p : BitVec 5), s.pwr.standbyUp = false →
    Answers (.standbyPowerUp p) s fun t => t.pwr = { s.pwr with standbyUp := true } ∧ t.obj 0x1400 1 = 64 + p.toNat ∧ t.obj 0x7001 1 = (p.toNat % 2 : Nat))
  ∧ (∀ (s : State) (p : BitVec 5), s.pwr.standbyUp = true → exec (.standbyPowerUp p) s = .next s)
  ∧ (∀ s : State, Answers .standbyPowerLoss s fun t => t.pwr.standbyUp = false ∧ (s.pwr.mainUp = false → t.pwr.allLost = true) ∧ t.alley = {} ∧ t.hostUp = s.hostUp)
  ∧ (∀ s : State, Answers .caseSwitchOpen s fun t => t.pwr.vault = { s.pwr.vault with caseOpen := true } ∧ (s.hostUp = true → bitOf (t.obj 0x2070 1) 2 = true))
  ∧ (∀ (s : State) (c : BitVec 16), Answers (.vaultCapacitorLow c) s fun t => t.pwr.vault = { s.pwr.vault with low := true } ∧ (s.hostUp = true → bitOf (t.obj 0x2070 1) 3 = true ∧ t.obj 0x2070 3 = c.toNat))
  ∧ (∀ s : State, exec .vaultPowerOn s = .next { s with pwr := { s.pwr with vault := { alive := false } } })
  ∧ (∀ s : State, s.hostUp = true → s.pwr.warning = false → entryFails s = false →
    Answers .clearVaultLatches s fun t => t.pwr.vault = { s.pwr.vault with removal := false, caseOpen := false } ∧ bitOf (t.obj 0x2070 1) 1 = false ∧ bitOf (t.obj 0x2070 1) 2 = false
      ∧ t.host.lastErr = errOk)

/-- Resets and the start. With the host domain running: watchdog and lockstep reset the host domain at once (sources 3, 4); a requested reset is STATE
where an ACTIVE card of a pair has no STANDBY partner, else OK and due (source 6), as is a forced one; the delay over, a due one of another source
than 7 is carried out, and without main it only clears Alley and shows its lock closed. A reset (`afterReset`) empties the lanes, counts from 0,
leaves queue, bus and event areas, keeps the kept objects and gives any other its default (0x2060:4, 0x6803 and 0x6840:5 apart), 0x6801:0 keeping
Bollard's causes or, without string supply, none. The start reports the unpowered half seconds / 2, restarts the vault, and counts the power cycle
from the larger of record and shadow, up to 16,777,215. The selected bank boots where valid, else the other, else none. The start profile is 4 with a
cause of Bollard latched, 0 for a held 4, a held 0 to 3 itself with reason 3, and for a held 5 it is 0 with reason 4 after a life-cycle reset that
left SERVICE, else 3. Rests on R11, R24, R384, R429 to R432 and R438 to R440. Next states stated: hostResetRequest, hostResetForced, watchdogExpiry,
guardLockstepMismatch, resetDelayExpiry. -/
def Obligations.Resets : Prop :=
  (∀ (s : State) (e : Fin 3), s.hostUp = true → exec (.watchdogExpiry e) s = .next (hostReset { s with pwr := { s.pwr with engine := e.val } } 3))
  ∧ (∀ s : State, s.hostUp = true → exec .guardLockstepMismatch s = .next (hostReset s 4))
  ∧ (∀ s : State, s.hostUp = true → resetRefused s = true →
    Answers .hostResetRequest s fun t => t.pwr = s.pwr ∧ t.host.lastErr = errState)
  ∧ (∀ s : State, s.hostUp = true → resetRefused s = false →
    Answers .hostResetRequest s fun t => t.pwr.resetDue = some 6 ∧ t.host.lastErr = errOk ∧ t.hostUp = true)
  ∧ (∀ s : State, s.hostUp = true → Answers .hostResetForced s fun t => t.pwr.resetDue = some 6 ∧ t.host.lastErr = errOk ∧ t.hostUp = true)
  ∧ (∀ s : State, s.pairOn = true → s.obj 0x7001 0 = 3 → s.duplex.beat.role ≠ 2 → resetRefused s = true)
  ∧ (∀ s : State, (s.pairOn = false ∨ s.obj 0x7001 0 ≠ 3) → resetRefused s = false)
  ∧ (∀ s : State, s.pwr.resetDue = none → exec .resetDelayExpiry s = .next s)
  ∧ (∀ (s : State) (c : Nat), s.pwr.resetDue = some c → c ≠ 7 → s.hostUp = true → exec .resetDelayExpiry s = .next (plannedReset s c))
  ∧ (∀ (s : State) (c : Nat), s.pwr.resetDue = some c → s.hostUp = false → s.pwr.mainUp = false →
    exec .resetDelayExpiry s = .next (showLock { s with alley := {}, pwr := { s.pwr with resetDue := none, cause := c } }))
  ∧ (∀ (s : State) (c : Nat) (u : Bool), (afterReset s c u).lanes = [] ∧ (afterReset s c u).clk.c = 0 ∧ (afterReset s c u).pwr.cause = c ∧ (afterReset s c u).pwr.prevRole = s.role
      ∧ (afterReset s c u).hostUp = false ∧ (afterReset s c u).stringUp = false ∧ (afterReset s c u).pending = s.pending ∧ (afterReset s c u).sent = s.sent
      ∧ (afterReset s c u).evt.circ = s.evt.circ ∧ (afterReset s c u).evt.founding = s.evt.founding)
  ∧ (∀ (s : State) (c i k : Nat) (u : Bool), k < 65536 → keptKey (objKey i k) = true → (i, k) ≠ (0x2060, 4) → (i, k) ≠ (0x6801, 0) → i ≠ 0x6803 → (i, k) ≠ (0x6840, 5) →
    (afterReset s c u).obj i k = s.obj i k)
  ∧ (∀ (s : State) (c i k : Nat) (u : Bool), k < 65536 → keptKey (objKey i k) = false → (i, k) ≠ (0x2060, 4) → (i, k) ≠ (0x6801, 0) → i ≠ 0x6803 → (i, k) ≠ (0x6840, 5) →
    (afterReset s c u).obj i k = objDefault (objKey i k))
  ∧ (∀ (s : State) (c : Nat), (afterReset s c true).obj 0x6801 0 = 0 ∧ (afterReset s c false).obj 0x6801 0 = (s.objN 0x6801 0 % 256 : Nat))
  ∧ (∀ s : State, s.hostUp = true → (startVault s).obj 0x2070 2 = (s.pwr.vault.halfSecs / 2 : Nat))
  ∧ (∀ s : State, (startCount s).pwr.vault.alive = true ∧ (startCount s).pwr.vault.halfSecs = 0
      ∧ (startCount s).pwr.vault.shadow = min 16777215 (max (s.objN 0x2060 3) (if s.pwr.vault.alive = true then s.pwr.vault.shadow else 0) + 1)
      ∧ (startCount s).obj 0x2060 3 = (startCount s).pwr.vault.shadow)
  ∧ (∀ s : State, bankReason s (s.objN 0x2050 4) (s.bank (s.objN 0x2050 4)) = 0 → s.objN 0x2050 4 ≤ 1 → bankToBoot s = some (s.objN 0x2050 4))
  ∧ (∀ s : State, s.objN 0x2050 4 ≤ 1 → bankReason s (s.objN 0x2050 4) (s.bank (s.objN 0x2050 4)) ≠ 0 → bankReason s (1 - s.objN 0x2050 4) (s.bank (1 - s.objN 0x2050 4)) = 0 → bankToBoot s = some (1 - s.objN 0x2050 4))
  ∧ (∀ s : State, bankReason s 0 s.pwr.bank0 ≠ 0 → bankReason s 1 s.pwr.bank1 ≠ 0 → bankToBoot s = none)
  ∧ (∀ (s : State) (left : Bool), s.obj 0x2001 0 = 4 → latchedBollard s = false → (startProfile s left).obj 0x2001 0 = 0 ∧ (startProfile s left).profile = 0)
  ∧ (∀ (s : State) (left : Bool), (s.obj 0x2001 0 = 0 ∨ s.obj 0x2001 0 = 1 ∨ s.obj 0x2001 0 = 2 ∨ s.obj 0x2001 0 = 3) → latchedBollard s = false →
    (startProfile s left).profile = s.obj 0x2001 0 ∧ (startProfile s left).obj 0x2002 1 = 3)
  ∧ (∀ (s : State) (left : Bool), s.obj 0x2001 0 = 5 → latchedBollard s = false →
    (startProfile s left).obj 0x2001 0 = 5 ∧ (startProfile s left).profile = 0 ∧ (startProfile s left).obj 0x2002 1 = (if s.pwr.cause = 7 ∧ left = true then 4 else 3))
  ∧ (∀ (s : State) (left : Bool), latchedBollard s = true → (startProfile s left).profile = 4)

/-- Banks, trials, wipes, fuses, with the host domain running. An image whose header fails is TRANSFER with 0x0F06 (reason 1; 5 below the minimum security
version) and leaves banks; a good one marks the other bank invalid and is programmed (state 1, inhibited 4); one while another is programmed is BUSY.
The end of programming, not inhibited, makes the bank valid with state 5, OK and 0x0F07 where it verifies, else state 6, TRANSFER and 0x0F06; without
one nothing changes. A valid bank is selected with OK and a trial where it changes; another is RANGE. A trial confirmed is 2, raises the minimum
security version and writes 0x0F08; without a trial nothing changes. Committing the counters stores the operating seconds and counts. The mask of
BLANK to COMMISSION is 252, of the FIELD and SERVICE transitions 0, of RETIRED 148, and none wipes regions 1 and 8. A fuse burned stays. A
transition's start takes the new state, wipes what its mask names and keeps the circulating area; without one it does nothing. A request without the
key 0x5A is RANGE and changes nothing (the model's choice, log entry 97). RWS writes take effect here with no power-fail warning and their log entry
committed. Rests on R434 to R436, R439, R444, R446 and R447. Next states stated: firmwareImageWrite, bankProgramComplete, bankSelectWrite,
trialConfirm, countersCommit, transitionRequestWrite. -/
def Obligations.BanksAndWipes : Prop :=
  (∀ (s : State) (i : List Byte), s.hostUp = true → s.pwr.program = none → (i.length < 128 ∨ crc32c (i.take 124) ≠ getLe i 124 4 ∨ getLe i 0 2 ≠ 0xF1A0) →
    Answers (.firmwareImageWrite i) s fun t => t.pwr = s.pwr ∧ t.obj 0x2050 5 = s.obj 0x2050 5 ∧ t.host.lastErr = errTransfer ∧ Writes 0x0F06 [d32 (otherBank s), d32 1] s t)
  ∧ (∀ (s : State) (i : List Byte), s.hostUp = true → s.pwr.program = none → 128 ≤ i.length → crc32c (i.take 124) = getLe i 124 4 → getLe i 0 2 = 0xF1A0 → getLe i 4 2 = 0x0240 →
    getLe i 6 2 < s.objN 0x2050 8 →
    Answers (.firmwareImageWrite i) s fun t => t.pwr = s.pwr ∧ t.host.lastErr = errTransfer ∧ Writes 0x0F06 [d32 (otherBank s), d32 5] s t)
  ∧ (∀ (s : State) (i : List Byte), s.hostUp = true → s.pwr.program = none → 128 ≤ i.length → crc32c (i.take 124) = getLe i 124 4 → getLe i 0 2 = 0xF1A0 → getLe i 4 2 = 0x0240 →
    s.objN 0x2050 8 ≤ getLe i 6 2 →
    Answers (.firmwareImageWrite i) s fun t => t.pwr = { s.pwr with program := some i } ∧ bitOf (t.obj 0x2050 5) (otherBank s) = false
      ∧ t.obj 0x2050 2 = (if s.objB 0x6040 2 = true then 4 else 1))
  ∧ (∀ (s : State) (i : List Byte), s.hostUp = true → s.pwr.program.isSome = true →
    Answers (.firmwareImageWrite i) s fun t => t.pwr = s.pwr ∧ t.host.lastErr = errBusy)
  ∧ (∀ (s : State) (i : List Byte), s.hostUp = true → s.pwr.program = some i → s.objB 0x6040 2 = false →
    Answers .bankProgramComplete s fun t => t.pwr.program = none
      ∧ (bankReason s (otherBank s) ⟨false, i⟩ = 0 → bitOf (t.obj 0x2050 5) (otherBank s) = true ∧ t.obj 0x2050 2 = 5 ∧ t.bank (otherBank s) = ⟨false, i⟩
          ∧ t.host.lastErr = errOk ∧ Writes 0x0F07 [d32 (otherBank s), d32 (getLe i 8 4 : Nat), d32 (getLe i 6 2)] s t)
      ∧ (bankReason s (otherBank s) ⟨false, i⟩ ≠ 0 → t.obj 0x2050 5 = s.obj 0x2050 5 ∧ t.obj 0x2050 2 = 6 ∧ t.host.lastErr = errTransfer
          ∧ Writes 0x0F06 [d32 (otherBank s), d32 (bankReason s (otherBank s) ⟨false, i⟩)] s t))
  ∧ (∀ s : State, (s.pwr.program = none ∨ s.objB 0x6040 2 = true) → exec .bankProgramComplete s = .next s)
  ∧ (∀ (s : State) (v : BitVec 8), s.hostUp = true → s.pwr.warning = false → entryFails s = false → v.toNat ≤ 1 → bitOf (s.obj 0x2050 5) v.toNat = true →
    Answers (.bankSelectWrite v) s fun t => t.obj 0x2050 4 = v.toNat ∧ t.pwr.trialNext = (s.pwr.trialNext || decide (s.obj 0x2050 4 ≠ v.toNat)) ∧ t.host.lastErr = errOk)
  ∧ (∀ (s : State) (v : BitVec 8), s.hostUp = true → (1 < v.toNat ∨ bitOf (s.obj 0x2050 5) v.toNat = false) →
    Answers (.bankSelectWrite v) s fun t => t.obj 0x2050 4 = s.obj 0x2050 4 ∧ t.pwr = s.pwr ∧ t.host.lastErr = errRange)
  ∧ (∀ s : State, s.hostUp = true → s.obj 0x2050 6 = 1 →
    Answers .trialConfirm s fun t => t.obj 0x2050 6 = 2 ∧ t.obj 0x2050 7 = 0
      ∧ t.obj 0x2050 8 = max (s.obj 0x2050 8) (bankSec (s.bank (s.objN 0x2050 3)) (s.objN 0x2050 3))
      ∧ Writes 0x0F08 [d8 (s.objN 0x2050 3), d32 (bankSec (s.bank (s.objN 0x2050 3)) (s.objN 0x2050 3))] s t)
  ∧ (∀ s : State, s.obj 0x2050 6 ≠ 1 → exec .trialConfirm s = .next s)
  ∧ (∀ s : State, s.hostUp = true → 0 ≤ s.obj 0x2060 4 →
    Answers .countersCommit s fun t => t.obj 0x2060 4 = t.pwr.opCommitted ∧ t.obj 0x2080 1 = countUp 32 (s.obj 0x2080 1) ∧ t.clk = s.clk)
  ∧ (wipeMask 0 1 = 252 ∧ wipeMask 1 2 = 0 ∧ wipeMask 2 3 = 0 ∧ wipeMask 3 2 = 0 ∧ (∀ o, wipeMask o 4 = 148))
  ∧ (∀ (o n : Nat), (wipeMask o n).testBit 1 = false ∧ (wipeMask o n).testBit 8 = false ∧ wipeMask o n < 256)
  ∧ (∀ (s : State) (n : Nat), (burnFuses s n).pwr.fuseC = (s.pwr.fuseC || decide (1 ≤ n)) ∧ (burnFuses s n).pwr.fuseF = (s.pwr.fuseF || decide (2 ≤ n))
      ∧ (burnFuses s n).pwr.fuseR = (s.pwr.fuseR || decide (n = 4)))
  ∧ (∀ (s : State) (o n src m : Nat), s.pwr.transition = some (o, n, src, m) → (startTransition s).pwr.transition = none ∧ (startTransition s).obj 0x2040 1 = (n : Nat)
      ∧ (m.testBit 2 = true → (startTransition s).host.psk = [] ∧ (startTransition s).log.derived = [])
      ∧ (m.testBit 3 = true → (startTransition s).log.entries = []) ∧ (m.testBit 5 = true → (startTransition s).cells.caps = [])
      ∧ (m.testBit 6 = true → (startTransition s).cells.slices = []) ∧ (m.testBit 7 = true → (startTransition s).prog.copies = [])
      ∧ (m ≠ 0 → (startTransition s).prog.stored = []) ∧ (startTransition s).evt.circ = s.evt.circ)
  ∧ (∀ s : State, s.pwr.transition = none → startTransition s = s)
  ∧ (∀ (s : State) (v : BitVec 16), s.hostUp = true → v.toNat / 256 ≠ 0x5A →
    Answers (.transitionRequestWrite v) s fun t => t.pwr = s.pwr ∧ t.obj 0x2040 3 = s.obj 0x2040 3 ∧ t.obj 0x2040 4 = s.obj 0x2040 4 ∧ t.host.lastErr = errRange)

/-- Life-cycle transitions. Reasons, in this order: 5 outside BLANK without a safety session or the lock; 1 for a pair of states that no transition joins;
2 on a card that drives with the contactors not open; 3 for FIELD without password, key or SLV window; 4 while a transition or a bank programming is
under way; else 0. A writer in the plant controller's or the service session is authorised by its safety session, one of Alley by the lock. With the
host domain running, a request of key 0x5A that is refused is STATE with 0x0F02, its reason in 0x2040:4, and leaves the state; one taken is carried
out with the reset of source 7 and the fuses of its state, or, under a power-fail warning, answered OK with its target in 0x2040:3 and its regions
noted. A refused one of Alley has result 1, its reason in 0x2040:4, and no transition or reset begun. Rests on R445. Next states stated:
transitionRequestWrite, lifecycleRequest. -/
def Obligations.LifecycleTransitions : Prop :=
  (∀ (s : State) (n : Nat), s.objN 0x2040 1 ≠ 0 → transitionRefusal s n false = 5)
  ∧ (∀ (s : State) (n : Nat) (a : Bool), (s.objN 0x2040 1 = 0 ∨ a = true) → (s.objN 0x2040 1, n) ∉ [(0, 1), (1, 2), (2, 3), (3, 2), (1, 4), (2, 4), (3, 4)] →
    transitionRefusal s n a = 1)
  ∧ (∀ (s : State) (n : Nat) (a : Bool), (s.objN 0x2040 1 = 0 ∨ a = true) → (s.objN 0x2040 1, n) ∈ [(0, 1), (1, 2), (2, 3), (3, 2), (1, 4), (2, 4), (3, 4)] →
    s.isActive = true → s.obj 0x6880 4 ≠ 0 → transitionRefusal s n a = 2)
  ∧ (∀ s : State, s.objN 0x2040 1 = 1 → (s.isActive = false ∨ s.obj 0x6880 4 = 0) → (s.log.derived = [] ∨ s.obj 0x1210 4 = 0 ∨ s.obj 0x6820 1 = 0) →
    transitionRefusal s 2 true = 3)
  ∧ (∀ (s : State) (n : Nat) (a : Bool), (s.objN 0x2040 1 = 0 ∨ a = true) → (s.objN 0x2040 1, n) ∈ [(0, 1), (1, 2), (2, 3), (3, 2), (1, 4), (2, 4), (3, 4)] →
    (s.isActive = false ∨ s.obj 0x6880 4 = 0) → (s.objN 0x2040 1 = 1 → n = 2 → s.log.derived ≠ [] ∧ s.obj 0x1210 4 ≠ 0 ∧ s.obj 0x6820 1 ≠ 0) →
    transitionRefusal s n a = if s.pwr.transition.isSome = true ∨ s.pwr.program.isSome = true then 4 else 0)
  ∧ (∀ (s : State) (w : WriteReq) (r : List WriteReq), takeWrite 0x2040 2 s.host.due = (some w, r) →
    (w.origin = .eop → transitionAuth s = s.host.eop.safety) ∧ (w.origin = .service → transitionAuth s = s.host.service.safety) ∧ (w.origin = .alley → transitionAuth s = w.locked))
  ∧ (∀ (s : State) (v : BitVec 16), s.hostUp = true → v.toNat / 256 = 0x5A → v.toNat % 256 ≤ 4 → transitionRefusal s (v.toNat % 256) (transitionAuth s) ≠ 0 →
    Answers (.transitionRequestWrite v) s fun t => t.pwr = s.pwr ∧ t.obj 0x2040 1 = s.obj 0x2040 1
      ∧ t.obj 0x2040 4 = transitionRefusal s (v.toNat % 256) (transitionAuth s) ∧ t.host.lastErr = errState
      ∧ Writes 0x0F02 [d8 (v.toNat % 256 : Nat), d8 (transitionRefusal s (v.toNat % 256) (transitionAuth s))] s t)
  ∧ (∀ (s : State) (v : BitVec 16), s.hostUp = true → v.toNat / 256 = 0x5A → v.toNat % 256 ≤ 4 → transitionRefusal s (v.toNat % 256) (transitionAuth s) = 0 → s.pwr.warning = true →
    Answers (.transitionRequestWrite v) s fun t => t.obj 0x2040 3 = (v.toNat % 256 : Nat) ∧ t.obj 0x2040 1 = s.obj 0x2040 1 ∧ t.host.lastErr = errOk
      ∧ t.pwr.transition = some (s.objN 0x2040 1, v.toNat % 256, 1, wipeMask (s.objN 0x2040 1) (v.toNat % 256)))
  ∧ (∀ (s : State) (v : BitVec 16), s.hostUp = true → v.toNat / 256 = 0x5A → v.toNat % 256 ≤ 4 → transitionRefusal s (v.toNat % 256) (transitionAuth s) = 0 → s.pwr.warning = false →
    exec (.transitionRequestWrite v) s
      = .next (plannedReset (burnFuses (settle (beginTransition s (v.toNat % 256) 1) 0x2040 2 errOk) (v.toNat % 256)) 7))
  ∧ (∀ (s : State) (n : BitVec 8) (k : BitVec 8), s.hostUp = true → hkUp s = true → k.toNat = cmdCrc (alleyIn s) 0x06 [n, 0x5A#8] → n.toNat ≤ 4 → (s.alley.lock = true ∨ s.obj 0x2040 1 = 0) →
    transitionRefusal (alleyIn s) n.toNat s.alley.lock ≠ 0 →
    Answers (.lifecycleRequest [n, 0x5A#8] k) s fun t => t.alley.response = some (0, [1#8]) ∧ t.obj 0x2040 4 = transitionRefusal (alleyIn s) n.toNat s.alley.lock
      ∧ t.pwr.transition = s.pwr.transition ∧ t.pwr.resetDue = s.pwr.resetDue)


/-! ### What the commands leave alone -/

/-- What the commands of the frame, the profile, Clocktower and the pulse outputs leave alone (R10, R63, R370): whenever one is answered with a next state, nothing but the parts of the state and the objects listed differs. -/
def Obligations.ClocktowerFrame : Prop :=
  Leaves .frameBoundary [.doms, .clk, .frame, .lanes, .rings, .cells, .av, .slips, .therm, .safe, .duplex, .evt, .host, .prog, .cans, .pwr, .sent] (fun i => laneCounters i || i == 0x2002 || i == 0x2004 || i == 0x2013 || i == 0x2020 || i == 0x2060 || i == 0x2080 || i == 0x2111 || i == 0x2805 || i == 0x2830 || decide (0x3010 ≤ i))
  ∧ (∀ (a : Fin 6) (b : Fin 16) (d : BitVec 16), Leaves (.frameOverrun a b d) [.doms, .frame, .lanes, .av, .evt, .prog] (fun i => laneCounters i || i == 0x2002 || i == 0x2004 || within 0x2110 0x2112 i || i == 0x5440 || i == 0xA000))
  ∧ Leaves .overrunConditionClear [] (fun i => i == 0x2004)
  ∧ Leaves .clearBudgetCounters [.host, .alley, .sent] (fun i => laneCounters i)
  ∧ (∀ (a : Fin 48), Leaves (.laneWaitResume a) [.lanes] (fun _ => false))
  ∧ (∀ (a : BitVec 8), Leaves (.requestedProfileWrite a) [.doms, .frame, .lanes, .av, .evt, .host, .prog, .alley, .sent] (fun i => laneCounters i || within 0x2001 0x2002 i || i == 0x2004 || i == 0x5440 || i == 0xA000))
  ∧ Leaves .guardedRelease [.frame, .lanes, .evt, .host, .alley, .sent] (fun i => laneCounters i || i == 0x2002)
  ∧ (∀ (a : Fin 2) (b : BitVec 64) (d : BitVec 8) (e : BitVec 16) (f : Stamp) (g : Int), Leaves (.ptpSyncReceived a b d e f g) [.clk, .lanes, .evt] (fun i => laneCounters i))
  ∧ (∀ (a : Fin 2) (b : Announce), Leaves (.ptpAnnounceReceived a b) [.clk] (fun i => laneCounters i || i == 0x2806))
  ∧ (∀ (a : Fin 2) (b : BitVec 16) (d : Stamp) (e : Stamp), Leaves (.pdelayReqReceived a b d e) [.sent] (fun i => laneCounters i))
  ∧ (∀ (a : Fin 2) (b : BitVec 16) (d : Stamp) (e : Int), Leaves (.pdelayRespReceived a b d e) [.clk, .lanes, .evt] (fun i => laneCounters i || within 0x2812 0x2814 i))
  ∧ (∀ (a : Fin 2) (b : Stamp), Leaves (.pdelayReqSend a b) [.clk, .sent] (fun i => laneCounters i))
  ∧ Leaves .servoTheta [.clk, .lanes, .evt] (fun i => laneCounters i || within 0x2804 0x2805 i || within 0x2850 0x2857 i)
  ∧ (∀ (a : Fin 2), Leaves (.syncIntervalTimeout a) [.clk, .lanes, .evt] (fun i => laneCounters i || within 0x2804 0x2805 i || i == 0x2814))
  ∧ (∀ (a : Stamp), ∀ c ∈ ([.holdoverLimitExpiry, .ppsInputEdge a] : List Instr),
      Leaves c [.clk, .lanes, .evt] (fun i => laneCounters i || i == 0x2805))
  ∧ (∀ (a : BitVec 64), Leaves (.stepRequestWrite a) [.lanes, .evt, .host, .alley, .sent] (fun i => laneCounters i || i == 0x2805 || i == 0x2830))
  ∧ (∀ (a : BitVec 8), Leaves (.servoModeWrite a) [.clk, .lanes, .evt, .host, .alley, .sent] (fun i => laneCounters i || within 0x2804 0x2805 i || i == 0x2821))
  ∧ Leaves .ppsLossTimeout [.clk] (fun i => i == 0x2805)
  ∧ Leaves .ppsOutputEdge [.sent] (fun _ => false)
  ∧ (∀ (a : Fin 8), Leaves (.comparatorEdge a) [.clk, .av, .sent] (fun i => within 0x2850 0x2857 i || i == 0x5440))
  ∧ (∀ (a : Fin 8), Leaves (.comparatorPulseEnd a) [.clk, .sent] (fun i => within 0x2850 0x2857 i))
  ∧ (∀ (a : Fin 8), ∀ c ∈ ([.comparatorArm a, .comparatorDisarm a] : List Instr),
      Leaves c [.clk, .host, .alley, .sent] (fun i => laneCounters i || within 0x2850 0x2857 i))
  ∧ (∀ (a : Fin 2) (b : BitVec 64), Leaves (.announceReceiptTimeout a b) [.clk] (fun _ => false))

/-- What the commands of the rings, the front end, the cells and the estimator leave alone. -/
def Obligations.RingsAndCellsFrame : Prop :=
  (∀ (a : Fin 4), ∀ c ∈ ([.syncLaunch a, .parkActiveFrame] : List Instr),
      Leaves c [.rings, .sent] (fun _ => false))
  ∧ (∀ (a : Fin 4), Leaves (.ringSweep a) [.rings, .sent, .free] (fun i => within 0x3010 0x3013 i))
  ∧ (∀ (a : Fin 4) (b : Fin 2) (d : List Byte) (e : BitVec 16), Leaves (.ringFrameReceived a b d e) [.doms, .frame, .lanes, .rings, .cells, .av, .evt, .prog, .sent] (fun i => laneCounters i || i == 0x2002 || i == 0x2004 || within 0x3010 0x3013 i || within 0x3100 0x3127 i || decide (0x3800 ≤ i)))
  ∧ (∀ (a : Fin 4) (b : Fin 2), Leaves (.ringAbortReceived a b) [.rings, .sent] (fun i => within 0x3010 0x3013 i))
  ∧ (∀ (a : Fin 4) (b : Fin 2), Leaves (.ringTimeout a b) [.doms, .frame, .lanes, .rings, .av, .evt, .prog, .sent] (fun i => laneCounters i || i == 0x2002 || i == 0x2004 || within 0x3010 0x3013 i || i == 0x5440 || i == 0xA000))
  ∧ (∀ (a : Fin 4), Leaves (.sweepClose a) [.doms, .frame, .lanes, .rings, .av, .evt, .prog, .sent] (fun i => laneCounters i || i == 0x2002 || i == 0x2004 || within 0x3010 0x3013 i || within 0x3100 0x3127 i || i == 0x5440 || i == 0xA000))
  ∧ (∀ (a : Fin 4) (b : Bool) (d : List EnumUnit) (e : List EnumUnit) (f : BitVec 32), Leaves (.ringEnumerate a b d e f) [.doms, .frame, .lanes, .rings, .cells, .av, .evt, .prog, .pwr, .sent, .free] (fun i => laneCounters i || i == 0x2002 || i == 0x2004 || decide (0x3010 ≤ i)))
  ∧ (∀ (a : Fin 4), Leaves (.ringReenumerateWrite a) [.doms, .frame, .lanes, .rings, .av, .evt, .host, .prog, .alley, .sent] (fun i => laneCounters i || i == 0x2002 || i == 0x2004 || within 0x3010 0x3013 i || i == 0x5440 || i == 0xA000))
  ∧ (∀ (a : Fin 4) (b : Fin 2), Leaves (.ringPortRateChange a b) [.lanes, .rings, .evt] (fun i => laneCounters i || within 0x3010 0x3013 i))
  ∧ (∀ (a : Fin 4), Leaves (.ringRateAcknowledge a) [.rings, .host, .alley, .sent] (fun i => laneCounters i))
  ∧ (∀ (a : Fin 4) (b : BitVec 8), Leaves (.ringRateModeWrite a b) [.host, .alley, .sent] (fun i => laneCounters i || within 0x3010 0x3013 i))
  ∧ (∀ (a : Fin 4) (b : Fin 2) (d : BitVec 8), Leaves (.wakeToneDetected a b d) [.frame, .lanes, .evt] (fun i => laneCounters i))
  ∧ (∀ (a : LinkPacket), Leaves (.internalLinkPacket a) [.frame] (fun i => i == 0x2120))
  ∧ (∀ (a : List TempReading) (b : BitVec 16) (d : BitVec 8) (e : BitVec 8), Leaves (.inputImageAssembly a b d e) [.doms, .frame, .lanes, .cells, .av, .therm, .safe, .evt, .prog] (fun i => laneCounters i || i == 0x2002 || i == 0x2004 || decide (0x3010 ≤ i)))
  ∧ (∀ (a : Fin 4), Leaves (.estimatorFrameWork a) [.lanes, .rings, .cells, .therm, .duplex, .evt, .pwr] (fun i => laneCounters i || i == 0x2060 || i == 0x2112 || decide (0x4108 ≤ i)))
  ∧ Leaves .outputSeal [.doms, .clk, .frame, .lanes, .rings, .cells, .av, .slips, .therm, .safe, .duplex, .evt, .host, .prog, .cans, .pwr, .sent] (fun _ => true)
  ∧ (∀ (a : Fin 16) (b : ChanPair) (d : ChanPair) (e : ChanPair) (f : ChanPair), Leaves (.loopSamplePush a b d e f) [.lanes, .evt] (fun i => laneCounters i))
  ∧ (∀ (a : ChanWindows) (b : ChanWindows) (d : ChanWindows) (e : ChanWindows), Leaves (.frontEndFrameValues a b d e) [.frame, .lanes, .cells, .evt] (fun i => laneCounters i || within 0x3410 0x3468 i))
  ∧ (∀ (a : Fin 2), Leaves (.dividerCalStart a) [.doms, .lanes, .cells, .evt, .host, .log, .alley, .sent] (fun i => laneCounters i || i == 0x2080 || within 0x3410 0x3468 i || i == 0x6891))
  ∧ (∀ (a : Fin 2) (b : Fin 8), ∀ c ∈ ([.dividerCalComplete a, .xcheckWindowClose b] : List Instr),
      Leaves c [.doms, .frame, .lanes, .cells, .av, .evt, .prog] (fun i => laneCounters i || i == 0x2002 || i == 0x2004 || within 0x3410 0x3468 i || i == 0x5440 || i == 0xA000))
  ∧ (∀ (a : Fin 2), ∀ c ∈ ([.acceptProposedTrim a, .takeInjectionBaseline] : List Instr),
      Leaves c [.doms, .lanes, .cells, .evt, .host, .log, .alley, .sent] (fun i => laneCounters i || i == 0x2080 || i == 0x6891))
  ∧ (∀ (a : Fin 8), Leaves (.checkEnableWrite a) [.doms, .frame, .lanes, .cells, .av, .evt, .host, .log, .prog, .alley, .sent] (fun i => laneCounters i || i == 0x2002 || i == 0x2004 || i == 0x2080 || within 0x3410 0x3468 i || i == 0x5440 || i == 0x6891 || i == 0xA000))
  ∧ (∀ c ∈ ([.openWireCycle, .rcFit] : List Instr),
      Leaves c [.cells] (fun _ => false))
  ∧ (∀ c ∈ ([.openWireTestNow, .alignDispatch] : List Instr),
      Leaves c [.cells, .host, .alley, .sent] (fun i => laneCounters i))
  ∧ (∀ (a : Fin 40), Leaves (.openWireResult a) [.lanes, .cells, .evt] (fun i => laneCounters i || decide (0x3800 ≤ i)))
  ∧ (∀ c ∈ ([.restWindowSchedule, .restWindowDecline] : List Instr),
      Leaves c [.lanes, .cells, .evt, .host, .alley, .sent] (fun i => laneCounters i || i == 0x4012))
  ∧ (∀ c ∈ ([.restWindowDeclineExpiry, .restWindowEnd] : List Instr),
      Leaves c [.lanes, .cells, .evt] (fun i => laneCounters i || i == 0x4012))
  ∧ (∀ (a : Fin 4) (b : List Byte), Leaves (.ocvTableLoad a b) [.lanes, .cells, .evt, .host, .alley, .sent] (fun i => laneCounters i || within 0x4020 0x4023 i))
  ∧ Leaves .stateBlockWrite [.cells, .pwr] (fun i => i == 0x2060 || i == 0x2080)
  ∧ (∀ (a : Fin 4) (b : List Byte) (d : Fin 40), ∀ c ∈ ([.authResponse a b, .authTimeout d] : List Instr),
      Leaves c [.lanes, .rings, .cells, .evt] (fun i => laneCounters i))
  ∧ Leaves .recordStoreTimer [.rings] (fun _ => false)
  ∧ (∀ (a : Bool), Leaves (.nvCommit a) [.lanes, .cells, .evt, .pwr] (fun i => laneCounters i || i == 0x2060 || i == 0x2080 || i == 0x4420))
  ∧ Leaves .recordCheckpoint [.lanes, .cells, .evt] (fun i => laneCounters i)
  ∧ (∀ (a : BitVec 16), Leaves (.recordResetWrite a) [.doms, .lanes, .cells, .evt, .host, .log, .alley, .sent] (fun i => laneCounters i || i == 0x2080 || i == 0x4410 || i == 0x6891))
  ∧ Leaves .balanceTargets [.lanes, .cells, .evt] (fun i => laneCounters i || decide (0x4610 ≤ i))

/-- What the commands of Avenue, the converter link, Sliproad, homing, throttling and the orderly shutdown leave alone. -/
def Obligations.ControlFrame : Prop :=
  (∀ (a : Fin 16), ∀ c ∈ ([.loopSample a, .avenueSlotLate a] : List Instr),
      Leaves c [.lanes, .av, .duplex, .evt] (fun i => laneCounters i || decide (0x5000 ≤ i)))
  ∧ (∀ (a : Fin 16), ∀ c ∈ ([.coeffCommitKeep a, .coeffCommitTrack a] : List Instr),
      Leaves c [.av, .host, .alley, .sent] (fun i => laneCounters i))
  ∧ (∀ (a : Fin 16) (b : BitVec 16), Leaves (.loopFlagsWrite a b) [.host, .alley, .sent] (fun i => laneCounters i || within 0x5100 0x510F i))
  ∧ (∀ (a : Fin 96) (b : BitVec 8), Leaves (.sectionFlagsWrite a b) [.host, .alley, .sent] (fun i => laneCounters i || within 0x5200 0x525F i))
  ∧ (∀ (a : Fin 16), Leaves (.fallbackHoldExpiry a) [.av] (fun _ => false))
  ∧ (∀ (a : Fin 2) (b : Fin 16) (d : BitVec 32), Leaves (.setpointInputSample a b d) [.lanes, .av, .evt] (fun i => laneCounters i || within 0x5010 0x5011 i))
  ∧ (∀ (a : Fin 2) (b : Bool) (d : BitVec 64), ∀ c ∈ ([.setpointPulseEdge a b d, .setpointPulseTimeout a] : List Instr),
      Leaves c [.av] (fun i => within 0x5010 0x5011 i))
  ∧ (∀ (a : Fin 16), Leaves (.detectorAcknowledge a) [.av, .host, .alley, .sent] (fun i => laneCounters i || within 0x5480 0x548F i))
  ∧ Leaves .injectionStartNow [.av, .host, .alley, .sent] (fun i => laneCounters i || i == 0x5400 || i == 0x5440)
  ∧ Leaves .injectionStop [.av, .host, .alley, .sent] (fun i => laneCounters i || i == 0x5400)
  ∧ Leaves .injectionScheduleStart [.av] (fun i => i == 0x5400 || i == 0x5440)
  ∧ Leaves .injectionDurationEnd [.av] (fun i => i == 0x5400)
  ∧ Leaves .captureArm [.doms, .av, .host, .alley, .sent] (fun i => laneCounters i || i == 0x5440)
  ∧ (∀ c ∈ ([.captureDisarm, .captureTrigger] : List Instr),
      Leaves c [.av, .host, .alley, .sent] (fun i => laneCounters i || i == 0x5440))
  ∧ Leaves .captureComplete [.doms, .av] (fun i => i == 0x5440)
  ∧ Leaves .snapshotRelease [.host, .alley, .sent] (fun i => laneCounters i || i == 0x5440)
  ∧ (∀ (a : Fin 16), Leaves (.converterCommandSend a) [.lanes, .av, .sent] (fun i => i == 0x5620))
  ∧ (∀ (a : List Byte), Leaves (.converterResponse a) [.doms, .frame, .lanes, .av, .duplex, .evt, .host, .prog] (fun i => laneCounters i || i == 0x2002 || i == 0x2004 || i == 0x2020 || i == 0x5440 || i == 0x5600 || i == 0x5620 || i == 0x7001 || i == 0x7006 || i == 0xA000))
  ∧ (∀ (a : Fin 16), Leaves (.converterResponseMissing a) [.doms, .frame, .lanes, .av, .duplex, .evt, .host, .prog] (fun i => laneCounters i || i == 0x2002 || i == 0x2004 || i == 0x2020 || i == 0x5440 || i == 0x5600 || i == 0x7001 || i == 0x7006 || i == 0xA000 || decide (0xA051 ≤ i)))
  ∧ (∀ (a : Fin 16), Leaves (.sliproadUpdate a) [.lanes, .av, .slips, .valves, .duplex, .evt, .sent] (fun i => laneCounters i || decide (0x5000 ≤ i)))
  ∧ (∀ (a : Fin 4), Leaves (.sliproadStop a) [.av, .slips, .valves, .host, .alley, .sent] (fun i => laneCounters i || decide (0x5820 ≤ i)))
  ∧ (∀ (a : Fin 4) (b : Fin 2), ∀ c ∈ ([.sliproadStopRelease a, .homeStart b] : List Instr),
      Leaves c [.slips, .valves, .host, .alley, .sent] (fun i => laneCounters i || decide (0x5820 ≤ i)))
  ∧ (∀ (a : Fin 2), ∀ c ∈ ([.gearEngage a, .gearDisengage a] : List Instr),
      Leaves c [.slips, .host, .alley, .sent] (fun i => laneCounters i))
  ∧ (∀ (a : Fin 8) (b : Bool) (d : Fin 2) (e : BitVec 4), ∀ c ∈ ([.endSwitchEdge a b, .homeQualified d, .stepperFault d e] : List Instr),
      Leaves c [.av, .slips, .valves] (fun i => decide (0x5820 ≤ i)))
  ∧ (∀ (a : Fin 2), Leaves (.homeQualifyTimeout a) [.av, .valves] (fun i => decide (0x5820 ≤ i)))
  ∧ (∀ (a : Fin 2), Leaves (.standstillDelayExpiry a) [.valves] (fun _ => false))
  ∧ (∀ c ∈ ([.throttleMessagePeriod, .throttleGraceExpiry, .throttleOvercurrentTimeout] : List Instr),
      Leaves c [.therm] (fun _ => false))
  ∧ Leaves .throttleClearTime [.lanes, .therm, .evt] (fun i => laneCounters i || i == 0x6000 || i == 0x6050)
  ∧ Leaves .throttleAcknowledge [.therm, .host, .alley, .sent] (fun i => laneCounters i)
  ∧ Leaves .shutdownRequest [.lanes, .therm, .evt, .host, .alley, .sent] (fun i => laneCounters i || i == 0x6000 || i == 0x6060)
  ∧ Leaves .shutdownZeroReached [.lanes, .av, .therm, .safe, .evt] (fun i => laneCounters i || i == 0x6060)
  ∧ Leaves .shutdownZeroConfirmed [.lanes, .therm, .safe, .evt] (fun i => laneCounters i || i == 0x6060 || i == 0x6880)
  ∧ Leaves .shutdownFlush [.lanes, .rings, .cells, .therm, .evt, .prog, .pwr] (fun i => laneCounters i || i == 0x2060 || i == 0x2080 || i == 0x6060 || i == 0xA060)
  ∧ Leaves .shutdownIsolate [.lanes, .therm, .safe, .evt] (fun i => laneCounters i || i == 0x6000 || i == 0x6060)
  ∧ Leaves .shutdownStepDeadline [.lanes, .rings, .cells, .therm, .safe, .evt, .prog, .pwr] (fun i => laneCounters i || i == 0x2060 || i == 0x2080 || i == 0x6000 || i == 0x6060 || i == 0xA060)
  ∧ Leaves .outputRelease [.doms, .clk, .frame, .lanes, .rings, .cells, .av, .slips, .valves, .therm, .safe, .evt, .prog, .cans, .sent] (fun _ => true)

/-- What the commands of Bollard, the guard core, the contactors, the supplies, the banks and the vault leave alone; the commands that reset the module are stated by the reset they perform. -/
def Obligations.SafetyAndPowerFrame : Prop :=
  (∀ (a : Fin 4) (b : Fin 2) (d : List Byte), Leaves (.faultSymbolDecoded a b d) [.doms, .frame, .lanes, .rings, .cells, .av, .therm, .safe, .evt, .prog, .pwr, .sent] (fun i => laneCounters i || i == 0x2002 || i == 0x2004 || i == 0x2060 || i == 0x2080 || within 0x3010 0x3013 i || i == 0x5440 || i == 0x6060 || within 0x6800 0x6803 i || i == 0x6880 || i == 0xA000 || i == 0xA060))
  ∧ Leaves .internalLinkLost [.doms, .frame, .lanes, .rings, .cells, .av, .valves, .therm, .safe, .evt, .prog, .pwr] (fun i => laneCounters i || i == 0x2002 || i == 0x2004 || i == 0x2060 || i == 0x2080 || i == 0x5440 || i == 0x6060 || within 0x6800 0x6803 i || i == 0x6880 || i == 0xA000 || i == 0xA060)
  ∧ (∀ (a : BitVec 4) (b : BitVec 4) (d : Bool) (e : Bool) (f : Bool) (g : Fin 4) (h : BitVec 32) (j : Fin 8), ∀ c ∈ ([.guardVerdict a b d e f, .bollardComparatorTrip g h, .partnerTripReceived, .guardPermitLoss, .stringSupplyLow, .slcDegradedTimeout, 
      .slvMissingHoldExpiry, .sltMissingHoldExpiry, .bollardCrcCheck d, .bollardSelfTest j d, .doorOpen] : List Instr),
      Leaves c [.doms, .frame, .lanes, .rings, .cells, .av, .therm, .safe, .evt, .prog, .pwr] (fun i => laneCounters i || i == 0x2002 || i == 0x2004 || i == 0x2060 || i == 0x2080 || i == 0x5440 || i == 0x6060 || within 0x6800 0x6803 i || i == 0x6880 || i == 0xA000 || i == 0xA060))
  ∧ Leaves .slcDiscrepancyTimeout [.lanes, .safe, .evt] (fun i => laneCounters i)
  ∧ (∀ (a : BitVec 8), Leaves (.sdcRequestWrite a) [.safe, .host, .alley, .sent] (fun i => laneCounters i || i == 0x6850))
  ∧ Leaves .ssiRequest [.safe, .host, .alley, .sent] (fun i => laneCounters i)
  ∧ (∀ c ∈ ([.contactorClose, .contactorOpen] : List Instr),
      Leaves c [.safe, .host, .alley, .sent] (fun i => laneCounters i || i == 0x6880))
  ∧ (∀ c ∈ ([.contactorStepTimer, .prechargeReached] : List Instr),
      Leaves c [.safe] (fun i => i == 0x6880))
  ∧ Leaves .prechargeTimeout [.lanes, .safe, .evt, .host] (fun i => laneCounters i || i == 0x6880)
  ∧ (∀ (a : Fin 4), ∀ c ∈ ([.economiserHold a, .slcLimitsReturn] : List Instr),
      Leaves c [.safe] (fun _ => false))
  ∧ Leaves .weldCheckTimeout [.lanes, .safe, .evt] (fun i => laneCounters i || i == 0x6880)
  ∧ Leaves .weldAcknowledge [.host, .alley, .sent] (fun i => laneCounters i || i == 0x6880)
  ∧ Leaves .safeRstRise [.lanes, .safe, .evt] (fun i => laneCounters i || i == 0x6870)
  ∧ Leaves .safeRstReleaseEdge [.lanes, .safe, .evt, .free] (fun i => laneCounters i || i == 0x2004 || within 0x6800 0x6801 i || i == 0x6870)
  ∧ (∀ c ∈ ([.safeRstStuck, .safeRstUnstuck] : List Instr),
      Leaves c [.lanes, .safe, .evt] (fun i => laneCounters i || i == 0x2004 || i == 0x6800 || i == 0x6870))
  ∧ (∀ (a : BitVec 8), Leaves (.resetTestComplete a) [.doms, .frame, .lanes, .rings, .cells, .av, .slips, .therm, .safe, .evt, .prog, .pwr] (fun i => laneCounters i || i == 0x2002 || i == 0x2004 || i == 0x2060 || i == 0x2080 || i == 0x5440 || i == 0x6000 || i == 0x6060 || within 0x6800 0x6803 i || i == 0x6880 || i == 0xA000 || i == 0xA060))
  ∧ Leaves .remoteReset [.lanes, .safe, .evt, .host, .alley, .sent] (fun i => laneCounters i || i == 0x2004 || within 0x6800 0x6801 i)
  ∧ (∀ (a : List Byte), Leaves (.safetyPasswordWrite a) [.doms, .lanes, .evt, .host, .log, .alley, .sent, .free] (fun i => laneCounters i || i == 0x2080 || within 0x6890 0x6891 i))
  ∧ Leaves .partnerTripDeasserted [.lanes, .safe, .evt] (fun i => laneCounters i || i == 0x2004 || within 0x6800 0x6802 i)
  ∧ (∀ (a : BitVec 32) (b : Fin 6), Leaves (.powerFailWarning a b) [.lanes, .cells, .evt, .prog, .pwr, .free] (fun i => laneCounters i || i == 0x2060 || i == 0x2080 || i == 0x8000 || i == 0x8016 || i == 0xA060))
  ∧ (∀ c ∈ ([.hostResetRequest, .hostResetForced] : List Instr),
      Leaves c [.lanes, .cells, .evt, .host, .prog, .alley, .pwr, .sent] (fun i => laneCounters i || i == 0x2060 || i == 0x2080 || i == 0xA060))
  ∧ (∀ (a : List Byte), Leaves (.firmwareImageWrite a) [.lanes, .evt, .host, .alley, .pwr, .sent] (fun i => laneCounters i || i == 0x2050 || i == 0x6040 || i == 0x8000))
  ∧ Leaves .bankProgramComplete [.lanes, .evt, .host, .alley, .pwr, .sent] (fun i => laneCounters i || i == 0x2050 || i == 0x8000)
  ∧ (∀ (a : BitVec 8), Leaves (.bankSelectWrite a) [.doms, .lanes, .evt, .host, .log, .alley, .pwr, .sent] (fun i => laneCounters i || i == 0x2050 || i == 0x2080 || i == 0x6891))
  ∧ Leaves .trialConfirm [.lanes, .evt] (fun i => laneCounters i || i == 0x2050)
  ∧ Leaves .countersCommit [.pwr] (fun i => i == 0x2060 || i == 0x2080)
  ∧ (∀ (a : BitVec 16), ∀ c ∈ ([.caseSwitchOpen, .vaultCapacitorLow a] : List Instr),
      Leaves c [.pwr] (fun i => i == 0x2070))
  ∧ Leaves .vaultPowerOn [.pwr] (fun _ => false)
  ∧ (Leaves .clearVaultLatches [.doms, .lanes, .evt, .host, .log, .alley, .pwr, .sent] (fun i => laneCounters i || i == 0x2070 || i == 0x2080 || i == 0x6891))
  ∧ (∀ c ∈ ([.presentClosed, .mainRampTimeout, .mainRampRetry] : List Instr),
      Leaves c [.pwr] (fun i => i == 0x2090))
  ∧ (∀ (a : BitVec 32), Leaves (.presentOpen a) [.doms, .frame, .lanes, .rings, .cells, .av, .valves, .therm, .safe, .duplex, .evt, .prog, .pwr, .free] (fun i => laneCounters i || i == 0x2002 || i == 0x2004 || i == 0x2060 || i == 0x2070 || i == 0x2080 || i == 0x2090 || i == 0x5440 || i == 0x6060 || within 0x6800 0x6803 i || i == 0x6880 || i == 0x8000 || i == 0x8016 || i == 0xA000 || i == 0xA060))
  ∧ Leaves .j2LoopOpen [.doms, .frame, .lanes, .rings, .cells, .av, .valves, .therm, .safe, .evt, .prog, .pwr] (fun i => laneCounters i || i == 0x2002 || i == 0x2004 || i == 0x2060 || i == 0x2080 || i == 0x2090 || i == 0x5440 || i == 0x6060 || within 0x6800 0x6803 i || i == 0x6880 || i == 0xA000 || i == 0xA060)
  ∧ Leaves .j2LoopClosedDelay [.doms, .frame, .lanes, .rings, .av, .slips, .valves, .safe, .evt, .prog, .pwr, .stringUp] (fun i => laneCounters i || i == 0x2002 || i == 0x2004 || i == 0x2090 || decide (0x3010 ≤ i))
  ∧ (∀ (a : BitVec 5), Leaves (.standbyPowerUp a) [.pwr] (fun i => i == 0x1400 || i == 0x7001))
  ∧ Leaves .standbyPowerLoss [.alley, .pwr] (fun i => i == 0x1211 || i == 0x1400)

/-- What the commands of the duplex pair and of the cyclic program leave alone. -/
def Obligations.PairAndProgramFrame : Prop :=
  Leaves .fastTaskRelease [.doms, .frame, .lanes, .av, .duplex, .evt, .prog] (fun i => laneCounters i || i == 0x2002 || i == 0x2004 || within 0x2110 0x2111 i || i == 0x5440 || i == 0xA000 || i == 0xA022 || i == 0xA030 || i == 0xA042)
  ∧ (∀ (a : Fin 4), ∀ c ∈ ([.slowTaskRelease a, .backgroundPassStart] : List Instr),
      Leaves c [.doms, .frame, .lanes, .av, .evt, .prog] (fun i => laneCounters i || i == 0x2002 || i == 0x2004 || within 0x2110 0x2111 i || i == 0x5440 || i == 0xA000 || i == 0xA022 || i == 0xA030 || i == 0xA042))
  ∧ (∀ (a : Fin 6) (b : List RegionWrite), Leaves (.taskRunEnd a b) [.doms, .lanes, .evt, .prog, .free] (fun i => laneCounters i || i == 0x2112 || i == 0xA000 || within 0xA020 0xA021 i || i == 0xA030 || i == 0xA042))
  ∧ Leaves .backgroundLong [.lanes, .evt, .prog] (fun i => laneCounters i)
  ∧ Leaves .mirrorSend [.duplex, .host, .prog, .sent] (fun i => laneCounters i || i == 0x7008)
  ∧ Leaves .heartbeatSend [.lanes, .duplex, .evt, .sent] (fun i => laneCounters i)
  ∧ (∀ (a : Fin 2) (b : List Byte), Leaves (.heartbeatReceived a b) [.doms, .frame, .lanes, .av, .duplex, .evt, .host, .prog, .free] (fun i => laneCounters i || i == 0x2002 || i == 0x2004 || i == 0x2020 || i == 0x5440 || i == 0x5620 || within 0x7001 0x7002 i || within 0x7006 0x700A i || i == 0xA000))
  ∧ Leaves .heartbeatMissing [.doms, .frame, .lanes, .av, .duplex, .evt, .host, .prog] (fun i => laneCounters i || i == 0x2002 || i == 0x2004 || i == 0x2020 || i == 0x5440 || i == 0x5620 || i == 0x7001 || i == 0x7006 || i == 0x700A || i == 0xA000)
  ∧ (∀ (a : Fin 2), Leaves (.footbridgeLaneUp a) [.lanes, .evt] (fun i => laneCounters i || i == 0x7008))
  ∧ (∀ (a : Fin 2), ∀ c ∈ ([.footbridgeLaneDown a, .mirrorMissing] : List Instr),
      Leaves c [.doms, .frame, .lanes, .av, .duplex, .evt, .host, .prog] (fun i => laneCounters i || i == 0x2002 || i == 0x2004 || i == 0x2020 || i == 0x5440 || i == 0x7001 || i == 0x7006 || within 0x7008 0x7009 i || i == 0xA000))
  ∧ (∀ (a : List Byte) (b : List Byte), Leaves (.mirrorReceived a b) [.doms, .frame, .lanes, .av, .duplex, .evt, .host, .prog] (fun i => laneCounters i || i == 0x2002 || i == 0x2004 || i == 0x2020 || i == 0x5440 || i == 0x7001 || i == 0x7006 || within 0x7008 0x7009 i || within 0x7020 0x702A i || i == 0xA000))
  ∧ Leaves .clearSuspect [.doms, .frame, .lanes, .av, .duplex, .evt, .host, .prog, .alley, .sent] (fun i => laneCounters i || i == 0x2002 || i == 0x2004 || i == 0x2020 || i == 0x5440 || i == 0x7001 || i == 0x7006 || i == 0x7009 || i == 0xA000)
  ∧ Leaves .switchoverRequest [.lanes, .duplex, .evt, .host, .alley, .sent] (fun i => laneCounters i)
  ∧ Leaves .startListenEnd [.doms, .frame, .lanes, .av, .duplex, .evt, .host, .prog] (fun i => laneCounters i || i == 0x2002 || i == 0x2004 || i == 0x2020 || i == 0x5440 || i == 0x5620 || i == 0x7001 || i == 0x7006 || i == 0xA000)
  ∧ Leaves .pullBlockSend [.duplex, .prog, .sent] (fun i => laneCounters i || i == 0xA011)
  ∧ (∀ (a : Fin 2) (b : List Byte), Leaves (.pullBlockReceived a b) [.lanes, .duplex, .evt, .prog] (fun i => laneCounters i || within 0x7008 0x7009 i || i == 0xA011))
  ∧ Leaves .shadowRunComplete [.doms, .frame, .lanes, .av, .duplex, .evt, .host, .prog] (fun i => laneCounters i || i == 0x2002 || i == 0x2004 || i == 0x2020 || i == 0x5440 || i == 0x7001 || i == 0x7006 || i == 0x7009 || i == 0xA000)
  ∧ (∀ (a : List Byte), Leaves (.imageCheck a) [.lanes, .evt, .host, .prog, .alley, .sent] (fun i => laneCounters i || i == 0xA011))
  ∧ Leaves .imageForwardComplete [.prog] (fun i => i == 0xA011)
  ∧ Leaves .imageActivate [.doms, .lanes, .evt, .host, .prog, .alley, .sent] (fun i => laneCounters i || i == 0x2020 || within 0xA000 0xA001 i || i == 0xA011 || i == 0xA030 || i == 0xA042)
  ∧ (∀ c ∈ ([.warmStart, .coldStart] : List Instr),
      Leaves c [.lanes, .evt, .host, .prog, .alley, .sent] (fun i => laneCounters i || i == 0xA000))
  ∧ Leaves .programStop [.doms, .lanes, .evt, .host, .prog, .alley, .sent] (fun i => laneCounters i || i == 0xA000 || i == 0xA030 || i == 0xA042)
  ∧ (∀ (a : Fin 6) (b : BitVec 32) (d : BitVec 32), Leaves (.programTrap a b d) [.doms, .lanes, .evt, .prog] (fun i => laneCounters i || i == 0xA000 || i == 0xA030 || i == 0xA042))
  ∧ (∀ (a : Fin 6), ∀ c ∈ ([.envCallModuleTime a, .envCallReleaseTime a, .envCallFrameNumber a] : List Instr),
      Leaves c [.prog] (fun _ => false))
  ∧ (∀ (a : Fin 6) (b : BitVec 32) (d : BitVec 32) (e : List Byte), Leaves (.envCallUserEvent a b d e) [.lanes, .prog, .free] (fun i => laneCounters i))
  ∧ (∀ (a : Fin 16), Leaves (.stationReceiveTimeout a) [.lanes, .evt, .prog] (fun i => laneCounters i || decide (0xA051 ≤ i)))
  ∧ (∀ (a : Bool), Leaves (.retainedCheckpoint a) [.prog, .pwr] (fun i => i == 0x2060 || i == 0x2080 || i == 0xA060))
  ∧ (∀ (a : ObjRef) (b : List Byte), Leaves (.onlineChangeWrite a b) [.lanes, .evt, .host, .prog, .alley, .sent] (fun i => laneCounters i || i == 0xA030))
  ∧ (∀ (a : ObjRef) (b : BitVec 64), ∀ c ∈ ([.forceSetRequest a b, .forceClearRequest a, .forceClearAllRequest] : List Instr),
      Leaves c [.doms, .lanes, .evt, .host, .prog, .alley, .sent] (fun i => laneCounters i || i == 0xA042))
  ∧ (∀ (a : Bool), Leaves (.plazaEccError a) [.duplex] (fun _ => false))

/-- What the commands of the object server, the networks, Alley, the CAN controllers and the event recorder leave alone. -/
def Obligations.HostFrame : Prop :=
  Leaves .writeBatchClose [.lanes, .host, .alley, .sent] (fun i => laneCounters i || i == 0x1201)
  ∧ Leaves .alleyMailboxPoll [.lanes, .duplex, .evt, .host, .alley] (fun i => laneCounters i || i == 0x2020)
  ∧ (∀ (a : Channel) (b : BitVec 32) (d : BitVec 16) (e : BitVec 32) (f : Bool) (g : List Byte) (h : List Byte), Leaves (.eopHello a b d e f g h) [.lanes, .evt, .host, .sent, .free] (fun i => laneCounters i || i == 0x1200 || i == 0x1500))
  ∧ (∀ (a : Channel) (b : BitVec 32) (d : BitVec 32) (e : List Byte) (f : MsgHead) (g : BitVec 8), ∀ c ∈ ([.eopProof a b d e, .eopClose f g] : List Instr),
      Leaves c [.doms, .lanes, .duplex, .evt, .host, .cans, .sent] (fun i => laneCounters i || within 0x1200 0x1201 i || i == 0x1211 || i == 0x1500 || i == 0x2020 || decide (0x7800 ≤ i)))
  ∧ (∀ (a : Channel), Leaves (.handshakeTimeout a) [.lanes, .evt, .host, .sent] (fun i => laneCounters i || i == 0x1200 || i == 0x1500))
  ∧ (∀ (a : MsgHead) (b : Bool) (d : List ObjRef), ∀ c ∈ ([.eopKeepalive a, .eopRead a b d, .eopDescribe a d] : List Instr),
      Leaves c [.host, .sent] (fun i => laneCounters i || i == 0x1201))
  ∧ (∀ (a : Channel), Leaves (.keepaliveTimeout a) [.doms, .lanes, .duplex, .evt, .host, .cans, .sent] (fun i => laneCounters i || i == 0x1200 || i == 0x1211 || i == 0x1500 || i == 0x2020 || decide (0x7800 ≤ i)))
  ∧ (∀ (a : MsgHead) (b : List WriteItem), Leaves (.eopWrite a b) [.lanes, .duplex, .evt, .host, .sent] (fun i => laneCounters i || i == 0x1201 || i == 0x2020))
  ∧ (∀ (a : ObjRef) (b : Bool), ∀ c ∈ ([.objectWriteApply a, .configCommitEffect b] : List Instr),
      Leaves c [.doms, .frame, .lanes, .rings, .cells, .av, .slips, .evt, .host, .log, .prog, .cans, .alley, .sent] (fun _ => true))
  ∧ (∀ (a : MsgHead) (b : BitVec 8) (d : Bool) (e : ObjRef) (f : BitVec 32) (g : BitVec 32) (h : BitVec 8) (j : AckStatus) (k : BitVec 8), ∀ c ∈ ([.segInit a b d e f g, .segAck a b j k f, .segAbort a b h] : List Instr),
      Leaves c [.lanes, .evt, .host, .cans, .sent] (fun i => laneCounters i || i == 0x1201 || decide (0x7800 ≤ i)))
  ∧ (∀ (a : MsgHead) (b : BitVec 8) (d : BitVec 32) (e : List Byte), Leaves (.segData a b d e) [.lanes, .evt, .host, .sent] (fun i => laneCounters i || i == 0x1201))
  ∧ (∀ (a : Channel) (b : BitVec 8), ∀ c ∈ ([.segAckTimer a b, .segResendTimer a b] : List Instr),
      Leaves c [.host, .sent] (fun i => laneCounters i))
  ∧ (∀ (a : Channel) (b : BitVec 8), Leaves (.segTransferTimeout a b) [.lanes, .evt, .host, .cans, .sent] (fun i => laneCounters i || decide (0x7800 ≤ i)))
  ∧ (∀ (a : MsgHead), Leaves (.safetyOpen a) [.host, .sent, .free] (fun i => laneCounters i || i == 0x1201))
  ∧ (∀ (a : MsgHead) (b : List Byte), Leaves (.safetyProof a b) [.lanes, .evt, .host, .log, .sent] (fun i => laneCounters i || i == 0x1201 || i == 0x1211 || i == 0x6890))
  ∧ (∀ (a : MsgHead), Leaves (.safetyClose a) [.lanes, .evt, .host, .sent] (fun i => laneCounters i || i == 0x1201 || i == 0x1211))
  ∧ (∀ (a : Channel), Leaves (.safetySessionTimeout a) [.lanes, .evt, .host] (fun i => laneCounters i || i == 0x1211))
  ∧ (∀ (a : List Byte), Leaves (.preSharedKeyWrite a) [.doms, .lanes, .evt, .host, .log, .alley, .sent] (fun i => laneCounters i || i == 0x1210 || i == 0x2080 || i == 0x6891))
  ∧ Leaves .configCommit [.lanes, .evt, .host, .alley, .sent] (fun i => laneCounters i || i == 0x2020)
  ∧ Leaves .configDiscard [.lanes, .duplex, .evt, .host, .alley, .sent] (fun i => laneCounters i || i == 0x2020)
  ∧ Leaves .servicePortAttach [.lanes, .evt] (fun i => laneCounters i || i == 0x1500)
  ∧ Leaves .servicePortDetach [.doms, .lanes, .duplex, .evt, .host, .cans] (fun i => laneCounters i || i == 0x1200 || i == 0x1211 || i == 0x1500 || i == 0x2020 || decide (0x7800 ≤ i))
  ∧ (∀ (a : Fin 2) (b : BitVec 48) (d : Bool) (e : BitVec 4) (f : BitVec 16), ∀ c ∈ ([.prpFrameReceived a b d e f, .prpLanTimeout a d] : List Instr),
      Leaves c [.lanes, .evt, .host] (fun i => laneCounters i || i == 0x1101))
  ∧ (∀ (a : Fin 2) (b : BitVec 32) (d : BitVec 32) (e : BitVec 48) (f : Bool) (g : List Byte), ∀ c ∈ ([.prpSupervisionSend, .arpRequest a b d e, .icmpEcho b d f g] : List Instr),
      Leaves c [.host, .sent] (fun _ => false))
  ∧ (∀ (a : BitVec 48), Leaves (.prpNodeForget a) [.host] (fun i => i == 0x1101))
  ∧ (∀ (a : List Byte) (b : BitVec 8), ∀ c ∈ ([.identity a b, .health a b, .eventNewest a b, .eventRead a b, .lifecycleGet a b, .bankGet a b, .objectRead a b, .objectWrite a b] : List Instr),
      Leaves c [.lanes, .evt, .alley] (fun i => laneCounters i || i == 0x1400 || i == 0x8000))
  ∧ (∀ (a : List Byte) (b : BitVec 8), Leaves (.lifecycleRequest a b) [.lanes, .evt, .alley, .pwr] (fun i => laneCounters i || i == 0x1400 || i == 0x2040 || i == 0x2080 || i == 0x8000))
  ∧ (∀ (a : List Byte) (b : BitVec 8), Leaves (.bankSelect a b) [.lanes, .evt, .alley, .pwr] (fun i => laneCounters i || i == 0x1400 || i == 0x2050 || i == 0x8000))
  ∧ (∀ (a : List Byte) (b : BitVec 8), Leaves (.resetRequest a b) [.lanes, .evt, .alley, .pwr] (fun i => laneCounters i || i == 0x1400 || i == 0x8000))
  ∧ (∀ (a : List Byte) (b : BitVec 8), Leaves (.lockChallenge a b) [.lanes, .evt, .alley, .free] (fun i => laneCounters i || i == 0x1400 || i == 0x8000))
  ∧ (∀ (a : List Byte) (b : BitVec 8), Leaves (.lockProof a b) [.lanes, .evt, .log, .alley] (fun i => laneCounters i || i == 0x1211 || i == 0x1400 || i == 0x6890 || i == 0x8000))
  ∧ (∀ (a : List Byte) (b : BitVec 8), ∀ c ∈ ([.lockClose a b, .alleyLockTimeout] : List Instr),
      Leaves c [.lanes, .duplex, .evt, .host, .alley] (fun i => laneCounters i || i == 0x1211 || i == 0x1400 || i == 0x2020 || i == 0x8000))
  ∧ Leaves .alleyResponseRead [.alley, .sent] (fun i => laneCounters i)
  ∧ (∀ (a : Fin 3) (b : BitVec 32) (d : BitVec 6) (e : List Byte), Leaves (.canFrameReceived a b d e) [.lanes, .evt, .prog, .cans, .free] (fun i => laneCounters i || decide (0x7800 ≤ i)))
  ∧ (∀ (a : Fin 3), Leaves (.canBufferLoad a) [.lanes, .evt, .cans] (fun i => laneCounters i || decide (0x7800 ≤ i)))
  ∧ (∀ (a : Fin 3) (b : CanResult) (d : CanMeasured), Leaves (.canAttemptEnd a b d) [.lanes, .evt, .prog, .cans, .sent] (fun i => laneCounters i || decide (0x7800 ≤ i)))
  ∧ (∀ (a : Fin 3) (b : CanError) (d : Bool), ∀ c ∈ ([.canRecoveryHoldoff a, .canRecoveryComplete a, .canReceiveError a b d] : List Instr),
      Leaves c [.lanes, .evt, .prog, .cans] (fun i => laneCounters i || decide (0x7800 ≤ i)))
  ∧ (∀ (a : Fin 3), Leaves (.canRecoverNow a) [.lanes, .evt, .host, .prog, .cans, .alley, .sent] (fun i => laneCounters i || decide (0x7800 ≤ i)))
  ∧ (∀ (a : Fin 3) (b : List Byte), Leaves (.canHostTransmit a b) [.lanes, .evt, .host, .alley, .sent] (fun i => laneCounters i))
  ∧ (∀ (a : Fin 3) (b : List Byte), Leaves (.canFilterListWrite a b) [.doms, .lanes, .evt, .host, .alley, .sent] (fun i => laneCounters i || decide (0x7800 ≤ i)))
  ∧ (∀ (a : Fin 3), Leaves (.canClearCounters a) [.host, .alley, .sent] (fun i => laneCounters i || decide (0x7800 ≤ i)))
  ∧ Leaves .eventFrontRequest [.lanes, .evt] (fun i => laneCounters i || i == 0x8016)
  ∧ Leaves .eventWrite [.lanes, .evt] (fun i => laneCounters i || i == 0x8000)
  ∧ Leaves .suppressionExamination [.lanes, .evt] (fun i => laneCounters i)

/-! ### The two domains -/

/-- A domain without its supply does nothing (R18, R423, R425, R428): with the host domain down every command of the host domain leaves the state as it is, with the string domain down every command of the string domain does. -/
def Obligations.DomainsDown : Prop :=
  (∀ (s : State) (v0 : Fin 4) (v1 : BitVec 8) (v2 : LinkPacket) (v3 : List TempReading) (v4 : BitVec 16) (v5 : BitVec 8) (v6 : Fin 6) (v7 : List RegionWrite) (v8 : Fin 16) (v9 : Fin 48) (v10 : Fin 2) (v11 : BitVec 64) (v12 : Stamp) (v13 : Int) (v14 : Announce) (v15 : Stamp) (v16 : Fin 8) (v17 : Bool) (v18 : Fin 40) (v19 : List Byte) (v20 : Fin 96) (v21 : List Byte) (v22 : BitVec 32) (v23 : BitVec 32) (v24 : ObjRef) (v25 : Channel) (v26 : MsgHead) (v27 : List WriteItem) (v28 : List ObjRef) (v29 : BitVec 8) (v30 : AckStatus) (v31 : BitVec 48) (v32 : BitVec 4) (v33 : Fin 3), s.hostUp = false → ∀ c ∈ ([.frameBoundary, .ringReenumerateWrite v0, .ringRateAcknowledge v0, .ringRateModeWrite v0 v1, .parkActiveFrame, .internalLinkPacket v2, 
      .inputImageAssembly v3 v4 v1 v5, .fastTaskRelease, .slowTaskRelease v0, .backgroundPassStart, .taskRunEnd v6 v7, .backgroundLong, 
      .estimatorFrameWork v0, .outputSeal, .mirrorSend, .writeBatchClose, .outputRelease, .frameOverrun v6 v8 v4, .overrunConditionClear, 
      .clearBudgetCounters, .laneWaitResume v9, .alleyMailboxPoll, .requestedProfileWrite v1, .guardedRelease, 
      .ptpSyncReceived v10 v11 v1 v4 v12 v13, .ptpAnnounceReceived v10 v14, .pdelayReqReceived v10 v4 v12 v15, .pdelayRespReceived v10 v4 v12 v13, 
      .pdelayReqSend v10 v12, .servoTheta, .syncIntervalTimeout v10, .holdoverLimitExpiry, .stepRequestWrite v11, .servoModeWrite v1, 
      .ppsInputEdge v12, .ppsLossTimeout, .ppsOutputEdge, .comparatorEdge v16, .comparatorPulseEnd v16, .comparatorArm v16, .comparatorDisarm v16, 
      .dividerCalStart v10, .dividerCalComplete v10, .acceptProposedTrim v10, .xcheckWindowClose v16, .takeInjectionBaseline, 
      .checkEnableWrite v16, .openWireCycle, .openWireTestNow, .openWireResult v18, .restWindowSchedule, .restWindowDecline, 
      .restWindowDeclineExpiry, .restWindowEnd, .ocvTableLoad v0 v19, .stateBlockWrite, .authResponse v0 v19, .authTimeout v18, .recordStoreTimer, 
      .alignDispatch, .rcFit, .nvCommit v17, .recordCheckpoint, .recordResetWrite v4, .balanceTargets, .coeffCommitKeep v8, .coeffCommitTrack v8, 
      .loopFlagsWrite v8 v4, .sectionFlagsWrite v20 v1, .detectorAcknowledge v8, .injectionStartNow, .injectionStop, .captureArm, .captureDisarm, 
      .captureTrigger, .snapshotRelease, .sliproadStop v0, .sliproadStopRelease v0, .gearEngage v10, .gearDisengage v10, .homeStart v10, 
      .throttleGraceExpiry, .throttleOvercurrentTimeout, .throttleClearTime, .throttleAcknowledge, .shutdownRequest, .shutdownZeroReached, 
      .shutdownZeroConfirmed, .shutdownFlush, .shutdownIsolate, .shutdownStepDeadline, .sdcRequestWrite v1, .ssiRequest, .contactorClose, 
      .contactorOpen, .weldAcknowledge, .remoteReset, .safetyPasswordWrite v19, .heartbeatSend, .heartbeatReceived v10 v19, .heartbeatMissing, 
      .footbridgeLaneUp v10, .footbridgeLaneDown v10, .mirrorReceived v19 v21, .mirrorMissing, .clearSuspect, .switchoverRequest, .startListenEnd, 
      .pullBlockSend, .pullBlockReceived v10 v19, .shadowRunComplete, .imageCheck v19, .imageForwardComplete, .imageActivate, .warmStart, .coldStart, 
      .programStop, .programTrap v6 v22 v23, .envCallModuleTime v6, .envCallReleaseTime v6, .envCallFrameNumber v6, .envCallUserEvent v6 v22 v23 v19, 
      .stationReceiveTimeout v8, .retainedCheckpoint v17, .onlineChangeWrite v24 v19, .forceSetRequest v24 v11, .forceClearRequest v24, 
      .forceClearAllRequest, .eopHello v25 v22 v4 v23 v17 v19 v21, .eopProof v25 v22 v23 v19, .handshakeTimeout v25, .eopKeepalive v26, 
      .eopClose v26 v1, .keepaliveTimeout v25, .eopWrite v26 v27, .eopDescribe v26 v28, .objectWriteApply v24, .segInit v26 v1 v17 v24 v22 v23, 
      .segData v26 v1 v22 v19, .segAck v26 v1 v30 v29 v22, .segAbort v26 v1 v5, .segAckTimer v25 v1, .segResendTimer v25 v1, 
      .segTransferTimeout v25 v1, .safetyOpen v26, .safetyProof v26 v19, .safetyClose v26, .safetySessionTimeout v25, .preSharedKeyWrite v19, 
      .configCommit, .configDiscard, .configCommitEffect v17, .servicePortAttach, .servicePortDetach, .prpFrameReceived v10 v31 v17 v32 v4, 
      .prpSupervisionSend, .prpLanTimeout v10 v17, .prpNodeForget v31, .arpRequest v10 v22 v23 v31, .icmpEcho v22 v23 v17 v19, .canRecoverNow v33, 
      .canHostTransmit v33 v19, .canFilterListWrite v33 v19, .canClearCounters v33, .eventFrontRequest, .eventWrite, .suppressionExamination, 
      .powerFailWarning v22 v6, .powerDip v22, .guardLockstepMismatch, .hostResetRequest, .hostResetForced, .bankSelectWrite v1, .trialConfirm, 
      .countersCommit, .clearVaultLatches, .transitionRequestWrite v4, .announceReceiptTimeout v10 v11, .plazaEccError v17] : List Instr),
      exec c s = .next s)
  ∧ (∀ (s : State) (v0 : Fin 4) (v1 : Fin 2) (v2 : List Byte) (v3 : BitVec 16) (v4 : Bool) (v5 : List EnumUnit) (v6 : List EnumUnit) (v7 : BitVec 32) (v8 : BitVec 8) (v9 : BitVec 4) (v10 : BitVec 4) (v11 : Bool) (v12 : Bool) (v13 : Fin 16) (v14 : ChanPair) (v15 : ChanPair) (v16 : ChanPair) (v17 : ChanPair) (v18 : ChanWindows) (v19 : ChanWindows) (v20 : ChanWindows) (v21 : ChanWindows) (v22 : BitVec 64) (v23 : Fin 8) (v24 : Fin 3) (v25 : BitVec 6) (v26 : CanResult) (v27 : CanMeasured) (v28 : CanError), s.stringUp = false → ∀ c ∈ ([.syncLaunch v0, .ringSweep v0, .ringFrameReceived v0 v1 v2 v3, .ringAbortReceived v0 v1, .ringTimeout v0 v1, .sweepClose v0, 
      .ringEnumerate v0 v4 v5 v6 v7, .ringPortRateChange v0 v1, .faultSymbolDecoded v0 v1 v2, .wakeToneDetected v0 v1 v8, .internalLinkLost, 
      .guardVerdict v9 v10 v4 v11 v12, .loopSamplePush v13 v14 v15 v16 v17, .frontEndFrameValues v18 v19 v20 v21, .loopSample v13, 
      .avenueSlotLate v13, .fallbackHoldExpiry v13, .setpointInputSample v1 v13 v7, .setpointPulseEdge v1 v4 v22, .setpointPulseTimeout v1, 
      .injectionScheduleStart, .injectionDurationEnd, .captureComplete, .converterCommandSend v13, .converterResponse v2, 
      .converterResponseMissing v13, .sliproadUpdate v13, .endSwitchEdge v23 v4, .homeQualified v1, .homeQualifyTimeout v1, 
      .standstillDelayExpiry v1, .stepperFault v1 v9, .bollardComparatorTrip v0 v7, .partnerTripReceived, .guardPermitLoss, .slcDiscrepancyTimeout, 
      .slcDegradedTimeout, .slvMissingHoldExpiry, .sltMissingHoldExpiry, .bollardCrcCheck v4, .bollardSelfTest v23 v4, .contactorStepTimer, 
      .prechargeReached, .prechargeTimeout, .economiserHold v0, .weldCheckTimeout, .safeRstRise, .safeRstReleaseEdge, .safeRstStuck, .safeRstUnstuck, 
      .resetTestComplete v8, .doorOpen, .canFrameReceived v24 v7 v25 v2, .canBufferLoad v24, .canAttemptEnd v24 v26 v27, .canRecoveryHoldoff v24, 
      .canRecoveryComplete v24, .partnerTripDeasserted, .slcLimitsReturn, .canReceiveError v24 v28 v4] : List Instr),
      exec c s = .next s)

end StatementsOfTheRow
end

