-- ==== Sys2Proof/Laws/Store.lean ====
section
/-!
SUPPORT. The sparse table: a read after a write to the same key gives the value written, a write leaves every other key
alone, and the canonical form is kept.
-/
namespace Sys2Proof.Machine

variable {α : Type}

theorem storeGet_drop_self (d : Nat → α) (l : List (Nat × α)) (k : Nat) : storeGet d (storeDrop l k) k = d k := by
  induction l with
  | nil => rfl
  | cons p r ih =>
    obtain ⟨j, v⟩ := p
    by_cases h : j = k <;> simp [storeDrop, storeGet, h, ih]

theorem storeGet_drop_other (d : Nat → α) (l : List (Nat × α)) {k m : Nat} (h : m ≠ k) :
    storeGet d (storeDrop l k) m = storeGet d l m := by
  induction l with
  | nil => rfl
  | cons p r ih =>
    obtain ⟨j, v⟩ := p
    by_cases hj : j = k
    · subst hj; simp [storeDrop, storeGet, ih, Ne.symm h]
    · simp [storeDrop, storeGet, hj, ih]

theorem storeGet_insert_self (d : Nat → α) (l : List (Nat × α)) (k : Nat) (v : α)
    (h : ∀ w, (k, w) ∉ l) : storeGet d (storeInsert l k v) k = v := by
  induction l with
  | nil => simp [storeInsert, storeGet]
  | cons p r ih =>
    obtain ⟨j, w⟩ := p
    have hj : j ≠ k := fun e => h w (by simp [e])
    by_cases hk : k < j
    · simp [storeInsert, storeGet, hk]
    · simp [storeInsert, storeGet, hk, hj, ih (fun w' hw => h w' (by simp [hw]))]

theorem storeGet_insert_other (d : Nat → α) (l : List (Nat × α)) {k m : Nat} (v : α) (h : m ≠ k) :
    storeGet d (storeInsert l k v) m = storeGet d l m := by
  induction l with
  | nil => simp [storeInsert, storeGet, Ne.symm h]
  | cons p r ih =>
    obtain ⟨j, w⟩ := p
    by_cases hk : k < j
    · simp [storeInsert, storeGet, hk, Ne.symm h]
    · simp [storeInsert, storeGet, hk, ih]

theorem not_mem_storeDrop (l : List (Nat × α)) (k : Nat) (w : α) : (k, w) ∉ storeDrop l k := by
  induction l with
  | nil => simp [storeDrop]
  | cons p r ih =>
    obtain ⟨j, v⟩ := p
    by_cases h : j = k
    · simp [storeDrop, h, ih]
    · simp [storeDrop, h, ih, Ne.symm h]

variable [DecidableEq α]

theorem storeGet_put_self (d : Nat → α) (l : List (Nat × α)) (k : Nat) (v : α) : storeGet d (storePut d l k v) k = v := by
  unfold storePut
  split
  · next h => rw [storeGet_drop_self, h]
  · exact storeGet_insert_self d _ k v (not_mem_storeDrop l k)

theorem storeGet_put_other (d : Nat → α) (l : List (Nat × α)) {k m : Nat} (v : α) (h : m ≠ k) :
    storeGet d (storePut d l k v) m = storeGet d l m := by
  unfold storePut
  split
  · exact storeGet_drop_other d l h
  · rw [storeGet_insert_other d _ v h, storeGet_drop_other d l h]

/-- What a key reads after a write. -/
theorem storeGet_put (d : Nat → α) (l : List (Nat × α)) (k m : Nat) (v : α) :
    storeGet d (storePut d l k v) m = if m = k then v else storeGet d l m := by
  split
  · next h => rw [h, storeGet_put_self]
  · next h => exact storeGet_put_other d l v h

omit [DecidableEq α] in
theorem storeAbove_mono {a b : Nat} (h : a ≤ b) (l : List (Nat × α)) (hb : storeAbove b l) : storeAbove a l := by
  induction l with
  | nil => trivial
  | cons p r ih => exact ⟨Nat.lt_of_le_of_lt h hb.1, ih hb.2⟩

omit [DecidableEq α] in
theorem storeAbove_drop {b : Nat} (l : List (Nat × α)) (k : Nat) (h : storeAbove b l) : storeAbove b (storeDrop l k) := by
  induction l with
  | nil => trivial
  | cons p r ih =>
    obtain ⟨j, v⟩ := p
    by_cases hj : j = k
    · simpa [storeDrop, hj] using ih h.2
    · simpa [storeDrop, hj, storeAbove] using ⟨h.1, ih h.2⟩

omit [DecidableEq α] in
theorem storeAbove_insert {b k : Nat} (l : List (Nat × α)) (v : α) (h : storeAbove b l) (hk : b < k) :
    storeAbove b (storeInsert l k v) := by
  induction l with
  | nil => exact ⟨hk, trivial⟩
  | cons p r ih =>
    obtain ⟨j, w⟩ := p
    by_cases hj : k < j
    · simpa [storeInsert, hj, storeAbove] using ⟨hk, h⟩
    · simpa [storeInsert, hj, storeAbove] using ⟨h.1, ih h.2⟩

omit [DecidableEq α] in
theorem storeWf_drop (d : Nat → α) (l : List (Nat × α)) (k : Nat) (h : storeWf d l) : storeWf d (storeDrop l k) := by
  induction l with
  | nil => trivial
  | cons p r ih =>
    obtain ⟨j, v⟩ := p
    by_cases hj : j = k
    · simpa [storeDrop, hj] using ih h.2.2
    · simpa [storeDrop, hj, storeWf] using ⟨h.1, storeAbove_drop r k h.2.1, ih h.2.2⟩

omit [DecidableEq α] in
theorem storeWf_insert (d : Nat → α) (l : List (Nat × α)) (k : Nat) (v : α) (h : storeWf d l) (hv : v ≠ d k)
    (hk : ∀ w, (k, w) ∉ l) : storeWf d (storeInsert l k v) := by
  induction l with
  | nil => exact ⟨hv, trivial, trivial⟩
  | cons p r ih =>
    obtain ⟨j, w⟩ := p
    have hj : j ≠ k := fun e => hk w (by simp [e])
    by_cases hlt : k < j
    · simp only [storeInsert, hlt, if_true]
      exact ⟨hv, ⟨hlt, storeAbove_mono (Nat.le_of_lt hlt) r h.2.1⟩, h⟩
    · simp only [storeInsert, hlt, if_false]
      exact ⟨h.1, storeAbove_insert r v h.2.1 (by omega), ih h.2.2 (fun w' hw => hk w' (by simp [hw]))⟩

/-- A write keeps the canonical form. -/
theorem storeWf_put (d : Nat → α) (l : List (Nat × α)) (k : Nat) (v : α) (h : storeWf d l) : storeWf d (storePut d l k v) := by
  unfold storePut
  split
  · exact storeWf_drop d l k h
  · next hv => exact storeWf_insert d _ k v (storeWf_drop d l k h) hv (not_mem_storeDrop l k)

omit [DecidableEq α] in
/-- Leaving entries out keeps the canonical form. -/
theorem storeWf_filter (d : Nat → α) (p : Nat × α → Bool) (l : List (Nat × α)) (h : storeWf d l) : storeWf d (l.filter p) := by
  have above : ∀ (r : List (Nat × α)) b, storeAbove b r → storeAbove b (r.filter p) := by
    intro r b hr
    induction r with
    | nil => trivial
    | cons q r ih =>
      by_cases hq : p q
      · simpa [List.filter_cons, hq, storeAbove] using ⟨hr.1, ih hr.2⟩
      · simpa [List.filter_cons, hq] using ih hr.2
  induction l with
  | nil => trivial
  | cons q r ih =>
    by_cases hq : p q
    · simpa [List.filter_cons, hq, storeWf] using ⟨h.1, above r _ h.2.1, ih h.2.2⟩
    · simpa [List.filter_cons, hq] using ih h.2.2

end Sys2Proof.Machine
end

