-- ==== Sys2Proof/Laws/State.lean ====
section
/-!
SUPPORT. What each update of the state changes, and that it leaves every other field: one lemma for each field and update.
-/
namespace Sys2Proof.Machine

variable (s : State)

@[simp] theorem State.setObj_doms (i k : Nat) (v : Int) : (s.setObj i k v).doms = s.doms := rfl
@[simp] theorem State.setObj_clk (i k : Nat) (v : Int) : (s.setObj i k v).clk = s.clk := rfl
@[simp] theorem State.setObj_frame (i k : Nat) (v : Int) : (s.setObj i k v).frame = s.frame := rfl
@[simp] theorem State.setObj_lanes (i k : Nat) (v : Int) : (s.setObj i k v).lanes = s.lanes := rfl
@[simp] theorem State.setObj_rings (i k : Nat) (v : Int) : (s.setObj i k v).rings = s.rings := rfl
@[simp] theorem State.setObj_cells (i k : Nat) (v : Int) : (s.setObj i k v).cells = s.cells := rfl
@[simp] theorem State.setObj_av (i k : Nat) (v : Int) : (s.setObj i k v).av = s.av := rfl
@[simp] theorem State.setObj_slips (i k : Nat) (v : Int) : (s.setObj i k v).slips = s.slips := rfl
@[simp] theorem State.setObj_valves (i k : Nat) (v : Int) : (s.setObj i k v).valves = s.valves := rfl
@[simp] theorem State.setObj_therm (i k : Nat) (v : Int) : (s.setObj i k v).therm = s.therm := rfl
@[simp] theorem State.setObj_safe (i k : Nat) (v : Int) : (s.setObj i k v).safe = s.safe := rfl
@[simp] theorem State.setObj_duplex (i k : Nat) (v : Int) : (s.setObj i k v).duplex = s.duplex := rfl
@[simp] theorem State.setObj_evt (i k : Nat) (v : Int) : (s.setObj i k v).evt = s.evt := rfl
@[simp] theorem State.setObj_host (i k : Nat) (v : Int) : (s.setObj i k v).host = s.host := rfl
@[simp] theorem State.setObj_log (i k : Nat) (v : Int) : (s.setObj i k v).log = s.log := rfl
@[simp] theorem State.setObj_prog (i k : Nat) (v : Int) : (s.setObj i k v).prog = s.prog := rfl
@[simp] theorem State.setObj_cans (i k : Nat) (v : Int) : (s.setObj i k v).cans = s.cans := rfl
@[simp] theorem State.setObj_alley (i k : Nat) (v : Int) : (s.setObj i k v).alley = s.alley := rfl
@[simp] theorem State.setObj_pwr (i k : Nat) (v : Int) : (s.setObj i k v).pwr = s.pwr := rfl
@[simp] theorem State.setObj_pairOn (i k : Nat) (v : Int) : (s.setObj i k v).pairOn = s.pairOn := rfl
@[simp] theorem State.setObj_hostUp (i k : Nat) (v : Int) : (s.setObj i k v).hostUp = s.hostUp := rfl
@[simp] theorem State.setObj_stringUp (i k : Nat) (v : Int) : (s.setObj i k v).stringUp = s.stringUp := rfl
@[simp] theorem State.setObj_sent (i k : Nat) (v : Int) : (s.setObj i k v).sent = s.sent := rfl
@[simp] theorem State.setObj_free (i k : Nat) (v : Int) : (s.setObj i k v).free = s.free := rfl
@[simp] theorem State.setObj_pending (i k : Nat) (v : Int) : (s.setObj i k v).pending = s.pending := rfl

@[simp] theorem State.setDom_objs (i k : Nat) (b : List Byte) : (s.setDom i k b).objs = s.objs := rfl
@[simp] theorem State.setDom_clk (i k : Nat) (b : List Byte) : (s.setDom i k b).clk = s.clk := rfl
@[simp] theorem State.setDom_frame (i k : Nat) (b : List Byte) : (s.setDom i k b).frame = s.frame := rfl
@[simp] theorem State.setDom_lanes (i k : Nat) (b : List Byte) : (s.setDom i k b).lanes = s.lanes := rfl
@[simp] theorem State.setDom_rings (i k : Nat) (b : List Byte) : (s.setDom i k b).rings = s.rings := rfl
@[simp] theorem State.setDom_cells (i k : Nat) (b : List Byte) : (s.setDom i k b).cells = s.cells := rfl
@[simp] theorem State.setDom_av (i k : Nat) (b : List Byte) : (s.setDom i k b).av = s.av := rfl
@[simp] theorem State.setDom_slips (i k : Nat) (b : List Byte) : (s.setDom i k b).slips = s.slips := rfl
@[simp] theorem State.setDom_valves (i k : Nat) (b : List Byte) : (s.setDom i k b).valves = s.valves := rfl
@[simp] theorem State.setDom_therm (i k : Nat) (b : List Byte) : (s.setDom i k b).therm = s.therm := rfl
@[simp] theorem State.setDom_safe (i k : Nat) (b : List Byte) : (s.setDom i k b).safe = s.safe := rfl
@[simp] theorem State.setDom_duplex (i k : Nat) (b : List Byte) : (s.setDom i k b).duplex = s.duplex := rfl
@[simp] theorem State.setDom_evt (i k : Nat) (b : List Byte) : (s.setDom i k b).evt = s.evt := rfl
@[simp] theorem State.setDom_host (i k : Nat) (b : List Byte) : (s.setDom i k b).host = s.host := rfl
@[simp] theorem State.setDom_log (i k : Nat) (b : List Byte) : (s.setDom i k b).log = s.log := rfl
@[simp] theorem State.setDom_prog (i k : Nat) (b : List Byte) : (s.setDom i k b).prog = s.prog := rfl
@[simp] theorem State.setDom_cans (i k : Nat) (b : List Byte) : (s.setDom i k b).cans = s.cans := rfl
@[simp] theorem State.setDom_alley (i k : Nat) (b : List Byte) : (s.setDom i k b).alley = s.alley := rfl
@[simp] theorem State.setDom_pwr (i k : Nat) (b : List Byte) : (s.setDom i k b).pwr = s.pwr := rfl
@[simp] theorem State.setDom_pairOn (i k : Nat) (b : List Byte) : (s.setDom i k b).pairOn = s.pairOn := rfl
@[simp] theorem State.setDom_hostUp (i k : Nat) (b : List Byte) : (s.setDom i k b).hostUp = s.hostUp := rfl
@[simp] theorem State.setDom_stringUp (i k : Nat) (b : List Byte) : (s.setDom i k b).stringUp = s.stringUp := rfl
@[simp] theorem State.setDom_sent (i k : Nat) (b : List Byte) : (s.setDom i k b).sent = s.sent := rfl
@[simp] theorem State.setDom_free (i k : Nat) (b : List Byte) : (s.setDom i k b).free = s.free := rfl
@[simp] theorem State.setDom_pending (i k : Nat) (b : List Byte) : (s.setDom i k b).pending = s.pending := rfl

@[simp] theorem State.setLane_objs (n : Nat) (l : Lane) : (s.setLane n l).objs = s.objs := rfl
@[simp] theorem State.setLane_doms (n : Nat) (l : Lane) : (s.setLane n l).doms = s.doms := rfl
@[simp] theorem State.setLane_clk (n : Nat) (l : Lane) : (s.setLane n l).clk = s.clk := rfl
@[simp] theorem State.setLane_frame (n : Nat) (l : Lane) : (s.setLane n l).frame = s.frame := rfl
@[simp] theorem State.setLane_rings (n : Nat) (l : Lane) : (s.setLane n l).rings = s.rings := rfl
@[simp] theorem State.setLane_cells (n : Nat) (l : Lane) : (s.setLane n l).cells = s.cells := rfl
@[simp] theorem State.setLane_av (n : Nat) (l : Lane) : (s.setLane n l).av = s.av := rfl
@[simp] theorem State.setLane_slips (n : Nat) (l : Lane) : (s.setLane n l).slips = s.slips := rfl
@[simp] theorem State.setLane_valves (n : Nat) (l : Lane) : (s.setLane n l).valves = s.valves := rfl
@[simp] theorem State.setLane_therm (n : Nat) (l : Lane) : (s.setLane n l).therm = s.therm := rfl
@[simp] theorem State.setLane_safe (n : Nat) (l : Lane) : (s.setLane n l).safe = s.safe := rfl
@[simp] theorem State.setLane_duplex (n : Nat) (l : Lane) : (s.setLane n l).duplex = s.duplex := rfl
@[simp] theorem State.setLane_evt (n : Nat) (l : Lane) : (s.setLane n l).evt = s.evt := rfl
@[simp] theorem State.setLane_host (n : Nat) (l : Lane) : (s.setLane n l).host = s.host := rfl
@[simp] theorem State.setLane_log (n : Nat) (l : Lane) : (s.setLane n l).log = s.log := rfl
@[simp] theorem State.setLane_prog (n : Nat) (l : Lane) : (s.setLane n l).prog = s.prog := rfl
@[simp] theorem State.setLane_cans (n : Nat) (l : Lane) : (s.setLane n l).cans = s.cans := rfl
@[simp] theorem State.setLane_alley (n : Nat) (l : Lane) : (s.setLane n l).alley = s.alley := rfl
@[simp] theorem State.setLane_pwr (n : Nat) (l : Lane) : (s.setLane n l).pwr = s.pwr := rfl
@[simp] theorem State.setLane_pairOn (n : Nat) (l : Lane) : (s.setLane n l).pairOn = s.pairOn := rfl
@[simp] theorem State.setLane_hostUp (n : Nat) (l : Lane) : (s.setLane n l).hostUp = s.hostUp := rfl
@[simp] theorem State.setLane_stringUp (n : Nat) (l : Lane) : (s.setLane n l).stringUp = s.stringUp := rfl
@[simp] theorem State.setLane_sent (n : Nat) (l : Lane) : (s.setLane n l).sent = s.sent := rfl
@[simp] theorem State.setLane_free (n : Nat) (l : Lane) : (s.setLane n l).free = s.free := rfl
@[simp] theorem State.setLane_pending (n : Nat) (l : Lane) : (s.setLane n l).pending = s.pending := rfl

@[simp] theorem State.send_objs (l : Nat) (b : List Byte) : (s.send l b).objs = s.objs := rfl
@[simp] theorem State.send_doms (l : Nat) (b : List Byte) : (s.send l b).doms = s.doms := rfl
@[simp] theorem State.send_clk (l : Nat) (b : List Byte) : (s.send l b).clk = s.clk := rfl
@[simp] theorem State.send_frame (l : Nat) (b : List Byte) : (s.send l b).frame = s.frame := rfl
@[simp] theorem State.send_lanes (l : Nat) (b : List Byte) : (s.send l b).lanes = s.lanes := rfl
@[simp] theorem State.send_rings (l : Nat) (b : List Byte) : (s.send l b).rings = s.rings := rfl
@[simp] theorem State.send_cells (l : Nat) (b : List Byte) : (s.send l b).cells = s.cells := rfl
@[simp] theorem State.send_av (l : Nat) (b : List Byte) : (s.send l b).av = s.av := rfl
@[simp] theorem State.send_slips (l : Nat) (b : List Byte) : (s.send l b).slips = s.slips := rfl
@[simp] theorem State.send_valves (l : Nat) (b : List Byte) : (s.send l b).valves = s.valves := rfl
@[simp] theorem State.send_therm (l : Nat) (b : List Byte) : (s.send l b).therm = s.therm := rfl
@[simp] theorem State.send_safe (l : Nat) (b : List Byte) : (s.send l b).safe = s.safe := rfl
@[simp] theorem State.send_duplex (l : Nat) (b : List Byte) : (s.send l b).duplex = s.duplex := rfl
@[simp] theorem State.send_evt (l : Nat) (b : List Byte) : (s.send l b).evt = s.evt := rfl
@[simp] theorem State.send_host (l : Nat) (b : List Byte) : (s.send l b).host = s.host := rfl
@[simp] theorem State.send_log (l : Nat) (b : List Byte) : (s.send l b).log = s.log := rfl
@[simp] theorem State.send_prog (l : Nat) (b : List Byte) : (s.send l b).prog = s.prog := rfl
@[simp] theorem State.send_cans (l : Nat) (b : List Byte) : (s.send l b).cans = s.cans := rfl
@[simp] theorem State.send_alley (l : Nat) (b : List Byte) : (s.send l b).alley = s.alley := rfl
@[simp] theorem State.send_pwr (l : Nat) (b : List Byte) : (s.send l b).pwr = s.pwr := rfl
@[simp] theorem State.send_pairOn (l : Nat) (b : List Byte) : (s.send l b).pairOn = s.pairOn := rfl
@[simp] theorem State.send_hostUp (l : Nat) (b : List Byte) : (s.send l b).hostUp = s.hostUp := rfl
@[simp] theorem State.send_stringUp (l : Nat) (b : List Byte) : (s.send l b).stringUp = s.stringUp := rfl
@[simp] theorem State.send_free (l : Nat) (b : List Byte) : (s.send l b).free = s.free := rfl
@[simp] theorem State.send_pending (l : Nat) (b : List Byte) : (s.send l b).pending = s.pending := rfl

@[simp] theorem State.mapTherm_objs (f : Therm → Therm) : (s.mapTherm f).objs = s.objs := rfl
@[simp] theorem State.mapTherm_doms (f : Therm → Therm) : (s.mapTherm f).doms = s.doms := rfl
@[simp] theorem State.mapTherm_clk (f : Therm → Therm) : (s.mapTherm f).clk = s.clk := rfl
@[simp] theorem State.mapTherm_frame (f : Therm → Therm) : (s.mapTherm f).frame = s.frame := rfl
@[simp] theorem State.mapTherm_lanes (f : Therm → Therm) : (s.mapTherm f).lanes = s.lanes := rfl
@[simp] theorem State.mapTherm_rings (f : Therm → Therm) : (s.mapTherm f).rings = s.rings := rfl
@[simp] theorem State.mapTherm_cells (f : Therm → Therm) : (s.mapTherm f).cells = s.cells := rfl
@[simp] theorem State.mapTherm_av (f : Therm → Therm) : (s.mapTherm f).av = s.av := rfl
@[simp] theorem State.mapTherm_slips (f : Therm → Therm) : (s.mapTherm f).slips = s.slips := rfl
@[simp] theorem State.mapTherm_valves (f : Therm → Therm) : (s.mapTherm f).valves = s.valves := rfl
@[simp] theorem State.mapTherm_safe (f : Therm → Therm) : (s.mapTherm f).safe = s.safe := rfl
@[simp] theorem State.mapTherm_duplex (f : Therm → Therm) : (s.mapTherm f).duplex = s.duplex := rfl
@[simp] theorem State.mapTherm_evt (f : Therm → Therm) : (s.mapTherm f).evt = s.evt := rfl
@[simp] theorem State.mapTherm_host (f : Therm → Therm) : (s.mapTherm f).host = s.host := rfl
@[simp] theorem State.mapTherm_log (f : Therm → Therm) : (s.mapTherm f).log = s.log := rfl
@[simp] theorem State.mapTherm_prog (f : Therm → Therm) : (s.mapTherm f).prog = s.prog := rfl
@[simp] theorem State.mapTherm_cans (f : Therm → Therm) : (s.mapTherm f).cans = s.cans := rfl
@[simp] theorem State.mapTherm_alley (f : Therm → Therm) : (s.mapTherm f).alley = s.alley := rfl
@[simp] theorem State.mapTherm_pwr (f : Therm → Therm) : (s.mapTherm f).pwr = s.pwr := rfl
@[simp] theorem State.mapTherm_pairOn (f : Therm → Therm) : (s.mapTherm f).pairOn = s.pairOn := rfl
@[simp] theorem State.mapTherm_hostUp (f : Therm → Therm) : (s.mapTherm f).hostUp = s.hostUp := rfl
@[simp] theorem State.mapTherm_stringUp (f : Therm → Therm) : (s.mapTherm f).stringUp = s.stringUp := rfl
@[simp] theorem State.mapTherm_sent (f : Therm → Therm) : (s.mapTherm f).sent = s.sent := rfl
@[simp] theorem State.mapTherm_free (f : Therm → Therm) : (s.mapTherm f).free = s.free := rfl
@[simp] theorem State.mapTherm_pending (f : Therm → Therm) : (s.mapTherm f).pending = s.pending := rfl

@[simp] theorem State.mapProg_objs (f : Prog → Prog) : (s.mapProg f).objs = s.objs := rfl
@[simp] theorem State.mapProg_doms (f : Prog → Prog) : (s.mapProg f).doms = s.doms := rfl
@[simp] theorem State.mapProg_clk (f : Prog → Prog) : (s.mapProg f).clk = s.clk := rfl
@[simp] theorem State.mapProg_frame (f : Prog → Prog) : (s.mapProg f).frame = s.frame := rfl
@[simp] theorem State.mapProg_lanes (f : Prog → Prog) : (s.mapProg f).lanes = s.lanes := rfl
@[simp] theorem State.mapProg_rings (f : Prog → Prog) : (s.mapProg f).rings = s.rings := rfl
@[simp] theorem State.mapProg_cells (f : Prog → Prog) : (s.mapProg f).cells = s.cells := rfl
@[simp] theorem State.mapProg_av (f : Prog → Prog) : (s.mapProg f).av = s.av := rfl
@[simp] theorem State.mapProg_slips (f : Prog → Prog) : (s.mapProg f).slips = s.slips := rfl
@[simp] theorem State.mapProg_valves (f : Prog → Prog) : (s.mapProg f).valves = s.valves := rfl
@[simp] theorem State.mapProg_therm (f : Prog → Prog) : (s.mapProg f).therm = s.therm := rfl
@[simp] theorem State.mapProg_safe (f : Prog → Prog) : (s.mapProg f).safe = s.safe := rfl
@[simp] theorem State.mapProg_duplex (f : Prog → Prog) : (s.mapProg f).duplex = s.duplex := rfl
@[simp] theorem State.mapProg_evt (f : Prog → Prog) : (s.mapProg f).evt = s.evt := rfl
@[simp] theorem State.mapProg_host (f : Prog → Prog) : (s.mapProg f).host = s.host := rfl
@[simp] theorem State.mapProg_log (f : Prog → Prog) : (s.mapProg f).log = s.log := rfl
@[simp] theorem State.mapProg_cans (f : Prog → Prog) : (s.mapProg f).cans = s.cans := rfl
@[simp] theorem State.mapProg_alley (f : Prog → Prog) : (s.mapProg f).alley = s.alley := rfl
@[simp] theorem State.mapProg_pwr (f : Prog → Prog) : (s.mapProg f).pwr = s.pwr := rfl
@[simp] theorem State.mapProg_pairOn (f : Prog → Prog) : (s.mapProg f).pairOn = s.pairOn := rfl
@[simp] theorem State.mapProg_hostUp (f : Prog → Prog) : (s.mapProg f).hostUp = s.hostUp := rfl
@[simp] theorem State.mapProg_stringUp (f : Prog → Prog) : (s.mapProg f).stringUp = s.stringUp := rfl
@[simp] theorem State.mapProg_sent (f : Prog → Prog) : (s.mapProg f).sent = s.sent := rfl
@[simp] theorem State.mapProg_free (f : Prog → Prog) : (s.mapProg f).free = s.free := rfl
@[simp] theorem State.mapProg_pending (f : Prog → Prog) : (s.mapProg f).pending = s.pending := rfl

@[simp] theorem State.mapDup_objs (f : Duplex → Duplex) : (s.mapDup f).objs = s.objs := rfl
@[simp] theorem State.mapDup_doms (f : Duplex → Duplex) : (s.mapDup f).doms = s.doms := rfl
@[simp] theorem State.mapDup_clk (f : Duplex → Duplex) : (s.mapDup f).clk = s.clk := rfl
@[simp] theorem State.mapDup_frame (f : Duplex → Duplex) : (s.mapDup f).frame = s.frame := rfl
@[simp] theorem State.mapDup_lanes (f : Duplex → Duplex) : (s.mapDup f).lanes = s.lanes := rfl
@[simp] theorem State.mapDup_rings (f : Duplex → Duplex) : (s.mapDup f).rings = s.rings := rfl
@[simp] theorem State.mapDup_cells (f : Duplex → Duplex) : (s.mapDup f).cells = s.cells := rfl
@[simp] theorem State.mapDup_av (f : Duplex → Duplex) : (s.mapDup f).av = s.av := rfl
@[simp] theorem State.mapDup_slips (f : Duplex → Duplex) : (s.mapDup f).slips = s.slips := rfl
@[simp] theorem State.mapDup_valves (f : Duplex → Duplex) : (s.mapDup f).valves = s.valves := rfl
@[simp] theorem State.mapDup_therm (f : Duplex → Duplex) : (s.mapDup f).therm = s.therm := rfl
@[simp] theorem State.mapDup_safe (f : Duplex → Duplex) : (s.mapDup f).safe = s.safe := rfl
@[simp] theorem State.mapDup_evt (f : Duplex → Duplex) : (s.mapDup f).evt = s.evt := rfl
@[simp] theorem State.mapDup_host (f : Duplex → Duplex) : (s.mapDup f).host = s.host := rfl
@[simp] theorem State.mapDup_log (f : Duplex → Duplex) : (s.mapDup f).log = s.log := rfl
@[simp] theorem State.mapDup_prog (f : Duplex → Duplex) : (s.mapDup f).prog = s.prog := rfl
@[simp] theorem State.mapDup_cans (f : Duplex → Duplex) : (s.mapDup f).cans = s.cans := rfl
@[simp] theorem State.mapDup_alley (f : Duplex → Duplex) : (s.mapDup f).alley = s.alley := rfl
@[simp] theorem State.mapDup_pwr (f : Duplex → Duplex) : (s.mapDup f).pwr = s.pwr := rfl
@[simp] theorem State.mapDup_pairOn (f : Duplex → Duplex) : (s.mapDup f).pairOn = s.pairOn := rfl
@[simp] theorem State.mapDup_hostUp (f : Duplex → Duplex) : (s.mapDup f).hostUp = s.hostUp := rfl
@[simp] theorem State.mapDup_stringUp (f : Duplex → Duplex) : (s.mapDup f).stringUp = s.stringUp := rfl
@[simp] theorem State.mapDup_sent (f : Duplex → Duplex) : (s.mapDup f).sent = s.sent := rfl
@[simp] theorem State.mapDup_free (f : Duplex → Duplex) : (s.mapDup f).free = s.free := rfl
@[simp] theorem State.mapDup_pending (f : Duplex → Duplex) : (s.mapDup f).pending = s.pending := rfl

@[simp] theorem State.mapCon_objs (f : Contact → Contact) : (s.mapCon f).objs = s.objs := rfl
@[simp] theorem State.mapCon_doms (f : Contact → Contact) : (s.mapCon f).doms = s.doms := rfl
@[simp] theorem State.mapCon_clk (f : Contact → Contact) : (s.mapCon f).clk = s.clk := rfl
@[simp] theorem State.mapCon_frame (f : Contact → Contact) : (s.mapCon f).frame = s.frame := rfl
@[simp] theorem State.mapCon_lanes (f : Contact → Contact) : (s.mapCon f).lanes = s.lanes := rfl
@[simp] theorem State.mapCon_rings (f : Contact → Contact) : (s.mapCon f).rings = s.rings := rfl
@[simp] theorem State.mapCon_cells (f : Contact → Contact) : (s.mapCon f).cells = s.cells := rfl
@[simp] theorem State.mapCon_av (f : Contact → Contact) : (s.mapCon f).av = s.av := rfl
@[simp] theorem State.mapCon_slips (f : Contact → Contact) : (s.mapCon f).slips = s.slips := rfl
@[simp] theorem State.mapCon_valves (f : Contact → Contact) : (s.mapCon f).valves = s.valves := rfl
@[simp] theorem State.mapCon_therm (f : Contact → Contact) : (s.mapCon f).therm = s.therm := rfl
@[simp] theorem State.mapCon_duplex (f : Contact → Contact) : (s.mapCon f).duplex = s.duplex := rfl
@[simp] theorem State.mapCon_evt (f : Contact → Contact) : (s.mapCon f).evt = s.evt := rfl
@[simp] theorem State.mapCon_host (f : Contact → Contact) : (s.mapCon f).host = s.host := rfl
@[simp] theorem State.mapCon_log (f : Contact → Contact) : (s.mapCon f).log = s.log := rfl
@[simp] theorem State.mapCon_prog (f : Contact → Contact) : (s.mapCon f).prog = s.prog := rfl
@[simp] theorem State.mapCon_cans (f : Contact → Contact) : (s.mapCon f).cans = s.cans := rfl
@[simp] theorem State.mapCon_alley (f : Contact → Contact) : (s.mapCon f).alley = s.alley := rfl
@[simp] theorem State.mapCon_pwr (f : Contact → Contact) : (s.mapCon f).pwr = s.pwr := rfl
@[simp] theorem State.mapCon_pairOn (f : Contact → Contact) : (s.mapCon f).pairOn = s.pairOn := rfl
@[simp] theorem State.mapCon_hostUp (f : Contact → Contact) : (s.mapCon f).hostUp = s.hostUp := rfl
@[simp] theorem State.mapCon_stringUp (f : Contact → Contact) : (s.mapCon f).stringUp = s.stringUp := rfl
@[simp] theorem State.mapCon_sent (f : Contact → Contact) : (s.mapCon f).sent = s.sent := rfl
@[simp] theorem State.mapCon_free (f : Contact → Contact) : (s.mapCon f).free = s.free := rfl
@[simp] theorem State.mapCon_pending (f : Contact → Contact) : (s.mapCon f).pending = s.pending := rfl

@[simp] theorem State.mapBol_objs (f : Bollard → Bollard) : (s.mapBol f).objs = s.objs := rfl
@[simp] theorem State.mapBol_doms (f : Bollard → Bollard) : (s.mapBol f).doms = s.doms := rfl
@[simp] theorem State.mapBol_clk (f : Bollard → Bollard) : (s.mapBol f).clk = s.clk := rfl
@[simp] theorem State.mapBol_frame (f : Bollard → Bollard) : (s.mapBol f).frame = s.frame := rfl
@[simp] theorem State.mapBol_lanes (f : Bollard → Bollard) : (s.mapBol f).lanes = s.lanes := rfl
@[simp] theorem State.mapBol_rings (f : Bollard → Bollard) : (s.mapBol f).rings = s.rings := rfl
@[simp] theorem State.mapBol_cells (f : Bollard → Bollard) : (s.mapBol f).cells = s.cells := rfl
@[simp] theorem State.mapBol_av (f : Bollard → Bollard) : (s.mapBol f).av = s.av := rfl
@[simp] theorem State.mapBol_slips (f : Bollard → Bollard) : (s.mapBol f).slips = s.slips := rfl
@[simp] theorem State.mapBol_valves (f : Bollard → Bollard) : (s.mapBol f).valves = s.valves := rfl
@[simp] theorem State.mapBol_therm (f : Bollard → Bollard) : (s.mapBol f).therm = s.therm := rfl
@[simp] theorem State.mapBol_duplex (f : Bollard → Bollard) : (s.mapBol f).duplex = s.duplex := rfl
@[simp] theorem State.mapBol_evt (f : Bollard → Bollard) : (s.mapBol f).evt = s.evt := rfl
@[simp] theorem State.mapBol_host (f : Bollard → Bollard) : (s.mapBol f).host = s.host := rfl
@[simp] theorem State.mapBol_log (f : Bollard → Bollard) : (s.mapBol f).log = s.log := rfl
@[simp] theorem State.mapBol_prog (f : Bollard → Bollard) : (s.mapBol f).prog = s.prog := rfl
@[simp] theorem State.mapBol_cans (f : Bollard → Bollard) : (s.mapBol f).cans = s.cans := rfl
@[simp] theorem State.mapBol_alley (f : Bollard → Bollard) : (s.mapBol f).alley = s.alley := rfl
@[simp] theorem State.mapBol_pwr (f : Bollard → Bollard) : (s.mapBol f).pwr = s.pwr := rfl
@[simp] theorem State.mapBol_pairOn (f : Bollard → Bollard) : (s.mapBol f).pairOn = s.pairOn := rfl
@[simp] theorem State.mapBol_hostUp (f : Bollard → Bollard) : (s.mapBol f).hostUp = s.hostUp := rfl
@[simp] theorem State.mapBol_stringUp (f : Bollard → Bollard) : (s.mapBol f).stringUp = s.stringUp := rfl
@[simp] theorem State.mapBol_sent (f : Bollard → Bollard) : (s.mapBol f).sent = s.sent := rfl
@[simp] theorem State.mapBol_free (f : Bollard → Bollard) : (s.mapBol f).free = s.free := rfl
@[simp] theorem State.mapBol_pending (f : Bollard → Bollard) : (s.mapBol f).pending = s.pending := rfl

@[simp] theorem State.mapGuard_objs (f : Guard → Guard) : (s.mapGuard f).objs = s.objs := rfl
@[simp] theorem State.mapGuard_doms (f : Guard → Guard) : (s.mapGuard f).doms = s.doms := rfl
@[simp] theorem State.mapGuard_clk (f : Guard → Guard) : (s.mapGuard f).clk = s.clk := rfl
@[simp] theorem State.mapGuard_frame (f : Guard → Guard) : (s.mapGuard f).frame = s.frame := rfl
@[simp] theorem State.mapGuard_lanes (f : Guard → Guard) : (s.mapGuard f).lanes = s.lanes := rfl
@[simp] theorem State.mapGuard_rings (f : Guard → Guard) : (s.mapGuard f).rings = s.rings := rfl
@[simp] theorem State.mapGuard_cells (f : Guard → Guard) : (s.mapGuard f).cells = s.cells := rfl
@[simp] theorem State.mapGuard_av (f : Guard → Guard) : (s.mapGuard f).av = s.av := rfl
@[simp] theorem State.mapGuard_slips (f : Guard → Guard) : (s.mapGuard f).slips = s.slips := rfl
@[simp] theorem State.mapGuard_valves (f : Guard → Guard) : (s.mapGuard f).valves = s.valves := rfl
@[simp] theorem State.mapGuard_therm (f : Guard → Guard) : (s.mapGuard f).therm = s.therm := rfl
@[simp] theorem State.mapGuard_duplex (f : Guard → Guard) : (s.mapGuard f).duplex = s.duplex := rfl
@[simp] theorem State.mapGuard_evt (f : Guard → Guard) : (s.mapGuard f).evt = s.evt := rfl
@[simp] theorem State.mapGuard_host (f : Guard → Guard) : (s.mapGuard f).host = s.host := rfl
@[simp] theorem State.mapGuard_log (f : Guard → Guard) : (s.mapGuard f).log = s.log := rfl
@[simp] theorem State.mapGuard_prog (f : Guard → Guard) : (s.mapGuard f).prog = s.prog := rfl
@[simp] theorem State.mapGuard_cans (f : Guard → Guard) : (s.mapGuard f).cans = s.cans := rfl
@[simp] theorem State.mapGuard_alley (f : Guard → Guard) : (s.mapGuard f).alley = s.alley := rfl
@[simp] theorem State.mapGuard_pwr (f : Guard → Guard) : (s.mapGuard f).pwr = s.pwr := rfl
@[simp] theorem State.mapGuard_pairOn (f : Guard → Guard) : (s.mapGuard f).pairOn = s.pairOn := rfl
@[simp] theorem State.mapGuard_hostUp (f : Guard → Guard) : (s.mapGuard f).hostUp = s.hostUp := rfl
@[simp] theorem State.mapGuard_stringUp (f : Guard → Guard) : (s.mapGuard f).stringUp = s.stringUp := rfl
@[simp] theorem State.mapGuard_sent (f : Guard → Guard) : (s.mapGuard f).sent = s.sent := rfl
@[simp] theorem State.mapGuard_free (f : Guard → Guard) : (s.mapGuard f).free = s.free := rfl
@[simp] theorem State.mapGuard_pending (f : Guard → Guard) : (s.mapGuard f).pending = s.pending := rfl

@[simp] theorem State.setComp_objs (k : Nat) (c : Comp) : (s.setComp k c).objs = s.objs := rfl
@[simp] theorem State.setComp_doms (k : Nat) (c : Comp) : (s.setComp k c).doms = s.doms := rfl
@[simp] theorem State.setComp_frame (k : Nat) (c : Comp) : (s.setComp k c).frame = s.frame := rfl
@[simp] theorem State.setComp_lanes (k : Nat) (c : Comp) : (s.setComp k c).lanes = s.lanes := rfl
@[simp] theorem State.setComp_rings (k : Nat) (c : Comp) : (s.setComp k c).rings = s.rings := rfl
@[simp] theorem State.setComp_cells (k : Nat) (c : Comp) : (s.setComp k c).cells = s.cells := rfl
@[simp] theorem State.setComp_av (k : Nat) (c : Comp) : (s.setComp k c).av = s.av := rfl
@[simp] theorem State.setComp_slips (k : Nat) (c : Comp) : (s.setComp k c).slips = s.slips := rfl
@[simp] theorem State.setComp_valves (k : Nat) (c : Comp) : (s.setComp k c).valves = s.valves := rfl
@[simp] theorem State.setComp_therm (k : Nat) (c : Comp) : (s.setComp k c).therm = s.therm := rfl
@[simp] theorem State.setComp_safe (k : Nat) (c : Comp) : (s.setComp k c).safe = s.safe := rfl
@[simp] theorem State.setComp_duplex (k : Nat) (c : Comp) : (s.setComp k c).duplex = s.duplex := rfl
@[simp] theorem State.setComp_evt (k : Nat) (c : Comp) : (s.setComp k c).evt = s.evt := rfl
@[simp] theorem State.setComp_host (k : Nat) (c : Comp) : (s.setComp k c).host = s.host := rfl
@[simp] theorem State.setComp_log (k : Nat) (c : Comp) : (s.setComp k c).log = s.log := rfl
@[simp] theorem State.setComp_prog (k : Nat) (c : Comp) : (s.setComp k c).prog = s.prog := rfl
@[simp] theorem State.setComp_cans (k : Nat) (c : Comp) : (s.setComp k c).cans = s.cans := rfl
@[simp] theorem State.setComp_alley (k : Nat) (c : Comp) : (s.setComp k c).alley = s.alley := rfl
@[simp] theorem State.setComp_pwr (k : Nat) (c : Comp) : (s.setComp k c).pwr = s.pwr := rfl
@[simp] theorem State.setComp_pairOn (k : Nat) (c : Comp) : (s.setComp k c).pairOn = s.pairOn := rfl
@[simp] theorem State.setComp_hostUp (k : Nat) (c : Comp) : (s.setComp k c).hostUp = s.hostUp := rfl
@[simp] theorem State.setComp_stringUp (k : Nat) (c : Comp) : (s.setComp k c).stringUp = s.stringUp := rfl
@[simp] theorem State.setComp_sent (k : Nat) (c : Comp) : (s.setComp k c).sent = s.sent := rfl
@[simp] theorem State.setComp_free (k : Nat) (c : Comp) : (s.setComp k c).free = s.free := rfl
@[simp] theorem State.setComp_pending (k : Nat) (c : Comp) : (s.setComp k c).pending = s.pending := rfl

@[simp] theorem State.setCan_objs (b : Nat) (x : CanSt) : (s.setCan b x).objs = s.objs := rfl
@[simp] theorem State.setCan_doms (b : Nat) (x : CanSt) : (s.setCan b x).doms = s.doms := rfl
@[simp] theorem State.setCan_clk (b : Nat) (x : CanSt) : (s.setCan b x).clk = s.clk := rfl
@[simp] theorem State.setCan_frame (b : Nat) (x : CanSt) : (s.setCan b x).frame = s.frame := rfl
@[simp] theorem State.setCan_lanes (b : Nat) (x : CanSt) : (s.setCan b x).lanes = s.lanes := rfl
@[simp] theorem State.setCan_rings (b : Nat) (x : CanSt) : (s.setCan b x).rings = s.rings := rfl
@[simp] theorem State.setCan_cells (b : Nat) (x : CanSt) : (s.setCan b x).cells = s.cells := rfl
@[simp] theorem State.setCan_av (b : Nat) (x : CanSt) : (s.setCan b x).av = s.av := rfl
@[simp] theorem State.setCan_slips (b : Nat) (x : CanSt) : (s.setCan b x).slips = s.slips := rfl
@[simp] theorem State.setCan_valves (b : Nat) (x : CanSt) : (s.setCan b x).valves = s.valves := rfl
@[simp] theorem State.setCan_therm (b : Nat) (x : CanSt) : (s.setCan b x).therm = s.therm := rfl
@[simp] theorem State.setCan_safe (b : Nat) (x : CanSt) : (s.setCan b x).safe = s.safe := rfl
@[simp] theorem State.setCan_duplex (b : Nat) (x : CanSt) : (s.setCan b x).duplex = s.duplex := rfl
@[simp] theorem State.setCan_evt (b : Nat) (x : CanSt) : (s.setCan b x).evt = s.evt := rfl
@[simp] theorem State.setCan_host (b : Nat) (x : CanSt) : (s.setCan b x).host = s.host := rfl
@[simp] theorem State.setCan_log (b : Nat) (x : CanSt) : (s.setCan b x).log = s.log := rfl
@[simp] theorem State.setCan_prog (b : Nat) (x : CanSt) : (s.setCan b x).prog = s.prog := rfl
@[simp] theorem State.setCan_alley (b : Nat) (x : CanSt) : (s.setCan b x).alley = s.alley := rfl
@[simp] theorem State.setCan_pwr (b : Nat) (x : CanSt) : (s.setCan b x).pwr = s.pwr := rfl
@[simp] theorem State.setCan_pairOn (b : Nat) (x : CanSt) : (s.setCan b x).pairOn = s.pairOn := rfl
@[simp] theorem State.setCan_hostUp (b : Nat) (x : CanSt) : (s.setCan b x).hostUp = s.hostUp := rfl
@[simp] theorem State.setCan_stringUp (b : Nat) (x : CanSt) : (s.setCan b x).stringUp = s.stringUp := rfl
@[simp] theorem State.setCan_sent (b : Nat) (x : CanSt) : (s.setCan b x).sent = s.sent := rfl
@[simp] theorem State.setCan_free (b : Nat) (x : CanSt) : (s.setCan b x).free = s.free := rfl
@[simp] theorem State.setCan_pending (b : Nat) (x : CanSt) : (s.setCan b x).pending = s.pending := rfl

@[simp] theorem State.setSlip_objs (c : Nat) (x : Slip) : (s.setSlip c x).objs = s.objs := rfl
@[simp] theorem State.setSlip_doms (c : Nat) (x : Slip) : (s.setSlip c x).doms = s.doms := rfl
@[simp] theorem State.setSlip_clk (c : Nat) (x : Slip) : (s.setSlip c x).clk = s.clk := rfl
@[simp] theorem State.setSlip_frame (c : Nat) (x : Slip) : (s.setSlip c x).frame = s.frame := rfl
@[simp] theorem State.setSlip_lanes (c : Nat) (x : Slip) : (s.setSlip c x).lanes = s.lanes := rfl
@[simp] theorem State.setSlip_rings (c : Nat) (x : Slip) : (s.setSlip c x).rings = s.rings := rfl
@[simp] theorem State.setSlip_cells (c : Nat) (x : Slip) : (s.setSlip c x).cells = s.cells := rfl
@[simp] theorem State.setSlip_av (c : Nat) (x : Slip) : (s.setSlip c x).av = s.av := rfl
@[simp] theorem State.setSlip_valves (c : Nat) (x : Slip) : (s.setSlip c x).valves = s.valves := rfl
@[simp] theorem State.setSlip_therm (c : Nat) (x : Slip) : (s.setSlip c x).therm = s.therm := rfl
@[simp] theorem State.setSlip_safe (c : Nat) (x : Slip) : (s.setSlip c x).safe = s.safe := rfl
@[simp] theorem State.setSlip_duplex (c : Nat) (x : Slip) : (s.setSlip c x).duplex = s.duplex := rfl
@[simp] theorem State.setSlip_evt (c : Nat) (x : Slip) : (s.setSlip c x).evt = s.evt := rfl
@[simp] theorem State.setSlip_host (c : Nat) (x : Slip) : (s.setSlip c x).host = s.host := rfl
@[simp] theorem State.setSlip_log (c : Nat) (x : Slip) : (s.setSlip c x).log = s.log := rfl
@[simp] theorem State.setSlip_prog (c : Nat) (x : Slip) : (s.setSlip c x).prog = s.prog := rfl
@[simp] theorem State.setSlip_cans (c : Nat) (x : Slip) : (s.setSlip c x).cans = s.cans := rfl
@[simp] theorem State.setSlip_alley (c : Nat) (x : Slip) : (s.setSlip c x).alley = s.alley := rfl
@[simp] theorem State.setSlip_pwr (c : Nat) (x : Slip) : (s.setSlip c x).pwr = s.pwr := rfl
@[simp] theorem State.setSlip_pairOn (c : Nat) (x : Slip) : (s.setSlip c x).pairOn = s.pairOn := rfl
@[simp] theorem State.setSlip_hostUp (c : Nat) (x : Slip) : (s.setSlip c x).hostUp = s.hostUp := rfl
@[simp] theorem State.setSlip_stringUp (c : Nat) (x : Slip) : (s.setSlip c x).stringUp = s.stringUp := rfl
@[simp] theorem State.setSlip_sent (c : Nat) (x : Slip) : (s.setSlip c x).sent = s.sent := rfl
@[simp] theorem State.setSlip_free (c : Nat) (x : Slip) : (s.setSlip c x).free = s.free := rfl
@[simp] theorem State.setSlip_pending (c : Nat) (x : Slip) : (s.setSlip c x).pending = s.pending := rfl

@[simp] theorem State.setValve_objs (v : Nat) (x : Valve) : (s.setValve v x).objs = s.objs := rfl
@[simp] theorem State.setValve_doms (v : Nat) (x : Valve) : (s.setValve v x).doms = s.doms := rfl
@[simp] theorem State.setValve_clk (v : Nat) (x : Valve) : (s.setValve v x).clk = s.clk := rfl
@[simp] theorem State.setValve_frame (v : Nat) (x : Valve) : (s.setValve v x).frame = s.frame := rfl
@[simp] theorem State.setValve_lanes (v : Nat) (x : Valve) : (s.setValve v x).lanes = s.lanes := rfl
@[simp] theorem State.setValve_rings (v : Nat) (x : Valve) : (s.setValve v x).rings = s.rings := rfl
@[simp] theorem State.setValve_cells (v : Nat) (x : Valve) : (s.setValve v x).cells = s.cells := rfl
@[simp] theorem State.setValve_av (v : Nat) (x : Valve) : (s.setValve v x).av = s.av := rfl
@[simp] theorem State.setValve_slips (v : Nat) (x : Valve) : (s.setValve v x).slips = s.slips := rfl
@[simp] theorem State.setValve_therm (v : Nat) (x : Valve) : (s.setValve v x).therm = s.therm := rfl
@[simp] theorem State.setValve_safe (v : Nat) (x : Valve) : (s.setValve v x).safe = s.safe := rfl
@[simp] theorem State.setValve_duplex (v : Nat) (x : Valve) : (s.setValve v x).duplex = s.duplex := rfl
@[simp] theorem State.setValve_evt (v : Nat) (x : Valve) : (s.setValve v x).evt = s.evt := rfl
@[simp] theorem State.setValve_host (v : Nat) (x : Valve) : (s.setValve v x).host = s.host := rfl
@[simp] theorem State.setValve_log (v : Nat) (x : Valve) : (s.setValve v x).log = s.log := rfl
@[simp] theorem State.setValve_prog (v : Nat) (x : Valve) : (s.setValve v x).prog = s.prog := rfl
@[simp] theorem State.setValve_cans (v : Nat) (x : Valve) : (s.setValve v x).cans = s.cans := rfl
@[simp] theorem State.setValve_alley (v : Nat) (x : Valve) : (s.setValve v x).alley = s.alley := rfl
@[simp] theorem State.setValve_pwr (v : Nat) (x : Valve) : (s.setValve v x).pwr = s.pwr := rfl
@[simp] theorem State.setValve_pairOn (v : Nat) (x : Valve) : (s.setValve v x).pairOn = s.pairOn := rfl
@[simp] theorem State.setValve_hostUp (v : Nat) (x : Valve) : (s.setValve v x).hostUp = s.hostUp := rfl
@[simp] theorem State.setValve_stringUp (v : Nat) (x : Valve) : (s.setValve v x).stringUp = s.stringUp := rfl
@[simp] theorem State.setValve_sent (v : Nat) (x : Valve) : (s.setValve v x).sent = s.sent := rfl
@[simp] theorem State.setValve_free (v : Nat) (x : Valve) : (s.setValve v x).free = s.free := rfl
@[simp] theorem State.setValve_pending (v : Nat) (x : Valve) : (s.setValve v x).pending = s.pending := rfl

/-! The updates of one object are all `setObj`. -/

@[simp] theorem State.setF_eq (i k : Nat) (q : Rat) : s.setF i k q = s.setObj i k (f32Word q) := rfl
@[simp] theorem State.setB_eq (i k : Nat) (b : Bool) : s.setB i k b = s.setObj i k (if b then 1 else 0) := rfl
@[simp] theorem State.bump_eq (i k : Nat) : s.bump i k = s.setObj i k (countUp 32 (s.obj i k)) := rfl
@[simp] theorem State.bumpSat_eq (i k : Nat) (top : Int) :
    s.bumpSat i k top = s.setObj i k (if s.obj i k < top then s.obj i k + 1 else top) := rfl
@[simp] theorem State.setObjBit_eq (i k b : Nat) (on : Bool) :
    s.setObjBit i k b on = s.setObj i k (setBit (s.obj i k) b on) := rfl
@[simp] theorem State.setObjs_nil (i : Nat) : s.setObjs i [] = s := rfl
@[simp] theorem State.setObjs_cons (i k : Nat) (v : Int) (r : List (Nat × Int)) :
    s.setObjs i ((k, v) :: r) = (s.setObj i k v).setObjs i r := rfl

/-! What an object, a DOMAIN value and a lane read after a write. -/

/-- An object after a write: the value written at its own key, as before at any other. -/
theorem State.obj_setObj (i k j m : Nat) (v : Int) :
    (s.setObj i k v).obj j m = if objKey j m = objKey i k then v else s.obj j m :=
  storeGet_put objDefault s.objs (objKey i k) (objKey j m) v

@[simp] theorem State.obj_setObj_self (i k : Nat) (v : Int) : (s.setObj i k v).obj i k = v := by simp [State.obj_setObj]

theorem objKey_ne {i k j m : Nat} (hk : k < 65536) (hm : m < 65536) (h : i ≠ j ∨ k ≠ m) : objKey i k ≠ objKey j m := by
  unfold objKey; omega

theorem State.obj_setObj_ne {i k j m : Nat} (v : Int) (hk : k < 65536) (hm : m < 65536) (h : i ≠ j ∨ k ≠ m) :
    (s.setObj i k v).obj j m = s.obj j m := by
  rw [State.obj_setObj, if_neg]; exact fun e => objKey_ne hk hm h e.symm

theorem State.dom_setDom (i k j m : Nat) (b : List Byte) :
    (s.setDom i k b).dom j m = if objKey j m = objKey i k then b else s.dom j m :=
  storeGet_put _ s.doms (objKey i k) (objKey j m) b

theorem State.lane_setLane (n m : Nat) (l : Lane) : (s.setLane n l).lane m = if m = n then l else s.lane m :=
  storeGet_put _ s.lanes n m l

/-! An object is read from the object store alone. -/

@[simp] theorem State.obj_setDom (i k : Nat) (b : List Byte) (j m : Nat) : (s.setDom i k b).obj j m = s.obj j m := rfl
@[simp] theorem State.obj_setLane (n : Nat) (l : Lane) (j m : Nat) : (s.setLane n l).obj j m = s.obj j m := rfl
@[simp] theorem State.obj_send (l : Nat) (b : List Byte) (j m : Nat) : (s.send l b).obj j m = s.obj j m := rfl
@[simp] theorem State.obj_mapTherm (f : Therm → Therm) (j m : Nat) : (s.mapTherm f).obj j m = s.obj j m := rfl
@[simp] theorem State.obj_mapProg (f : Prog → Prog) (j m : Nat) : (s.mapProg f).obj j m = s.obj j m := rfl
@[simp] theorem State.obj_mapDup (f : Duplex → Duplex) (j m : Nat) : (s.mapDup f).obj j m = s.obj j m := rfl
@[simp] theorem State.obj_mapCon (f : Contact → Contact) (j m : Nat) : (s.mapCon f).obj j m = s.obj j m := rfl
@[simp] theorem State.obj_mapBol (f : Bollard → Bollard) (j m : Nat) : (s.mapBol f).obj j m = s.obj j m := rfl
@[simp] theorem State.obj_mapGuard (f : Guard → Guard) (j m : Nat) : (s.mapGuard f).obj j m = s.obj j m := rfl
@[simp] theorem State.obj_setComp (k : Nat) (c : Comp) (j m : Nat) : (s.setComp k c).obj j m = s.obj j m := rfl
@[simp] theorem State.obj_setCan (b : Nat) (x : CanSt) (j m : Nat) : (s.setCan b x).obj j m = s.obj j m := rfl
@[simp] theorem State.obj_setSlip (c : Nat) (x : Slip) (j m : Nat) : (s.setSlip c x).obj j m = s.obj j m := rfl
@[simp] theorem State.obj_setValve (v : Nat) (x : Valve) (j m : Nat) : (s.setValve v x).obj j m = s.obj j m := rfl

@[simp] theorem State.send_sent (l : Nat) (b : List Byte) : (s.send l b).sent = s.sent ++ [⟨l, b⟩] := rfl
@[simp] theorem State.mapTherm_therm (f : Therm → Therm) : (s.mapTherm f).therm = f s.therm := rfl
@[simp] theorem State.mapProg_prog (f : Prog → Prog) : (s.mapProg f).prog = f s.prog := rfl
@[simp] theorem State.mapDup_duplex (f : Duplex → Duplex) : (s.mapDup f).duplex = f s.duplex := rfl
@[simp] theorem State.mapCon_safe (f : Contact → Contact) : (s.mapCon f).safe = { s.safe with con := f s.safe.con } := rfl
@[simp] theorem State.mapBol_safe (f : Bollard → Bollard) : (s.mapBol f).safe = { s.safe with bol := f s.safe.bol } := rfl
@[simp] theorem State.mapGuard_safe (f : Guard → Guard) : (s.mapGuard f).safe = { s.safe with guard := f s.safe.guard } := rfl

/-! A port after it has been stored. -/

theorem State.port_setPort (p r : Nat) (q : PtpPort) (hp : p < 2) (hr : r < 2) :
    (s.setPort p q).port r = if r = p then q else s.port r := by
  have h1 : p = 0 ∨ p = 1 := by omega
  have h2 : r = 0 ∨ r = 1 := by omega
  rcases h1 with rfl | rfl <;> rcases h2 with rfl | rfl <;> rfl

/-- Two states with the same object store read the same. -/
theorem State.obj_congr {s t : State} (h : t.objs = s.objs) (j m : Nat) : t.obj j m = s.obj j m := by rw [State.obj, State.obj, h]

end Sys2Proof.Machine
end

