-- ==== Sys2Proof/Laws/Frames.lean ====
section
/-!
SUPPORT. `Unchanged` as a relation, and what the shared operations leave alone: the lanes, raising an event (R63, R411) and
answering a write (R370).
-/
namespace Sys2Proof.Machine

theorem Unchanged.refl (P : List Part) (f : Nat → Bool) (s : State) : Unchanged P f s s :=
  ⟨fun p _ => by cases p <;> rfl, rfl, fun _ _ _ _ => rfl⟩

theorem Part.same_trans {s t u : State} (p : Part) (h : Part.same s t p) (k : Part.same t u p) : Part.same s u p := by
  cases p <;> exact Eq.trans k h

theorem Unchanged.trans {P : List Part} {f : Nat → Bool} {s t u : State} (h : Unchanged P f s t) (k : Unchanged P f t u) :
    Unchanged P f s u :=
  ⟨fun p hp => Part.same_trans p (h.1 p hp) (k.1 p hp), k.2.1.trans h.2.1, fun i m hi hm => (k.2.2 i m hi hm).trans (h.2.2 i m hi hm)⟩

theorem Unchanged.mono {P Q : List Part} {f g : Nat → Bool} {s t : State} (h : Unchanged P f s t) (hP : ∀ p, p ∈ P → p ∈ Q)
    (hf : ∀ i, f i = true → g i = true) : Unchanged Q g s t :=
  ⟨fun p hp => h.1 p (fun hq => hp (hP p hq)), h.2.1, fun i m hi hm => h.2.2 i m (by
    cases hfi : f i
    · rfl
    · rw [hf i hfi] at hi; cases hi) hm⟩

/-- The object store itself is the same. -/
theorem Unchanged.of_objs {P : List Part} (f : Nat → Bool) {s t : State} (hP : ∀ p, p ∉ P → Part.same s t p) (hq : t.pending = s.pending)
    (ho : t.objs = s.objs) : Unchanged P f s t := ⟨hP, hq, fun i m _ _ => State.obj_congr ho i m⟩

theorem Unchanged.ite {P : List Part} {f : Nat → Bool} {s t u : State} {c : Prop} [Decidable c] (h : Unchanged P f s t)
    (k : Unchanged P f s u) : Unchanged P f s (if c then t else u) := by split <;> assumption

theorem Unchanged.foldl {α : Type} {P : List Part} {f : Nat → Bool} (g : State → α → State) (h : ∀ s x, Unchanged P f s (g s x))
    (l : List α) (s : State) : Unchanged P f s (l.foldl g s) := by
  induction l generalizing s with
  | nil => exact Unchanged.refl P f s
  | cons x l ih => exact (h s x).trans (ih _)

theorem setObj_unchanged (P : List Part) {f : Nat → Bool} (s : State) (i k : Nat) (v : Int) (hf : ∀ j, f j = false → objKey i k / 65536 ≠ j) :
    Unchanged P f s (s.setObj i k v) :=
  ⟨fun p _ => by cases p <;> rfl, rfl, fun j m hj hm => by
    rw [State.obj_setObj, if_neg]
    intro e
    apply hf j hj
    rw [← e]; unfold objKey; omega⟩

theorem setDom_unchanged (f : Nat → Bool) (s : State) (i k : Nat) (b : List Byte) : Unchanged [.doms] f s (s.setDom i k b) :=
  Unchanged.of_objs f (fun p hp => by cases p <;> first | rfl | exact absurd (by decide) hp) rfl rfl

theorem setLane_unchanged (f : Nat → Bool) (s : State) (n : Nat) (l : Lane) : Unchanged [.lanes] f s (s.setLane n l) :=
  Unchanged.of_objs f (fun p hp => by cases p <;> first | rfl | exact absurd (by decide) hp) rfl rfl

theorem send_unchanged (f : Nat → Bool) (s : State) (n : Nat) (b : List Byte) : Unchanged [.sent] f s (s.send n b) :=
  Unchanged.of_objs f (fun p hp => by cases p <;> first | rfl | exact absurd (by decide) hp) rfl rfl

/-! ### Lanes -/

/-- What a lane operation may change. -/
abbrev LaneStep := Unchanged [.lanes] laneCounters

theorem laneCounters_spec (j : Nat) (h : laneCounters j = false) : j ≠ 0x2100 ∧ j ≠ 0x2101 ∧ j ≠ 0x2102 := by
  simp only [laneCounters, Bool.and_eq_false_iff, decide_eq_false_iff_not] at h; omega

theorem laneObj_unchanged (s : State) (i k : Nat) (v : Int) (hi : i = 0x2100 ∨ i = 0x2101 ∨ i = 0x2102) (hk : k < 65536) :
    LaneStep s (s.setObj i k v) :=
  setObj_unchanged _ s i k v (fun j hj e => by
    have := laneCounters_spec j hj
    unfold objKey at e; omega)

theorem markLane_unchanged (s : State) (n : Nat) (h : n < 65535) : LaneStep s (s.markLane n) := by
  unfold State.markLane
  simp only
  split
  · exact laneObj_unchanged s _ _ _ (.inl rfl) (by omega)
  · exact Unchanged.refl _ _ s

theorem appendLane_unchanged (s : State) (n : Nat) (e : Elem) (h : n < 65535) : LaneStep s (s.appendLane n e) :=
  (setLane_unchanged _ s n _).trans (markLane_unchanged _ n h)

theorem noteDrop_unchanged (s : State) (n : Nat) (h : n < 65535) : LaneStep s (s.noteDrop n) :=
  (setLane_unchanged _ s n _).trans (laneObj_unchanged _ _ _ _ (.inr (.inr rfl)) (by omega))

theorem pushEvent0_unchanged (s : State) (e : EventReq) : LaneStep s (pushEvent0 s e) := by
  have drop : LaneStep s ((s.bump 0x2101 38).noteDrop 37) :=
    (laneObj_unchanged s 0x2101 38 _ (.inr (.inl rfl)) (by omega)).trans (noteDrop_unchanged _ 37 (by omega))
  unfold pushEvent0
  split
  · exact drop
  · exact appendLane_unchanged s 37 _ (by omega)

theorem pushEvent_unchanged (s : State) (e : EventReq) : LaneStep s (pushEvent s e) := by
  have one := pushEvent0_unchanged s e
  have more (t : State) (d : EventReq) (h : LaneStep s t) : LaneStep s (pushEvent0 t d) := h.trans (pushEvent0_unchanged t d)
  unfold pushEvent
  simp only
  split
  · split <;> split <;> first | exact more _ _ (more _ _ one) | exact more _ _ one | exact one
  · exact one

/-- Raising an event changes lane 37, its counters, or what the string domain holds for the next start. -/
theorem raise_unchanged (s : State) (code src : Nat) (l : List Fld) : Unchanged [.lanes, .evt] laneCounters s (raise s code src l) := by
  unfold raise
  simp only
  split
  · exact (pushEvent_unchanged s _).mono (by simp) (fun _ h => h)
  · exact Unchanged.of_objs _ (fun p hp => by cases p <;> first | rfl | exact absurd (by decide) hp) rfl rfl

/-- With the host domain running an event only takes its place in lane 37. -/
theorem raise_unchanged_up (s : State) (code src : Nat) (l : List Fld) (h : s.hostUp = true) : LaneStep s (raise s code src l) := by
  unfold raise; simp only [h, if_true]; exact pushEvent_unchanged s _

theorem dropOn_unchanged (s : State) (n : Nat) (h : n < 65535) : Unchanged [.lanes, .evt] laneCounters s (dropOn s n) := by
  have d : Unchanged [.lanes, .evt] laneCounters s (s.noteDrop n) := (noteDrop_unchanged s n h).mono (by simp) (fun _ h => h)
  unfold dropOn
  simp only
  split
  · exact d.trans (raise_unchanged _ _ _ _)
  · exact d

/-- A producer's push changes the lane, its counters and what an event changes (R63). -/
theorem lanePushIn_unchanged (s : State) (n room : Nat) (e : Elem) (h : n < 65535) :
    Unchanged [.lanes, .evt] laneCounters s (lanePushIn s n room e) := by
  have up {a b : State} (k : LaneStep a b) : Unchanged [.lanes, .evt] laneCounters a b := k.mono (by simp) (fun _ h => h)
  have b : Unchanged [.lanes, .evt] laneCounters s (s.bump 0x2101 (n + 1)) :=
    up (laneObj_unchanged s _ _ _ (.inr (.inl rfl)) (by omega))
  have set (t : State) (l : Lane) : Unchanged [.lanes, .evt] laneCounters t (t.setLane n l) := up (setLane_unchanged _ t n l)
  unfold lanePushIn
  simp only
  split
  · exact up (appendLane_unchanged s n e h)
  · split
    · exact b.trans (set _ _)
    · exact b.trans (set _ _)
    · exact (b.trans (set _ _)).trans (dropOn_unchanged _ n h)
    · exact b.trans (dropOn_unchanged _ n h)
    · exact (b.trans (dropOn_unchanged _ n h)).trans (raise_unchanged _ _ _ _)

theorem lanePush_unchanged (s : State) (n : Nat) (e : Elem) (h : n < 65535) :
    Unchanged [.lanes, .evt] laneCounters s (lanePush s n e) := lanePushIn_unchanged s n _ e h

theorem releasePush_unchanged (s : State) (n : Nat) (e : Elem) (h : n < 65535) :
    Unchanged [.lanes, .evt] laneCounters s (releasePush s n e) := lanePushIn_unchanged s n _ e h

theorem passLane_unchanged (P : List Part) (s : State) (n : Nat) (h : n < 65535) : Unchanged P laneCounters s (passLane s n) := by
  unfold passLane
  split
  · exact setObj_unchanged P s _ _ _ (fun j hj e => by
      have := laneCounters_spec j hj
      unfold objKey at e; omega)
  · exact Unchanged.refl _ _ s

theorem laneTake_unchanged (s : State) (n : Nat) : LaneStep s (laneTake s n).2 := by
  unfold laneTake
  split
  · exact Unchanged.refl _ _ s
  · exact setLane_unchanged _ s n _

/-! ### Answers to writes -/

/-- What an answer to a host write may change: the sessions and the mailbox, the frames sent, and the high-water mark of lane 0. -/
abbrev AnswerStep := Unchanged [.host, .sent, .alley] laneCounters

theorem prpSend_unchanged (s : State) (b : List Byte) : AnswerStep s (prpSend s b) :=
  Unchanged.of_objs _ (fun p hp => by cases p <;> first | rfl | exact absurd (by decide) hp) rfl rfl

theorem sendOn_unchanged (s : State) (c : Channel) (m : List Byte) : AnswerStep s (sendOn s c m) := by
  have a : AnswerStep s (if s.obj 0x2100 1 < 1 then s.setObj 0x2100 1 1 else s) :=
    Unchanged.ite ((laneObj_unchanged s 0x2100 1 1 (.inl rfl) (by omega)).mono (Q := [.lanes, .host, .sent, .alley]) (by simp) (fun _ h => h) |> fun h =>
      ⟨fun p _ => by cases p <;> rfl, h.2.1, h.2.2⟩) (Unchanged.refl _ _ s)
  unfold sendOn
  cases c
  · exact a.trans (prpSend_unchanged _ m)
  · exact a.trans ((send_unchanged _ _ _ _).mono (by simp) (fun _ h => h))

theorem setSession_unchanged (s : State) (c : Channel) (x : Session) : AnswerStep s (s.setSession c x) := by
  cases c <;> exact Unchanged.of_objs _ (fun p hp => by cases p <;> first | rfl | exact absurd (by decide) hp) rfl rfl

theorem respond_unchanged (s : State) (c : Channel) (typ seq : Nat) (b : List Byte) : AnswerStep s (respond s c typ seq b) :=
  (setSession_unchanged s c _).trans (sendOn_unchanged _ c _)

theorem originate_unchanged (s : State) (c : Channel) (typ : Nat) (b : List Byte) : AnswerStep s (originate s c typ b) :=
  (setSession_unchanged s c _).trans (sendOn_unchanged _ c _)

theorem hostField_unchanged (s : State) (h : HostSt) : AnswerStep s { s with host := h } :=
  Unchanged.of_objs _ (fun p hp => by cases p <;> first | rfl | exact absurd (by decide) hp) rfl rfl

theorem ackDone_unchanged (s : State) (d : Channel × Nat × Nat) : AnswerStep s (ackDone s d) := by
  unfold ackDone
  simp only
  split
  · exact (hostField_unchanged s _).trans (originate_unchanged _ _ _ _)
  · exact hostField_unchanged s _

theorem flushAnswers_unchanged (s : State) : AnswerStep s (flushAnswers s) := by
  unfold flushAnswers
  simp only
  refine Unchanged.trans ?_ (Unchanged.foldl _ (fun s x => ackDone_unchanged s x) _ _)
  refine Unchanged.trans ?_ (hostField_unchanged _ _)
  refine Unchanged.trans (hostField_unchanged s _) (Unchanged.foldl _ (fun s p => ?_) _ _)
  split
  · exact respond_unchanged s _ _ _ _
  · exact Unchanged.refl _ _ s

theorem answerWrite_unchanged (s : State) (w : WriteReq) (err : Nat) : AnswerStep s (answerWrite s w err) :=
  Unchanged.of_objs _ (fun p hp => by cases p <;> first | rfl | exact absurd (by decide) hp) rfl rfl

/-- Answering a write changes the sessions, the mailbox and the frames sent only. -/
theorem settle_unchanged (s : State) (i sub err : Nat) : AnswerStep s (settle s i sub err) := by
  unfold settle
  split
  · exact ((hostField_unchanged s _).trans (answerWrite_unchanged _ _ _)).trans (flushAnswers_unchanged _)
  · split
    · exact (hostField_unchanged s _).trans (answerWrite_unchanged _ _ _)
    · exact hostField_unchanged s _

/-- An accepted write of a command of its own: what its owner does, then the answer. -/
theorem hostWrite_ok (s : State) (i sub : Nat) (f : State → State) : hostWrite s i sub 0 f = settle (f s) i sub 0 := by
  simp [hostWrite]

/-- A refused one changes nothing but the answer. -/
theorem hostWrite_err (s : State) (i sub : Nat) {err : Nat} (f : State → State) (h : err ≠ 0) :
    hostWrite s i sub err f = settle s i sub err := by simp [hostWrite, h]

/-- A failed record changes the failures counted and, where the event has a slot, the event's lane. -/
theorem commitFailed_unchanged (s : State) (kind addr : Int) :
    Unchanged [.lanes, .evt] (fun j => laneCounters j || j == 0x2080) s (commitFailed s kind addr) :=
  Unchanged.trans (setObj_unchanged _ s 0x2080 4 _ (by
    intro j hj
    have : j ≠ 0x2080 := by intro h; simp [h] at hj
    simpa [objKey] using fun h => this h.symm))
    (Unchanged.mono (raise_unchanged _ _ _ _) (fun _ h => h) (fun j h => by simp [h]))

/-- What an RWS write can do, refused for its value, waiting, accepted and stored, or refused for storage (R293, R426). -/
theorem rwsWrite_err (s : State) (i sub : Nat) {err : Nat} (log f : State → State) (h : err ≠ errOk) :
    rwsWrite s i sub err log f = settle s i sub err := by
  unfold rwsWrite; rw [if_pos h]; exact hostWrite_err s i sub f h

theorem rwsWrite_waits (s : State) (i sub : Nat) (log f : State → State) (h : s.pwr.warning = true) :
    rwsWrite s i sub errOk log f = s := by
  unfold rwsWrite; rw [if_neg (by decide), if_pos h]

theorem rwsWrite_ok (s : State) (i sub : Nat) (log f : State → State) (h : s.pwr.warning = false) (e : entryFails s = false) :
    rwsWrite s i sub errOk log f = settle (f (log (entryTried s))) i sub errOk := by
  unfold rwsWrite; rw [if_neg (by decide), if_neg (by simp [h]), if_neg (by simp [e])]; exact hostWrite_ok (entryTried s) i sub _

theorem rwsWrite_unstored (s : State) (i sub : Nat) (log f : State → State) (h : s.pwr.warning = false) (e : entryFails s = true) :
    rwsWrite s i sub errOk log f = settle (commitFailed (entryTried s) 9 (s.objN 0x6891 1 % 256 : Nat)) i sub errState := by
  unfold rwsWrite; rw [if_neg (by decide), if_neg (by simp [h]), if_pos e]

end Sys2Proof.Machine
end

