-- ==== Sys2Proof/Laws/Events.lean ====
section
/-!
SUPPORT. Raising an event with the host domain running puts its request last in lane 37 (R411), and the frame lemmas of `raise`,
`settle` and `lanePush` field by field.
-/
namespace Sys2Proof.Machine

theorem lane_markLane (s : State) (n m : Nat) : (s.markLane n).lane m = s.lane m := by
  unfold State.markLane
  simp only
  split <;> rfl

theorem lane_appendLane (s : State) (n : Nat) (e : Elem) : (s.appendLane n e).lane n = { s.lane n with elems := (s.lane n).elems ++ [e] } := by
  rw [State.appendLane, lane_markLane, State.lane_setLane, if_pos rfl]

theorem lane_appendLane_ne (s : State) {n m : Nat} (e : Elem) (h : m ≠ n) : (s.appendLane n e).lane m = s.lane m := by
  rw [State.appendLane, lane_markLane, State.lane_setLane, if_neg h]

/-- An event goes to the end of lane 37 where that has a slot for its class (R63, R65, R411). -/
theorem raise_writes (s : State) (code src : Nat) (l : List Fld) (h : s.hostUp = true) : Writes code l s (raise s code src l) := by
  intro room
  simp only [roomFor] at room
  have key : raise s code src l = s.appendLane 37 (.event (mkEvent s code src 0 l)) := by
    have free : eventsFull s (mkEvent s code src 0 l) = false := by
      have hcode : (mkEvent s code src 0 l).code = code := rfl
      simp only [eventsFull, hcode]
      by_cases hc : rateClass code = 0
      · simp only [hc, if_true] at room ⊢
        simp only [decide_eq_false_iff_not]; omega
      · simp only [hc, if_false] at room ⊢
        simp only [decide_eq_false_iff_not]; omega
    simp [raise, h, pushEvent, pushEvent0, free]
  rw [key]
  exact ⟨mkEvent s code src 0 l, by rw [lane_appendLane]; simp, rfl, rfl⟩

end Sys2Proof.Machine
end

