-- ==== Sys2Proof/Laws/Shared.lean ====
section
/-!
SUPPORT. The frame lemmas of `raise`, `lanePush` and `settle`, field by field, for `simp`.
-/
namespace Sys2Proof.Machine

variable (s : State)

theorem laneCounters_false {i : Nat} (h : i < 0x2100 ∨ 0x2102 < i) : laneCounters i = false := by
  simp only [laneCounters, Bool.and_eq_false_iff, decide_eq_false_iff_not]; omega

@[simp] theorem raise_obj (code src : Nat) (l : List Fld) (i k : Nat) (h : i < 0x2100 ∨ 0x2102 < i) (hk : k < 65536) :
    (raise s code src l).obj i k = s.obj i k := (raise_unchanged s code src l).2.2 i k (laneCounters_false h) hk

@[simp] theorem settle_obj (a b e i k : Nat) (h : i < 0x2100 ∨ 0x2102 < i) (hk : k < 65536) :
    (settle s a b e).obj i k = s.obj i k := (settle_unchanged s a b e).2.2 i k (laneCounters_false h) hk

@[simp] theorem lanePush_obj (n : Nat) (e : Elem) (i k : Nat) (hn : n < 65535) (h : i < 0x2100 ∨ 0x2102 < i) (hk : k < 65536) :
    (lanePush s n e).obj i k = s.obj i k := (lanePush_unchanged s n e hn).2.2 i k (laneCounters_false h) hk

@[simp] theorem raise_pending (code src : Nat) (l : List Fld) : (raise s code src l).pending = s.pending :=
  (raise_unchanged s code src l).2.1

@[simp] theorem settle_pending (a b e : Nat) : (settle s a b e).pending = s.pending := (settle_unchanged s a b e).2.1

@[simp] theorem lanePush_pending (n : Nat) (e : Elem) (hn : n < 65535) : (lanePush s n e).pending = s.pending :=
  (lanePush_unchanged s n e hn).2.1


@[simp] theorem raise_doms (code src : Nat) (l : List Fld) : (raise s code src l).doms = s.doms :=
  (raise_unchanged s code src l).1 .doms (by decide)
@[simp] theorem lanePush_doms (n : Nat) (e : Elem) (hn : n < 65535) : (lanePush s n e).doms = s.doms :=
  (lanePush_unchanged s n e hn).1 .doms (by decide)
@[simp] theorem settle_doms (a b e : Nat) : (settle s a b e).doms = s.doms :=
  (settle_unchanged s a b e).1 .doms (by decide)
@[simp] theorem raise_clk (code src : Nat) (l : List Fld) : (raise s code src l).clk = s.clk :=
  (raise_unchanged s code src l).1 .clk (by decide)
@[simp] theorem lanePush_clk (n : Nat) (e : Elem) (hn : n < 65535) : (lanePush s n e).clk = s.clk :=
  (lanePush_unchanged s n e hn).1 .clk (by decide)
@[simp] theorem settle_clk (a b e : Nat) : (settle s a b e).clk = s.clk :=
  (settle_unchanged s a b e).1 .clk (by decide)
@[simp] theorem raise_frame (code src : Nat) (l : List Fld) : (raise s code src l).frame = s.frame :=
  (raise_unchanged s code src l).1 .frame (by decide)
@[simp] theorem lanePush_frame (n : Nat) (e : Elem) (hn : n < 65535) : (lanePush s n e).frame = s.frame :=
  (lanePush_unchanged s n e hn).1 .frame (by decide)
@[simp] theorem settle_frame (a b e : Nat) : (settle s a b e).frame = s.frame :=
  (settle_unchanged s a b e).1 .frame (by decide)
@[simp] theorem settle_lanes (a b e : Nat) : (settle s a b e).lanes = s.lanes :=
  (settle_unchanged s a b e).1 .lanes (by decide)
@[simp] theorem raise_rings (code src : Nat) (l : List Fld) : (raise s code src l).rings = s.rings :=
  (raise_unchanged s code src l).1 .rings (by decide)
@[simp] theorem lanePush_rings (n : Nat) (e : Elem) (hn : n < 65535) : (lanePush s n e).rings = s.rings :=
  (lanePush_unchanged s n e hn).1 .rings (by decide)
@[simp] theorem settle_rings (a b e : Nat) : (settle s a b e).rings = s.rings :=
  (settle_unchanged s a b e).1 .rings (by decide)
@[simp] theorem raise_cells (code src : Nat) (l : List Fld) : (raise s code src l).cells = s.cells :=
  (raise_unchanged s code src l).1 .cells (by decide)
@[simp] theorem lanePush_cells (n : Nat) (e : Elem) (hn : n < 65535) : (lanePush s n e).cells = s.cells :=
  (lanePush_unchanged s n e hn).1 .cells (by decide)
@[simp] theorem settle_cells (a b e : Nat) : (settle s a b e).cells = s.cells :=
  (settle_unchanged s a b e).1 .cells (by decide)
@[simp] theorem raise_av (code src : Nat) (l : List Fld) : (raise s code src l).av = s.av :=
  (raise_unchanged s code src l).1 .av (by decide)
@[simp] theorem lanePush_av (n : Nat) (e : Elem) (hn : n < 65535) : (lanePush s n e).av = s.av :=
  (lanePush_unchanged s n e hn).1 .av (by decide)
@[simp] theorem settle_av (a b e : Nat) : (settle s a b e).av = s.av :=
  (settle_unchanged s a b e).1 .av (by decide)
@[simp] theorem raise_slips (code src : Nat) (l : List Fld) : (raise s code src l).slips = s.slips :=
  (raise_unchanged s code src l).1 .slips (by decide)
@[simp] theorem lanePush_slips (n : Nat) (e : Elem) (hn : n < 65535) : (lanePush s n e).slips = s.slips :=
  (lanePush_unchanged s n e hn).1 .slips (by decide)
@[simp] theorem settle_slips (a b e : Nat) : (settle s a b e).slips = s.slips :=
  (settle_unchanged s a b e).1 .slips (by decide)
@[simp] theorem raise_valves (code src : Nat) (l : List Fld) : (raise s code src l).valves = s.valves :=
  (raise_unchanged s code src l).1 .valves (by decide)
@[simp] theorem lanePush_valves (n : Nat) (e : Elem) (hn : n < 65535) : (lanePush s n e).valves = s.valves :=
  (lanePush_unchanged s n e hn).1 .valves (by decide)
@[simp] theorem settle_valves (a b e : Nat) : (settle s a b e).valves = s.valves :=
  (settle_unchanged s a b e).1 .valves (by decide)
@[simp] theorem raise_therm (code src : Nat) (l : List Fld) : (raise s code src l).therm = s.therm :=
  (raise_unchanged s code src l).1 .therm (by decide)
@[simp] theorem lanePush_therm (n : Nat) (e : Elem) (hn : n < 65535) : (lanePush s n e).therm = s.therm :=
  (lanePush_unchanged s n e hn).1 .therm (by decide)
@[simp] theorem settle_therm (a b e : Nat) : (settle s a b e).therm = s.therm :=
  (settle_unchanged s a b e).1 .therm (by decide)
@[simp] theorem raise_safe (code src : Nat) (l : List Fld) : (raise s code src l).safe = s.safe :=
  (raise_unchanged s code src l).1 .safe (by decide)
@[simp] theorem lanePush_safe (n : Nat) (e : Elem) (hn : n < 65535) : (lanePush s n e).safe = s.safe :=
  (lanePush_unchanged s n e hn).1 .safe (by decide)
@[simp] theorem settle_safe (a b e : Nat) : (settle s a b e).safe = s.safe :=
  (settle_unchanged s a b e).1 .safe (by decide)
@[simp] theorem raise_duplex (code src : Nat) (l : List Fld) : (raise s code src l).duplex = s.duplex :=
  (raise_unchanged s code src l).1 .duplex (by decide)
@[simp] theorem lanePush_duplex (n : Nat) (e : Elem) (hn : n < 65535) : (lanePush s n e).duplex = s.duplex :=
  (lanePush_unchanged s n e hn).1 .duplex (by decide)
@[simp] theorem settle_duplex (a b e : Nat) : (settle s a b e).duplex = s.duplex :=
  (settle_unchanged s a b e).1 .duplex (by decide)
@[simp] theorem settle_evt (a b e : Nat) : (settle s a b e).evt = s.evt :=
  (settle_unchanged s a b e).1 .evt (by decide)
@[simp] theorem raise_host (code src : Nat) (l : List Fld) : (raise s code src l).host = s.host :=
  (raise_unchanged s code src l).1 .host (by decide)
@[simp] theorem lanePush_host (n : Nat) (e : Elem) (hn : n < 65535) : (lanePush s n e).host = s.host :=
  (lanePush_unchanged s n e hn).1 .host (by decide)
@[simp] theorem raise_log (code src : Nat) (l : List Fld) : (raise s code src l).log = s.log :=
  (raise_unchanged s code src l).1 .log (by decide)
@[simp] theorem lanePush_log (n : Nat) (e : Elem) (hn : n < 65535) : (lanePush s n e).log = s.log :=
  (lanePush_unchanged s n e hn).1 .log (by decide)
@[simp] theorem settle_log (a b e : Nat) : (settle s a b e).log = s.log :=
  (settle_unchanged s a b e).1 .log (by decide)
@[simp] theorem raise_prog (code src : Nat) (l : List Fld) : (raise s code src l).prog = s.prog :=
  (raise_unchanged s code src l).1 .prog (by decide)
@[simp] theorem lanePush_prog (n : Nat) (e : Elem) (hn : n < 65535) : (lanePush s n e).prog = s.prog :=
  (lanePush_unchanged s n e hn).1 .prog (by decide)
@[simp] theorem settle_prog (a b e : Nat) : (settle s a b e).prog = s.prog :=
  (settle_unchanged s a b e).1 .prog (by decide)
@[simp] theorem raise_cans (code src : Nat) (l : List Fld) : (raise s code src l).cans = s.cans :=
  (raise_unchanged s code src l).1 .cans (by decide)
@[simp] theorem lanePush_cans (n : Nat) (e : Elem) (hn : n < 65535) : (lanePush s n e).cans = s.cans :=
  (lanePush_unchanged s n e hn).1 .cans (by decide)
@[simp] theorem settle_cans (a b e : Nat) : (settle s a b e).cans = s.cans :=
  (settle_unchanged s a b e).1 .cans (by decide)
@[simp] theorem raise_alley (code src : Nat) (l : List Fld) : (raise s code src l).alley = s.alley :=
  (raise_unchanged s code src l).1 .alley (by decide)
@[simp] theorem lanePush_alley (n : Nat) (e : Elem) (hn : n < 65535) : (lanePush s n e).alley = s.alley :=
  (lanePush_unchanged s n e hn).1 .alley (by decide)
@[simp] theorem raise_pwr (code src : Nat) (l : List Fld) : (raise s code src l).pwr = s.pwr :=
  (raise_unchanged s code src l).1 .pwr (by decide)
@[simp] theorem lanePush_pwr (n : Nat) (e : Elem) (hn : n < 65535) : (lanePush s n e).pwr = s.pwr :=
  (lanePush_unchanged s n e hn).1 .pwr (by decide)
@[simp] theorem settle_pwr (a b e : Nat) : (settle s a b e).pwr = s.pwr :=
  (settle_unchanged s a b e).1 .pwr (by decide)
@[simp] theorem raise_pairOn (code src : Nat) (l : List Fld) : (raise s code src l).pairOn = s.pairOn :=
  (raise_unchanged s code src l).1 .pairOn (by decide)
@[simp] theorem lanePush_pairOn (n : Nat) (e : Elem) (hn : n < 65535) : (lanePush s n e).pairOn = s.pairOn :=
  (lanePush_unchanged s n e hn).1 .pairOn (by decide)
@[simp] theorem settle_pairOn (a b e : Nat) : (settle s a b e).pairOn = s.pairOn :=
  (settle_unchanged s a b e).1 .pairOn (by decide)
@[simp] theorem raise_hostUp (code src : Nat) (l : List Fld) : (raise s code src l).hostUp = s.hostUp :=
  (raise_unchanged s code src l).1 .hostUp (by decide)
@[simp] theorem lanePush_hostUp (n : Nat) (e : Elem) (hn : n < 65535) : (lanePush s n e).hostUp = s.hostUp :=
  (lanePush_unchanged s n e hn).1 .hostUp (by decide)
@[simp] theorem settle_hostUp (a b e : Nat) : (settle s a b e).hostUp = s.hostUp :=
  (settle_unchanged s a b e).1 .hostUp (by decide)
@[simp] theorem raise_stringUp (code src : Nat) (l : List Fld) : (raise s code src l).stringUp = s.stringUp :=
  (raise_unchanged s code src l).1 .stringUp (by decide)
@[simp] theorem lanePush_stringUp (n : Nat) (e : Elem) (hn : n < 65535) : (lanePush s n e).stringUp = s.stringUp :=
  (lanePush_unchanged s n e hn).1 .stringUp (by decide)
@[simp] theorem settle_stringUp (a b e : Nat) : (settle s a b e).stringUp = s.stringUp :=
  (settle_unchanged s a b e).1 .stringUp (by decide)
@[simp] theorem raise_sent (code src : Nat) (l : List Fld) : (raise s code src l).sent = s.sent :=
  (raise_unchanged s code src l).1 .sent (by decide)
@[simp] theorem lanePush_sent (n : Nat) (e : Elem) (hn : n < 65535) : (lanePush s n e).sent = s.sent :=
  (lanePush_unchanged s n e hn).1 .sent (by decide)
@[simp] theorem raise_free (code src : Nat) (l : List Fld) : (raise s code src l).free = s.free :=
  (raise_unchanged s code src l).1 .free (by decide)
@[simp] theorem lanePush_free (n : Nat) (e : Elem) (hn : n < 65535) : (lanePush s n e).free = s.free :=
  (lanePush_unchanged s n e hn).1 .free (by decide)
@[simp] theorem settle_free (a b e : Nat) : (settle s a b e).free = s.free :=
  (settle_unchanged s a b e).1 .free (by decide)

/-- The event recorder is as before where the host domain runs. -/
theorem raise_evt_up (code src : Nat) (l : List Fld) (h : s.hostUp = true) : (raise s code src l).evt = s.evt :=
  (raise_unchanged_up s code src l h).1 .evt (by decide)

/-- Objects outside the lanes' counters read as before. -/
theorem raise_objN (code src : Nat) (l : List Fld) (i k : Nat) (h : i < 0x2100 ∨ 0x2102 < i) (hk : k < 65536) :
    (raise s code src l).objN i k = s.objN i k := by rw [State.objN, State.objN, raise_obj s code src l i k h hk]

end Sys2Proof.Machine
end

