-- ==== Sys2Proof/WellFormed.lean ====
section
/-!
DEFINITION. Which commands are well formed: the bounds on their operands that the types of Syntax.lean do not express. The machine
does not rely on it: a command that is not well formed is carried out too, and a check that the spec names answers it.
Marks (notes/assumptions): DEDUCED 4.
-/
namespace Sys2Proof

/-- A list of bytes of a length between two bounds. -/
def lenIn (lo hi : Nat) (l : List Byte) : Bool := decide (lo ≤ l.length) && decide (l.length ≤ hi)

/-- The tag of a message is 16 bytes (R361). -/
def headOk (h : MsgHead) : Bool := h.tag.length == 16

/-- A write of a run: in region 1 data, 2 retained or 4 output image (R334). -/
def regionOk (w : RegionWrite) : Bool := w.region == 1 || w.region == 2 || w.region == 4

/-- An Alley payload of 0 to 27 bytes (R382). -/
def alleyOk (payload : List Byte) : Bool := lenIn 0 27 payload

/-- A CAN data field of 0 to 64 bytes (R391). -/
def canDataOk (data : List Byte) : Bool := lenIn 0 64 data

/-- Two windows lists of one channel have one length, at least one (R103). -/
def windowsOk (w : ChanWindows) : Bool := w.a.length == w.b.length && decide (1 ≤ w.a.length)

/-- The checks a command must pass to be well formed. -/
def WellFormed : Instr → Bool
  | .frameBoundary => true
  | .syncLaunch _ => true
  | .ringSweep _ => true
  | .ringFrameReceived _ _ _ _ => true
  | .ringAbortReceived _ _ => true
  | .ringTimeout _ _ => true
  | .sweepClose _ => true
  | .ringEnumerate _ _ east west _ => (east ++ west).all (fun u => u.block.length == 24)
  | .ringReenumerateWrite _ => true
  | .ringPortRateChange _ _ => true
  | .ringRateAcknowledge _ => true
  | .ringRateModeWrite _ _ => true
  | .faultSymbolDecoded _ _ _ => true
  | .wakeToneDetected _ _ _ => true
  | .parkActiveFrame => true
  | .internalLinkPacket _ => true
  | .internalLinkLost => true
  | .inputImageAssembly readings _ _ _ => readings.length == 16
  | .fastTaskRelease => true
  | .slowTaskRelease _ => true
  | .backgroundPassStart => true
  | .taskRunEnd _ writes => writes.all regionOk
  | .backgroundLong => true
  | .estimatorFrameWork _ => true
  | .outputSeal => true
  | .mirrorSend => true
  | .writeBatchClose => true
  | .outputRelease => true
  | .guardVerdict _ _ _ _ _ => true
  | .frameOverrun _ _ _ => true
  | .overrunConditionClear => true
  | .clearBudgetCounters => true
  | .laneWaitResume _ => true
  | .alleyMailboxPoll => true
  | .requestedProfileWrite _ => true
  | .guardedRelease => true
  | .ptpSyncReceived _ _ _ _ _ _ => true
  | .ptpAnnounceReceived _ _ => true
  | .pdelayReqReceived _ _ _ _ => true
  | .pdelayRespReceived _ _ _ _ => true
  | .pdelayReqSend _ _ => true
  | .servoTheta => true
  | .syncIntervalTimeout _ => true
  | .holdoverLimitExpiry => true
  | .stepRequestWrite _ => true
  | .servoModeWrite _ => true
  | .ppsInputEdge _ => true
  | .ppsLossTimeout => true
  | .ppsOutputEdge => true
  | .comparatorEdge _ => true
  | .comparatorPulseEnd _ => true
  | .comparatorArm _ => true
  | .comparatorDisarm _ => true
  | .loopSamplePush _ _ _ _ _ => true
  | .frontEndFrameValues iS iH vS vL => windowsOk iS && windowsOk iH && windowsOk vS && windowsOk vL
  | .dividerCalStart _ => true
  | .dividerCalComplete _ => true
  | .acceptProposedTrim _ => true
  | .xcheckWindowClose _ => true
  | .takeInjectionBaseline => true
  | .checkEnableWrite _ => true
  | .openWireCycle => true
  | .openWireTestNow => true
  | .openWireResult _ => true
  | .restWindowSchedule => true
  | .restWindowDecline => true
  | .restWindowDeclineExpiry => true
  | .restWindowEnd => true
  | .ocvTableLoad _ _ => true
  | .stateBlockWrite => true
  | .authResponse _ _ => true
  | .authTimeout _ => true
  | .recordStoreTimer => true
  | .alignDispatch => true
  | .rcFit => true
  | .nvCommit _ => true
  | .recordCheckpoint => true
  | .recordResetWrite _ => true
  | .balanceTargets => true
  | .loopSample _ => true
  | .avenueSlotLate _ => true
  | .coeffCommitKeep _ => true
  | .coeffCommitTrack _ => true
  | .loopFlagsWrite _ _ => true
  | .sectionFlagsWrite _ _ => true
  | .fallbackHoldExpiry _ => true
  | .setpointInputSample _ _ _ => true
  | .setpointPulseEdge _ _ _ => true
  | .setpointPulseTimeout _ => true
  | .detectorAcknowledge _ => true
  | .injectionStartNow => true
  | .injectionStop => true
  | .injectionScheduleStart => true
  | .injectionDurationEnd => true
  | .captureArm => true
  | .captureDisarm => true
  | .captureTrigger => true
  | .captureComplete => true
  | .snapshotRelease => true
  | .converterCommandSend _ => true
  | .converterResponse _ => true
  | .converterResponseMissing _ => true
  | .sliproadUpdate _ => true
  | .sliproadStop _ => true
  | .sliproadStopRelease _ => true
  | .gearEngage _ => true
  | .gearDisengage _ => true
  | .homeStart _ => true
  | .endSwitchEdge _ _ => true
  | .homeQualified _ => true
  | .homeQualifyTimeout _ => true
  | .standstillDelayExpiry _ => true
  | .stepperFault _ _ => true
  | .throttleMessagePeriod => true
  | .throttleGraceExpiry => true
  | .throttleOvercurrentTimeout => true
  | .throttleClearTime => true
  | .throttleAcknowledge => true
  | .shutdownRequest => true
  | .shutdownZeroReached => true
  | .shutdownZeroConfirmed => true
  | .shutdownFlush => true
  | .shutdownIsolate => true
  | .shutdownStepDeadline => true
  | .bollardComparatorTrip _ _ => true
  | .partnerTripReceived => true
  | .guardPermitLoss => true
  | .stringSupplyLow => true
  | .slcDiscrepancyTimeout => true
  | .slcDegradedTimeout => true
  | .slvMissingHoldExpiry => true
  | .sltMissingHoldExpiry => true
  | .sdcRequestWrite _ => true
  | .ssiRequest => true
  | .bollardCrcCheck _ => true
  | .bollardSelfTest _ _ => true
  | .contactorClose => true
  | .contactorOpen => true
  | .contactorStepTimer => true
  | .prechargeReached => true
  | .prechargeTimeout => true
  | .economiserHold _ => true
  | .weldCheckTimeout => true
  | .weldAcknowledge => true
  | .safeRstRise => true
  | .safeRstReleaseEdge => true
  | .safeRstStuck => true
  | .safeRstUnstuck => true
  | .resetTestComplete _ => true
  | .remoteReset => true
  | .doorOpen => true
  | .safetyPasswordWrite password => lenIn 8 16 password
  | .heartbeatSend => true
  | .heartbeatReceived _ _ => true
  | .heartbeatMissing => true
  | .footbridgeLaneUp _ => true
  | .footbridgeLaneDown _ => true
  | .mirrorReceived _ _ => true
  | .mirrorMissing => true
  | .clearSuspect => true
  | .switchoverRequest => true
  | .startListenEnd => true
  | .pullBlockSend => true
  | .pullBlockReceived _ _ => true
  | .shadowRunComplete => true
  | .imageCheck _ => true
  | .imageForwardComplete => true
  | .imageActivate => true
  | .warmStart => true
  | .coldStart => true
  | .programStop => true
  | .programTrap _ _ _ => true
  | .envCallModuleTime _ => true
  | .envCallReleaseTime _ => true
  | .envCallFrameNumber _ => true
  | .envCallUserEvent _ _ _ data => data.length == 16
  | .stationReceiveTimeout _ => true
  | .retainedCheckpoint _ => true
  | .onlineChangeWrite _ _ => true
  | .forceSetRequest _ _ => true
  | .forceClearRequest _ => true
  | .forceClearAllRequest => true
  | .eopHello _ _ _ _ _ nonce client => nonce.length == 16 && client.length == 16
  | .eopProof _ _ _ proof => proof.length == 32
  | .handshakeTimeout _ => true
  | .eopKeepalive h => headOk h
  | .eopClose h _ => headOk h
  | .keepaliveTimeout _ => true
  | .eopRead h _ items => headOk h && decide (items.length ≤ 64)
  | .eopWrite h items => headOk h && decide (items.length ≤ 16)
  | .eopDescribe h _ => headOk h
  | .objectWriteApply _ => true
  | .segInit h _ _ _ _ _ => headOk h
  | .segData h _ _ _ => headOk h
  | .segAck h _ _ _ _ => headOk h
  | .segAbort h _ _ => headOk h
  | .segAckTimer _ _ => true
  | .segResendTimer _ _ => true
  | .segTransferTimeout _ _ => true
  | .safetyOpen h => headOk h
  | .safetyProof h proof => headOk h && proof.length == 32
  | .safetyClose h => headOk h
  | .safetySessionTimeout _ => true
  | .preSharedKeyWrite key => key.length == 32
  | .configCommit => true
  | .configDiscard => true
  | .configCommitEffect _ => true
  | .servicePortAttach => true
  | .servicePortDetach => true
  | .prpFrameReceived _ _ _ _ _ => true
  | .prpSupervisionSend => true
  | .prpLanTimeout _ _ => true
  | .prpNodeForget _ => true
  | .arpRequest _ _ _ _ => true
  | .icmpEcho _ _ _ _ => true
  | .identity p _ => alleyOk p
  | .health p _ => alleyOk p
  | .eventNewest p _ => alleyOk p
  | .eventRead p _ => alleyOk p
  | .lifecycleGet p _ => alleyOk p
  | .lifecycleRequest p _ => alleyOk p
  | .bankGet p _ => alleyOk p
  | .bankSelect p _ => alleyOk p
  | .resetRequest p _ => alleyOk p
  | .lockChallenge p _ => alleyOk p
  | .lockProof p _ => alleyOk p
  | .lockClose p _ => alleyOk p
  | .objectRead p _ => alleyOk p
  | .objectWrite p _ => alleyOk p
  | .alleyResponseRead => true
  | .alleyLockTimeout => true
  | .canFrameReceived _ _ _ data => canDataOk data
  | .canBufferLoad _ => true
  | .canAttemptEnd _ _ _ => true
  | .canRecoveryHoldoff _ => true
  | .canRecoverNow _ => true
  | .canRecoveryComplete _ => true
  | .canHostTransmit _ element => element.length == 72
  | .canFilterListWrite _ _ => true
  | .canClearCounters _ => true
  | .eventFrontRequest => true
  | .eventWrite => true
  | .suppressionExamination => true
  | .mainPowerGood _ _ _ _ => true
  | .powerFailWarning _ _ => true
  | .powerDip _ => true
  | .railOutOfLimits _ _ _ _ _ => true
  | .watchdogExpiry _ => true
  | .guardLockstepMismatch => true
  | .hostResetRequest => true
  | .hostResetForced => true
  | .resetDelayExpiry => true
  | .firmwareImageWrite image => lenIn 0 16777408 image
  | .bankProgramComplete => true
  | .bankSelectWrite _ => true
  | .trialConfirm => true
  | .countersCommit => true
  | .caseSwitchOpen => true
  | .vaultCapacitorLow _ => true
  | .vaultPowerOn => true
  | .clearVaultLatches => true
  | .transitionRequestWrite _ => true
  | .presentClosed => true
  | .mainRampTimeout => true
  | .mainRampRetry => true
  | .presentOpen _ => true
  | .j2LoopOpen => true
  | .j2LoopClosedDelay => true
  | .announceReceiptTimeout _ _ => true
  | .partnerTripDeasserted => true
  | .slcLimitsReturn => true
  | .canReceiveError _ _ _ => true
  | .standbyPowerUp _ => true
  | .standbyPowerLoss => true
  | .plazaEccError _ => true

end Sys2Proof
end

