-- ==== Sys2Proof/Tests/Slice0.lean ====
section
/-!
SUPPORT. Tests: an ill-formed command for each check, the spec's worked examples, and for every statement with hypotheses the witnesses that
its hypotheses can be met, clause by clause (a clause whose only hypothesis is that a domain runs is met by the state after reset).
-/
set_option maxRecDepth 20000
set_option linter.unusedVariables false
namespace Sys2Proof.Tests
open Sys2Proof Sys2Proof.Machine

/-- The state after reset with some objects at other values. -/
def st (l : List (Nat × Nat × Int)) : State := l.foldl (fun s x => s.setObj x.1 x.2.1 x.2.2) State.reset

/-- The same on a card of a pair. -/
def pairSt (l : List (Nat × Nat × Int)) : State := { st l with pairOn := true }

/-- The same at counter value `c`. -/
def atC (c : Nat) (s : State) : State := { s with clk := { s.clk with c := c } }

/-- The same with these elements in a lane. -/
def laneSt (n : Nat) (l : List Elem) (s : State) : State := s.setLane n { elems := l }

/-- Bytes followed by their CRC-32C. -/
def crcd (b : List Byte) : List Byte := b ++ leBytes 4 (crc32c b : Int)

/-- A state whose Ethernet session is open under identifier 1 with an empty key, and a message number 1 of it that verifies. -/
def openSt (s : State) : State := { s with host := { s.host with eop := { s.host.eop with isOpen := true, sid := 1 } } }

/-- Message number 1 of that session. -/
def msg (typ : Nat) (payload : List Byte) : MsgHead := ⟨.eop, 1, 1, msgTag [] (msgBody typ 0 1 1 payload)⟩

/-- The CRC byte of a command frame of Alley. -/
def aly (s : State) (code : Nat) (p : List Byte) : BitVec 8 := BitVec.ofNat 8 (cmdCrc (alleyIn s) code p)

/-- A program image with a fast task, a slow task every second frame and a background task, one symbol of the data region and one CAN
station. -/
def img : ProgImage :=
  { version := 1, buildTime := 0, code := [], consts := [], initData := [1#8, 2#8], initRetained := [3#8],
    symbols := [⟨0x9000, 1, 5, 0x30, 1, 1, 0, 1, 0, []⟩, ⟨0x9000, 2, 5, 0, 1, 1, 0, 1, 1, []⟩],
    stations := [⟨48, 0, 0, 0, 0x123, 8, 0, 4, 0, 0, 0, 0⟩], outputs := [], mfMask := 0, mfSafe := 0, fastEntry := 0,
    backEntry := 4, slow := [(8, 2, 0)], ifCrc := 0, retCrc := 7, imgCrc := 0, table := [], raw := [] }

/-- A state with that image as the active one. -/
def progSt (s : State) : State := { s with prog := { s.prog with image := some img } }

/-- A transfer of 100 bytes, 10 of them acknowledged. -/
def seg (write : Bool) (window unacked : Nat) : Transfer :=
  ⟨.eop, 1, write, 0x4020, 1, 100, 0, List.replicate 10 0#8, 10, 10, window, unacked, false⟩

/-- A state in which that transfer runs. -/
def segSt (x : Transfer) (s : State) : State := { s with host := { s.host with transfers := [x] } }

/-- A transmit element of 72 zero bytes. -/
def el0 : List Byte := List.replicate 72 0#8

/-- What an enumeration brings of `n` units in the order of their hops: identity blocks that pass, each with a round trip of 400 ns. -/
def enumList (n : Nat) : List EnumUnit :=
  (List.range n).map (fun k => ⟨crcd ([0xA0#8, BitVec.ofNat 8 (k + 1)] ++ leBytes 8 77 ++ List.replicate 10 0#8), 1600⟩)

/-! ### An ill-formed command for each check of WellFormed -/

theorem test_wf_readings : WellFormed (.inputImageAssembly [] 0 0 0) = false := by decide
theorem test_wf_region : WellFormed (.taskRunEnd 0 [⟨3, 0, []⟩]) = false := by decide
theorem test_wf_windows : WellFormed (.frontEndFrameValues ⟨[1#32], []⟩ ⟨[1#32], [1#32]⟩ ⟨[1#32], [1#32]⟩ ⟨[1#32], [1#32]⟩) = false
    ∧ WellFormed (.frontEndFrameValues ⟨[1#32], [1#32]⟩ ⟨[], []⟩ ⟨[1#32], [1#32]⟩ ⟨[1#32], [1#32]⟩) = false := by decide
theorem test_wf_password : WellFormed (.safetyPasswordWrite (List.replicate 7 0x41#8)) = false
    ∧ WellFormed (.safetyPasswordWrite (List.replicate 17 0x41#8)) = false ∧ WellFormed (.safetyPasswordWrite (List.replicate 8 0x41#8)) = true := by decide
theorem test_wf_event_data : WellFormed (.envCallUserEvent 0 0x0C80 1 []) = false := by decide
theorem test_wf_hello : WellFormed (.eopHello .eop 0 0 1 false [] (List.replicate 16 0#8)) = false
    ∧ WellFormed (.eopHello .eop 0 0 1 false (List.replicate 16 0#8) []) = false := by decide
theorem test_wf_proof : WellFormed (.eopProof .eop 0 1 []) = false ∧ WellFormed (.safetyProof ⟨.eop, 1, 1, List.replicate 16 0#8⟩ []) = false := by
  decide
theorem test_wf_tag : WellFormed (.eopKeepalive ⟨.eop, 1, 1, []⟩) = false ∧ WellFormed (.eopKeepalive ⟨.eop, 1, 1, List.replicate 16 0#8⟩) = true := by
  decide
theorem test_wf_items : WellFormed (.eopRead ⟨.eop, 1, 1, List.replicate 16 0#8⟩ false (List.replicate 65 ⟨0x2001, 0⟩)) = false
    ∧ WellFormed (.eopWrite ⟨.eop, 1, 1, List.replicate 16 0#8⟩ (List.replicate 17 ⟨⟨0x2001, 0⟩, 2, [1#8]⟩)) = false := by decide
theorem test_wf_key : WellFormed (.preSharedKeyWrite (List.replicate 31 0#8)) = false := by decide
theorem test_wf_alley : WellFormed (.identity (List.replicate 28 0#8) 0) = false := by decide
theorem test_wf_can : WellFormed (.canFrameReceived 0 0 0 (List.replicate 65 0#8)) = false ∧ WellFormed (.canHostTransmit 0 []) = false := by decide
theorem test_wf_image : lenIn 0 3 (List.replicate 4 0#8) = false := by decide

/-! ### Worked examples of the spec, and what no word spells -/

/-- No row of the table has bits, so no word spells a command. -/
theorem test_no_word : decodeTableWord 16 0 = none ∧ State.reset.withFetchWord 16 0 = State.reset := ⟨rfl, rfl⟩

/-- The sample of chapter 07: section 2 of the 2× bank gives 6,292, and with a halved gain 3,146. -/
theorem test_section_gain : (sectionRun [0x40000000, 0, 0, 0, 0] 0 0 12583).y = 6292 ∧ (sectionRun [0x4000003F, 0, 0, 0, 0] 0 0 12583).y = 3146 := by
  decide +kernel

/-- The sample of chapter 07: section 3 gives 1,139,069 and its state 566,388. -/
theorem test_section_integrator : (sectionRun [0x43333301, 0xC0000000, 0, 0xC0000000, 0] 566231 0 6292).y = 1139069
    ∧ (sectionRun [0x43333301, 0xC0000000, 0, 0xC0000000, 0] 566231 0 6292).s1 = 566388 := by decide +kernel

/-- The sample of chapter 07: 140 A of 1,000 A as a loop fraction, and 135,788 mA in bytes 6 to 9 of the command frame. -/
theorem test_command_bytes : (toLoopFrac 140 1000).1 = 1174405
    ∧ sliceAt (commandFrame State.reset 0 (135788, 0, 0, false)) 6 4 = [0x6C#8, 0x12#8, 0x02#8, 0x00#8] := by decide +kernel

/-- The time step of chapter 02: the boundary is frame 1,796,657,153 at 1,893,456,000 s + 212,360 ns, the next one stands at + 500,000 ns. -/
theorem test_time_step :
    let s : State := { st [(0x2804, 0, 1)] with
      clk := { o := 1893456000000250000 * 65536, autoStep := some (-37640 * 65536) }, frame := { nextAt := 1893456000000250000 } }
    (match exec .frameBoundary s with
      | .next t => decide (t.frameNo = 1796657153) && decide (t.now / 65536 = 1893456000000212360) && decide (t.frame.nextAt = 1893456000000500000)
      | _ => false) = true := by decide +kernel

/-- The takeover of chapter 11: slot B, whose own epoch is 1,845 and whose partner sent 1,846, takes 1,847. -/
theorem test_takeover_epoch : epochAbove (pairSt [(0x7001, 1, 1)]) 1846 = 1847 := by decide +kernel

/-- The vault of chapter 16: 1,584,000 half-seconds read as 792,000 s. -/
theorem test_vault_seconds : (startVault { st [] with pwr := { vault := { halfSecs := 1584000 } } }).obj 0x2070 2 = 792000 := by decide +kernel

/-- The batch of chapter 13: the Alley write under the lock in SERVICE beats the host's earlier one, which is counted as superseded. -/
theorem test_batch_rank :
    let s := laneSt 41 [.write ⟨0x2001, 0, 1, [1#8], .eop, false, 1, 0, 0⟩, .write ⟨0x2001, 0, 5, [5#8], .alley, true, 2, 0, 0⟩] (st [(0x2040, 1, 3)])
    (match exec .writeBatchClose s with
      | .next t => decide (t.host.batch.map (·.val) = [5]) && decide (t.obj 0x1201 4 = 1)
      | _ => false) = true := by decide +kernel

/-- The check values of the three CRCs over the digits 1 to 9, as their names are commonly tabulated. -/
theorem test_crcs : crc32c (asciiBytes "123456789") = 0xE3069283 ∧ crc16 (asciiBytes "123456789") = 0x29B1 := by decide +kernel

/-- SHA-256 of the three bytes abc, first word. -/
theorem test_sha256 : (sha256 (asciiBytes "abc")).take 4 = [0xBA#8, 0x78#8, 0x16#8, 0xBF#8] := by decide +kernel

/-! ### An OCV table and a program image that pass every check -/

/-- The head of an OCV table: format 1, 32 head bytes, 9 temperatures 0 to 8, 101 points, two branches. -/
def ocvHead : List Byte := leBytes 2 1 ++ leBytes 2 32 ++ [9#8, 101#8, 2#8, 0#8] ++ (List.range 9).flatMap (fun k => leBytes 2 (Int.ofNat k))
  ++ List.replicate 6 0#8

/-- An OCV table that passes every check: every voltage 0. -/
def ocvFlat : List Byte := crcd (ocvHead ++ List.replicate 7272 0#8)

/-- The head and the code of a program image of one 16-byte section. -/
def imgHead : List Byte := crcd (leBytes 2 0x9A01 ++ leBytes 2 128 ++ leBytes 2 1 ++ leBytes 2 0x0240 ++ List.replicate 16 0#8 ++ leBytes 4 16
  ++ List.replicate 96 0#8) ++ List.replicate 16 1#8

/-- A program image that passes every check. -/
def imgFlat : List Byte := crcd (imgHead ++ sha256 imgHead ++ List.replicate 64 0#8)

/-- A field that lies within the first part is that part's own. -/
theorem getLe_append (h c : List Byte) (o n : Nat) (hn : o + n ≤ h.length) : getLe (h ++ c) o n = getLe h o n := by
  unfold getLe sliceAt padTo
  rw [List.drop_append_of_le_length (by omega), List.append_assoc, List.take_append_of_le_length (by rw [List.length_drop]; omega),
    List.take_append_of_le_length (by rw [List.length_drop]; omega)]

/-- A field of zero bytes behind a head is 0. -/
theorem getLe_zeros (h c : List Byte) (m k : Nat) (hk : k + 4 ≤ m) : getLe (h ++ (List.replicate m 0#8 ++ c)) (h.length + k) 4 = 0 := by
  unfold getLe sliceAt padTo
  rw [List.drop_length_add_append, List.drop_append_of_le_length (by rw [List.length_replicate]; omega), List.drop_replicate,
    List.append_assoc, List.take_append_of_le_length (by rw [List.length_replicate]; omega), List.take_replicate,
    show min 4 (m - k) = 4 by omega]
  rfl

/-- Every voltage of a table of zeros is 0. -/
theorem ocvAt_zeros (h c : List Byte) (m b t j : Nat) (hl : h.length = 32) (hm : 4 * ((b * 9 + t) * 101 + j) + 4 ≤ m) :
    ocvAt (h ++ (List.replicate m 0#8 ++ c)) b t j = 0 := by
  have := getLe_zeros h c m (4 * ((b * 9 + t) * 101 + j)) hm
  rw [hl] at this
  exact this

theorem ocvFlat_eq (m : Nat) (h : m = 7272) : ocvFlat = ocvHead ++ (List.replicate m 0#8 ++ leBytes 4 (crc32c (ocvHead ++ List.replicate m 0#8) : Int)) := by
  subst h
  unfold ocvFlat crcd
  rw [List.append_assoc]

theorem ocvAt_flat (b t j : Nat) (h : (b * 9 + t) * 101 + j < 1818) : ocvAt ocvFlat b t j = 0 := by
  rw [ocvFlat_eq _ rfl]
  exact ocvAt_zeros _ _ _ _ _ _ (by decide) (by omega)

theorem crcStepR_lt (c : Nat) (h : c < 4294967296) : crcStepR 0x82F63B78 c < 4294967296 := by
  unfold crcStepR
  split
  · exact Nat.xor_lt_two_pow (n := 32) (by omega) (by decide)
  · omega

theorem crcByteR_lt (c : Nat) (b : Byte) (h : c < 4294967296) : crcByteR 0x82F63B78 c b < 4294967296 := by
  unfold crcByteR
  have hb : b.toNat < 4294967296 := by have := b.isLt; omega
  exact crcStepR_lt _ (crcStepR_lt _ (crcStepR_lt _ (crcStepR_lt _ (crcStepR_lt _ (crcStepR_lt _ (crcStepR_lt _ (crcStepR_lt _
    (Nat.xor_lt_two_pow (n := 32) h hb))))))))

theorem crc32c_lt (l : List Byte) : crc32c l < 4294967296 := by
  have key : ∀ (l : List Byte) (c : Nat), c < 4294967296 → l.foldl (crcByteR 0x82F63B78) c < 4294967296 := by
    intro l
    induction l with
    | nil => intro c h; exact h
    | cons b r ih => intro c h; exact ih _ (crcByteR_lt c b h)
  exact Nat.xor_lt_two_pow (n := 32) (key l _ (by decide)) (by decide)

theorem leNat_leBytes4 (c : Nat) (h : c < 4294967296) : leNat (leBytes 4 (c : Int)) = c := by
  simp only [leBytes, leNat, BitVec.toNat_ofInt]
  omega

/-- Bytes followed by their CRC-32C pass its check. -/
theorem crcd_ok (l : List Byte) : crc32c ((crcd l).take l.length) = getLe (crcd l) l.length 4 := by
  unfold crcd getLe sliceAt padTo
  rw [List.take_left', List.drop_left' rfl, List.take_left' (by rfl), leNat_leBytes4 _ (crc32c_lt l)]
  rfl

theorem ocvFlat_crc : crc32c (ocvFlat.take 7304) = getLe ocvFlat 7304 4 := by
  have h := crcd_ok (ocvHead ++ List.replicate 7272 0#8)
  have hl : (ocvHead ++ List.replicate 7272 0#8).length = 7304 := by
    rw [List.length_append, List.length_replicate]; decide
  rw [hl] at h
  unfold ocvFlat
  exact h

/-- No point of that table is found bad. -/
theorem ocvFlat_points : ocvPoints.find? (ocvPointBad ocvFlat) = none := by
  rw [List.find?_eq_none]
  rintro ⟨b, t, j⟩ hm
  simp only [ocvPoints, List.mem_flatMap, List.mem_range, List.mem_map, Prod.mk.injEq] at hm
  obtain ⟨_, hb, _, ht, _, hj, rfl, rfl, rfl⟩ := hm
  simp only [ocvPointBad]
  rw [ocvAt_flat _ _ _ (by omega), ocvAt_flat _ _ _ (by omega), ocvAt_flat _ _ _ (by omega), ocvAt_flat _ _ _ (by omega)]
  simp

theorem ocvFlat_length : ocvFlat.length = 7308 := by
  rw [ocvFlat_eq _ rfl, List.length_append, List.length_append, List.length_replicate, show ocvHead.length = 32 by decide]
  simp only [leBytes, List.length_cons, List.length_nil]

theorem ocvFlat_head (o n : Nat) (h : o + n ≤ 32) : getLe ocvFlat o n = getLe ocvHead o n := by
  rw [ocvFlat_eq _ rfl]
  exact getLe_append _ _ _ _ (by rw [show ocvHead.length = 32 by decide]; exact h)

/-- The checks of a table, one by one. -/
theorem ocvBad_none (l : List Byte) (h0 : l.length = 7308) (h1 : ocvHeadBad l = none) (h2 : ocvTempBad l = none)
    (h3 : ocvPoints.find? (ocvPointBad l) = none) (h4 : crc32c (l.take 7304) = getLe l 7304 4) : ocvBad l = none := by
  unfold ocvBad
  rw [if_neg (by omega), h1, h2, h3]
  exact if_pos h4

theorem ocvFlat_ok : ocvBad ocvFlat = none := by
  refine ocvBad_none _ ocvFlat_length ?_ ?_ ocvFlat_points ocvFlat_crc
  · unfold ocvHeadBad
    rw [Option.map_eq_none_iff, List.find?_eq_none]
    simp only [List.mem_cons, List.not_mem_nil, or_false]
    rintro p (rfl | rfl | rfl | rfl | rfl) <;> rw [ocvFlat_head _ _ (by decide)] <;> decide
  · unfold ocvTempBad
    rw [Option.map_eq_none_iff, List.find?_eq_none]
    intro t ht
    have ht := List.mem_range.1 ht
    unfold ocvTemp
    rw [ocvFlat_head _ _ (by omega), ocvFlat_head _ _ (by omega)]
    revert t
    decide

/-! ### Witnesses of the statements' hypotheses -/

/-- Both domains run after reset, a single module drives, and Alley's target answers. -/
theorem witness_running : State.reset.hostUp = true ∧ State.reset.stringUp = true ∧ hkUp State.reset = true ∧ State.reset.drives = true := by decide

theorem witness_DomainsDown : (∃ s : State, s.hostUp = false) ∧ (∃ s : State, s.stringUp = false) :=
  ⟨⟨{ st [] with hostUp := false }, rfl⟩, ⟨{ st [] with stringUp := false }, rfl⟩⟩

theorem witness_EveryStepKeepsTheStores : ∃ s t : State, StoreInv s ∧ step s = .next t :=
  ⟨State.reset, _, ⟨trivial, trivial⟩, rfl⟩

theorem witness_FoundingRecordsNeverChange : ∃ s t : State, step s = .next t := ⟨State.reset, _, rfl⟩

theorem witness_IdleStepIsOneTick : ∃ (s : State), s.pending = [] :=
  ⟨State.reset, by decide +kernel⟩

theorem witness_PtpMessages :
  (∃ (s : State) (port : Fin 2) (master : BitVec 64) (domain : BitVec 8) (seq : BitVec 16) (ingress : Stamp) (origin : Int), s.hostUp = true ∧
      (domain.toNat : Int) = s.obj 0x2832 0 ∧ s.clk.selected = some master.toNat)
  ∧ (∃ (s : State) (port : Fin 2) (master : BitVec 64) (domain : BitVec 8) (seq : BitVec 16) (ingress : Stamp) (origin : Int), s.hostUp = true ∧
      ((domain.toNat : Int) ≠ s.obj 0x2832 0 ∨ s.clk.selected ≠ some master.toNat))
  ∧ (∃ (s : State) (port : Fin 2) (ann : Announce), s.hostUp = true ∧ (ann.domain.toNat : Int) = s.obj 0x2832 0)
  ∧ (∃ (s : State) (port : Fin 2) (seq : BitVec 16) (ingress : Stamp) (turnaround t1 : Int), s.hostUp = true ∧ (s.port port).t1 = some t1 ∧ (s.port
      port).reqSeq = seq.toNat) :=
  ⟨⟨{ st [(0x2832,0,3)] with clk := { selected := some 7 } }, 1, 7, 3, 5, ⟨100#64, 0⟩, 0, by decide +kernel⟩,
   ⟨st [(0x2832,0,3)], 0, 7, 4, 5, ⟨100#64, 0⟩, 0, by decide +kernel⟩,
   ⟨st [(0x2832,0,3)], 1, ⟨7, 128, 6, 32, 100, 128, 1, 37, 3⟩, by decide +kernel⟩,
   ⟨{ st [] with clk := { portB := { t1 := some 5, reqSeq := 65535 } } }, 1, 65535, ⟨100#64, 3⟩, 2, 5, by decide +kernel⟩⟩

theorem witness_ServoRules :
  (∃ (s : State) (theta gm : Int) (l : List Int) (r : List Elem), s.hostUp = true ∧ (s.lane 26).elems = .nums (theta :: gm :: l) :: r ∧ s.servo = 2 ∧
      s.clk.grandmaster = some gm.toNat ∧ (theta.natAbs : Int) ≤ s.obj 0x2822 3 * 65536 ∧ 0 ≤ s.obj 0x2826 0)
  ∧ (∃ (s : State) (theta gm : Int) (l : List Int) (r : List Elem), s.hostUp = true ∧ (s.lane 26).elems = .nums (theta :: gm :: l) :: r ∧ s.servo = 1 ∧
      s.clk.grandmaster = some gm.toNat ∧ s.obj 0x2823 0 * 65536 < (theta.natAbs : Int))
  ∧ (∃ (s : State) (theta gm : Int) (l : List Int) (r : List Elem), s.hostUp = true ∧ (s.lane 26).elems = .nums (theta :: gm :: l) :: r ∧ s.servo = 3 ∧
      s.obj 0x2821 0 = 1)
  ∧ (∃ (s : State) (port : Fin 2), s.hostUp = true ∧ port.val ≠ s.selPort)
  ∧ (∃ (s : State) (port : Fin 2), s.hostUp = true ∧ port.val = s.selPort ∧ (s.port port).missed < 2 ∧ (s.servo = 1 ∨ s.servo = 2) ∧ s.obj 0x2824 0 ≤
      ((s.clk.thetaMissed + 1 : Nat) : Int))
  ∧ (∃ (s : State), s.hostUp = true ∧ s.servo = 3 ∧ bitOf (s.obj 0x2805 0) 1 = false ∧ s.clk.ppsAid = false)
  ∧ (∃ (s : State) (v : BitVec 64), s.hostUp = true ∧ -1000000000000 ≤ v.toInt ∧ v.toInt ≤ 1000000000000)
  ∧ (∃ (s : State) (v : BitVec 64), s.hostUp = true ∧ (v.toInt < -1000000000000 ∨ 1000000000000 < v.toInt)) :=
  ⟨⟨laneSt 26 [.nums [-64, 9]] { st [(0x2804,0,2)] with clk := { grandmaster := some 9 } }, -64, 9, [], [], by decide +kernel⟩,
   ⟨laneSt 26 [.nums [65536000001, 9]] { st [(0x2804,0,1), (0x2823,0,1000000)] with clk := { grandmaster := some 9 } }, 65536000001, 9, [], [],
       by decide +kernel⟩,
   ⟨laneSt 26 [.nums [5, 9]] { st [(0x2804,0,3), (0x2821,0,1)] with clk := { grandmaster := some 9 } }, 5, 9, [], [], by decide +kernel⟩,
   ⟨State.reset, 1, by decide +kernel⟩,
   ⟨{ st [(0x2804,0,2), (0x2814,0,2)] with clk := { thetaMissed := 7, portB := { missed := 1 } } }, 1, by decide +kernel⟩,
   ⟨st [(0x2804,0,3)], by decide +kernel⟩,
   ⟨State.reset, 0#64 - 1000000000000#64, by decide +kernel⟩,
   ⟨State.reset, 1000000000001#64, by decide +kernel⟩⟩

theorem witness_PulseRules :
  (∃ (s : State) (edge : Stamp), s.hostUp = true ∧ s.obj 0x2840 0 = 0)
  ∧ (∃ (s : State) (edge : Stamp), s.hostUp = true ∧ s.obj 0x2840 0 = 1 ∧ (secondError (timeAt s.clk edge.c.toNat edge.p - s.obj 0x2841 0 * 16384)).natAbs
      > 65536000)
  ∧ (∃ (s : State) (edge : Stamp), s.hostUp = true ∧ s.obj 0x2840 0 = 2 ∧ s.servo = 3 ∧ s.clk.heldLocked = true ∧ (secondError (timeAt s.clk edge.c.toNat
      edge.p - s.obj 0x2841 0 * 16384)).natAbs ≤ 65536000)
  ∧ (∃ (s : State), s.hostUp = true ∧ s.clk.ppsAid = true)
  ∧ (∃ (s : State), s.hostUp = true ∧ (s.obj 0x2842 0 = 2 ∨ (s.obj 0x2842 0 = 1 ∧ bitOf (s.obj 0x2805 0) 0 = true)))
  ∧ (∃ (s : State), s.hostUp = true ∧ ¬ (s.obj 0x2842 0 = 2 ∨ (s.obj 0x2842 0 = 1 ∧ bitOf (s.obj 0x2805 0) 0 = true)))
  ∧ (∃ (s : State) (k : Fin 8), s.hostUp = true ∧ compOk s k = true ∧ s.obj (0x2850 + k) 1 = 1 ∧ s.now / 65536 < compStart s k)
  ∧ (∃ (s : State) (k : Fin 8), s.hostUp = true ∧ compOk s k = true ∧ s.obj (0x2850 + k) 1 = 1 ∧ compStart s k ≤ s.now / 65536)
  ∧ (∃ (s : State) (k : Fin 8), s.hostUp = true ∧ compOk s k = false)
  ∧ (∃ (s : State) (k : Fin 8), s.hostUp = true ∧ (s.comp k).armed = true)
  ∧ (∃ (s : State) (k : Fin 8), s.hostUp = true ∧ (s.comp k).pulse = true ∧ (s.comp k).armed = false ∧ s.obj (0x2850 + k) 8 = 2) :=
  ⟨⟨st [(0x2840,0,0)], ⟨0#64, 0⟩, by decide +kernel⟩,
   ⟨st [(0x2840,0,1)], ⟨125000000#64, 0⟩, by decide +kernel⟩,
   ⟨{ st [(0x2840,0,2), (0x2804,0,3)] with clk := { heldLocked := true } }, ⟨250000250#64, 0⟩, by decide +kernel⟩,
   ⟨{ st [] with clk := { ppsAid := true } }, by decide +kernel⟩,
   ⟨st [(0x2842,0,1), (0x2805,0,1)], by decide +kernel⟩,
   ⟨st [(0x2842,0,1)], by decide +kernel⟩,
   ⟨st [(0x2857,3,40), (0x2857,4,20), (0x2857,1,1), (0x2857,2,65536)], 7, by decide +kernel⟩,
   ⟨atC 1000 (st [(0x2857,3,40), (0x2857,4,20), (0x2857,1,1), (0x2857,2,0)]), 7, by decide +kernel⟩,
   ⟨st [(0x2850,3,39), (0x2850,4,20)], 0, by decide +kernel⟩,
   ⟨{ st [] with clk := { comps := [(0, { armed := true })] } }, 0, by decide +kernel⟩,
   ⟨{ st [(0x2857,8,2)] with clk := { comps := [(7, { pulse := true })] } }, 7, by decide +kernel⟩⟩

theorem witness_FrameWork :
  (∃ (s : State) (v r : Nat), s.frame.change = some (v, r) ∧ s.profile ≠ v ∧ v ≠ 3)
  ∧ (∃ (s : State) (e : Fin 4), s.hostUp = true ∧ s.cells.sealFrame ≠ some s.cells.imageFrame ∧ s.profile ≠ 3 ∧ s.runs = true)
  ∧ (∃ (s : State), s.hostUp = true ∧ objectOutputs s = []) :=
  ⟨⟨{ st [] with frame := { change := some (5, 1) } }, 5, 1, by decide +kernel⟩,
   ⟨{ st [] with cells := { imageFrame := 1 } }, 3, by decide +kernel⟩,
   ⟨State.reset, by decide +kernel⟩⟩

theorem witness_WindowsAndLanes :
  (∃ (s : State) (w : Fin 6) (e : Fin 16) (u : BitVec 16), s.hostUp = true ∧ s.frame.late = [] ∧ s.obj 0x2111 0 = 2)
  ∧ (∃ (s : State) (w : Fin 6) (e : Fin 16) (u : BitVec 16), s.hostUp = true ∧ s.frame.late ≠ [])
  ∧ (∃ (s : State), s.hostUp = true ∧ 64 ≤ s.frame.clean)
  ∧ (∃ (s : State), s.hostUp = true ∧ s.frame.clean < 64)
  ∧ (∃ (s : State) (n : Fin 48) (e : Elem) (r : List Elem), s.hostUp = true ∧ (s.lane n).waiting = e :: r ∧ (s.lane n).elems.length < (laneInfo n).depth)
  ∧ (∃ (s : State) (w : Fin 6) (e : Fin 16) (u : BitVec 16), s.hostUp = true ∧ s.frame.late = [] ∧ s.obj 0x2111 0 ≠ 2)
  ∧ (∃ (s : State), s.frame.late = [])
  ∧ (∃ (s : State), s.frame.late ≠ []) :=
  ⟨⟨st [(0x2111,0,2)], 5, 15, 65535, by decide +kernel⟩,
   ⟨{ st [] with frame := { late := [1] } }, 0, 0, 0, by decide +kernel⟩,
   ⟨{ st [] with frame := { clean := 64 } }, by decide +kernel⟩,
   ⟨{ st [] with frame := { clean := 63 } }, by decide +kernel⟩,
   ⟨{ st [] with lanes := [(43, { elems := List.replicate 15 (.nums []), waiting := [.nums [1]] })] }, 43, .nums [1], [], by decide +kernel⟩,
   ⟨st [(0x2111,0,255)], 2, 7, 1, by decide +kernel⟩,
   ⟨State.reset, by decide +kernel⟩,
   ⟨{ st [] with frame := { late := [1] } }, by decide +kernel⟩⟩

theorem witness_ProfileAndLink :
  (∃ (s : State) (v : BitVec 8), s.hostUp = true ∧ (s.isActive = true ∨ (writeOf s 0x2001 0).isSome = true) ∧ v.toNat ≤ 5 ∧ v.toNat ≠ 4 ∧ s.profile ≠ 4 ∧
      bitOf (s.obj 0x6000 1) 4 = false ∧ profileRefusal s v.toNat = 0)
  ∧ (∃ (s : State) (v : BitVec 8), s.hostUp = true ∧ (s.isActive = true ∨ (writeOf s 0x2001 0).isSome = true) ∧ v.toNat ≤ 5 ∧ v.toNat ≠ 4 ∧ s.profile ≠ 4 ∧
      bitOf (s.obj 0x6000 1) 4 = false ∧ profileRefusal s v.toNat ≠ 0)
  ∧ (∃ (s : State) (v : BitVec 8), s.hostUp = true ∧ 5 < v.toNat)
  ∧ (∃ (s : State), s.hostUp = true ∧ (s.isActive = true ∨ (writeOf s 0x2001 0).isSome = true))
  ∧ (∃ (s : State) (v : BitVec 8), s.hostUp = true ∧ (s.isActive = true ∨ (writeOf s 0x2001 0).isSome = true) ∧ v.toNat ≤ 5 ∧ v.toNat ≠ 4 ∧ (s.profile = 4
      ∨ bitOf (s.obj 0x6000 1) 4 = true))
  ∧ (∃ (s : State), s.hostUp = true ∧ s.profile = 4 ∧ s.obj 0x2004 0 = 0)
  ∧ (∃ (s : State), s.hostUp = true ∧ (s.profile ≠ 4 ∨ s.obj 0x2004 0 ≠ 0))
  ∧ (∃ (s : State) (r : Fin 4) (p : Fin 2) (c : BitVec 8), s.stringUp = true ∧ s.profile = 3 ∧ bitOf (s.obj 0x3020 6) r = true)
  ∧ (∃ (s : State) (r : Fin 4) (p : Fin 2) (c : BitVec 8), s.stringUp = true ∧ (s.profile ≠ 3 ∨ bitOf (s.obj 0x3020 6) r = false))
  ∧ (∃ (s : State), s.hostUp = true ∧ s.profile = 3)
  ∧ (∃ (s : State) (p : LinkPacket), s.hostUp = true ∧ p.good = true)
  ∧ (∃ (s : State) (p : LinkPacket), s.hostUp = true ∧ p.good = false)
  ∧ (∃ (s : State), s.stringUp = true ∧ s.frame.released = 0)
  ∧ (∃ (s : State), s.pwr.j2Open = true)
  ∧ (∃ (s : State) (v : BitVec 8), s.hostUp = true ∧ s.isActive = false ∧ writeOf s 0x2001 0 = none ∧ v.toNat ≤ 5) :=
  ⟨⟨State.reset, 1, by decide +kernel⟩,
   ⟨State.reset, 5, by decide +kernel⟩,
   ⟨State.reset, 6, by decide +kernel⟩,
   ⟨State.reset, by decide +kernel⟩,
   ⟨st [(0x2002,0,4)], 5, by decide +kernel⟩,
   ⟨st [(0x2002,0,4)], by decide +kernel⟩,
   ⟨st [(0x2002,0,4), (0x2004,0,64)], by decide +kernel⟩,
   ⟨st [(0x2002,0,3), (0x3020,6,8)], 3, 1, 2, by decide +kernel⟩,
   ⟨st [(0x2002,0,3), (0x3020,6,7)], 3, 0, 2, by decide +kernel⟩,
   ⟨st [(0x2002,0,3)], by decide +kernel⟩,
   ⟨State.reset, ⟨true, none⟩, by decide +kernel⟩,
   ⟨State.reset, ⟨false, some 2⟩, by decide +kernel⟩,
   ⟨State.reset, by decide +kernel⟩,
   ⟨{ st [] with pwr := { j2Open := true } }, by decide +kernel⟩,
   ⟨pairSt [(0x7001,0,2)], 1, by decide +kernel⟩⟩

theorem witness_RingSweep :
  (∃ (s : State) (r : Fin 4), s.stringUp = true ∧ ringRuns s r ((s.frameNo + 1) % 4294967296) = true ∧ s.drivesSync = true ∧ ((s.frameNo + 1) % 4294967296
      : Nat) % s.obj (0x3010 + r) 10 = 0)
  ∧ (∃ (s : State) (r : Fin 4), s.stringUp = true ∧ (ringRuns s r ((s.frameNo + 1) % 4294967296) = false ∨ ((s.frameNo + 1) % 4294967296 : Nat) % s.obj
      (0x3010 + r) 10 ≠ 0))
  ∧ (∃ (s : State) (r : Fin 4), s.stringUp = true ∧ ringRuns s r s.frameNo = true ∧ (s.ring r).broken = false ∧ s.objN (0x3010 + r) 10 ≤ 1)
  ∧ (∃ (s : State) (r : Fin 4) (p : Fin 2) (m b : List Byte) (v : BitVec 16) (q : RingRead) (u : RingUnit) (hop n : Nat) (at_ : Int), s.stringUp = true ∧ 2
      ≤ ringSt s r ∧ (m.headD 0#8) = 2#8 ∧ splitBlocks 24 (m.drop (14 + (m.getD 5 0#8).toNat)) = [b] ∧ (s.ring r).reads.find? (fun x => x.seq == (m.getD 3
          0#8).toNat) = some q ∧ hop = (if q.port = 0 then (b.getD 1 0#8).toNat else (s.ring r).hmax + 1 - (b.getD 1 0#8).toNat) ∧ 0 < hop ∧ blockCrc b =
              true ∧ ringUnit s r hop = some u ∧ getLe b 2 2 = identDigest u.ident ∧ (b.headD 0#8).toNat / 16 = 8 ∧ (b.getD 5 0#8).toNat.testBit 6 = false
                  ∧ (s.ring r).syncs.head? = some (n, at_) ∧ (b.getD 4 0#8).toNat = n % 256)
  ∧ (∃ (s : State) (r : Fin 4) (p : Fin 2) (m : List Byte) (v : BitVec 16), s.stringUp = true ∧ ringSt s r < 1 ∧ (s.lane (20 + r)).elems = [])
  ∧ (∃ (s : State) (r : Fin 4) (p : Fin 2) (m : List Byte) (v : BitVec 16), s.stringUp = true ∧ ringSt s r = 1 ∧ (s.lane (20 + r)).elems = [])
  ∧ (∃ (s : State) (r : Fin 4) (p : Fin 2), s.stringUp = true ∧ (s.ring r).reads ≠ [] ∧ (s.ring r).broken = false)
  ∧ (∃ (s : State) (r : Fin 4) (p : Fin 2), s.stringUp = true ∧ (s.ring r).reads = [])
  ∧ (∃ (s : State) (r : Fin 4) (p : Fin 2), s.stringUp = true ∧ (∃ q ∈ (s.ring r).reads, q.port = p.val) ∧ (s.ring r).broken = false ∧ (s.ring r).detect =
      0 ∧ (s.ring r).dead ≠ 3)
  ∧ (∃ (s : State) (r : Fin 4), s.stringUp = true ∧ ringSt s r ≠ 1 ∧ ringRuns s r s.frameNo = true)
  ∧ (∃ (s : State) (r : Fin 4), s.stringUp = true ∧ ringSt s r = 1) :=
  ⟨⟨st [(0x3012,7,2), (0x2013,0,4294967295), (0x3012,10,2)], 2, by decide +kernel⟩,
   ⟨st [(0x3012,7,1)], 2, by decide +kernel⟩,
   ⟨st [(0x3013,7,2), (0x3013,10,1)], 3, by decide +kernel⟩,
   ⟨{ st [(0x3013,7,2), (0x2013,0,265)] with rings := { ring := [(3, { hmax := 4, units := [⟨2, 77, some 2, none, 0, 0, 0, 0⟩], reads := [⟨1, 5, 4⟩], syncs := [(265, 100)] })] } }, 3, 1, ([2#8, 0#8, 0#8, 5#8, 0#8, 1#8] ++ List.replicate 9 0#8 ++ (crcd ([0x80#8, 3#8] ++ leBytes 2 (identDigest 77) ++ [9#8, 0#8] ++ List.replicate 62 0#8))), (crcd ([0x80#8, 3#8] ++ leBytes 2 (identDigest 77) ++ [9#8, 0#8] ++ List.replicate 62 0#8)), 0, ⟨1, 5, 4⟩, ⟨2, 77, some 2, none, 0, 0, 0, 0⟩, 2, 265, 100, by decide +kernel⟩,
   ⟨State.reset, 3, 1, [], 0, by decide +kernel⟩,
   ⟨st [(0x3010,7,1)], 0, 1, [], 0, by decide +kernel⟩,
   ⟨{ st [] with rings := { ring := [(3, { reads := [⟨0, 1, 1⟩] })] } }, 3, 0, by decide +kernel⟩,
   ⟨State.reset, 0, 1, by decide +kernel⟩,
   ⟨{ st [] with rings := { ring := [(3, { reads := [⟨1, 1, 1⟩], dead := 2 })] } }, 3, 1, by decide +kernel⟩,
   ⟨st [(0x3010,7,3)], 0, by decide +kernel⟩,
   ⟨st [(0x3013,7,1)], 3, by decide +kernel⟩⟩

theorem witness_RingControl :
  (∃ (s : State) (r : Fin 4) (e w : List EnumUnit) (pt : BitVec 32), s.stringUp = true ∧ ringOn s r = true ∧ ringSt s r = 1 ∧ badBlocks e = 0 ∧ e.length ≤
      12 ∧ e.length + otherUnits s r ≤ 40)
  ∧ (∃ (s : State) (r : Fin 4) (e w : List EnumUnit) (pt : BitVec 32), s.stringUp = true ∧ ringOn s r = true ∧ ringSt s r = 1 ∧ badBlocks e = 0 ∧ 12 <
      e.length)
  ∧ (∃ (s : State) (r : Fin 4) (e w : List EnumUnit) (pt : BitVec 32), s.stringUp = true ∧ ringOn s r = true ∧ ringSt s r = 1 ∧ badBlocks e ≠ 0)
  ∧ (∃ (s : State) (r : Fin 4) (b : Bool) (e w : List EnumUnit) (pt : BitVec 32), s.stringUp = true ∧ ringOn s r = false)
  ∧ (∃ (s : State) (r : Fin 4), s.hostUp = true ∧ ringOn s r = true)
  ∧ (∃ (s : State) (r : Fin 4) (p : Fin 2) (v d : Nat), s.stringUp = true ∧ (s.ring r).rateTo = some (v, d) ∧ d ||| 2 ^ p.val = 3)
  ∧ (∃ (s : State) (r : Fin 4) (p : Fin 2) (v d : Nat), s.stringUp = true ∧ (s.ring r).rateTo = some (v, d) ∧ d ||| 2 ^ p.val ≠ 3)
  ∧ (∃ (s : State) (r : Fin 4), s.hostUp = true ∧ s.obj (0x3010 + r) 3 ≠ 0)
  ∧ (∃ (s : State) (r : Fin 4) (v : BitVec 8), s.hostUp = true ∧ v.toNat ≤ 2)
  ∧ (∃ (s : State) (r : Fin 4) (v : BitVec 8), s.hostUp = true ∧ 2 < v.toNat)
  ∧ (∃ (s : State) (r : Fin 4) (p : Fin 2) (b : List Byte), s.stringUp = true ∧ faultStands s = false)
  ∧ (∃ (s : State) (r : Fin 4) (b : List Byte), s.hostUp = true ∧ (b.length < 16 ∨ crc32c (b.take (b.length - 4)) ≠ getLe b (b.length - 4) 4))
  ∧ (∃ (s : State) (r : Fin 4) (b : List Byte) (k : Nat), s.hostUp = true ∧ 16 ≤ b.length ∧ crc32c (b.take (b.length - 4)) = getLe b (b.length - 4) 4 ∧
      authSlot s r (getLe b 2 2) = some k ∧ getLe b 0 1 = 0xC2)
  ∧ (∃ (s : State) (k : Fin 40), s.hostUp = true ∧ ((s.auth k).stage = 2 ∨ (s.auth k).stage = 4 ∨ (s.auth k).stage = 6))
  ∧ (∃ (s : State) (k : Fin 40), s.hostUp = true ∧ s.isActive = true ∧ slotUsed s k = true ∧ slotLive s k = true ∧ (s.auth k).stage = 0)
  ∧ (∃ (s : State), s.hostUp = true ∧ s.isActive = false) :=
  ⟨⟨st [(0x3000,1,8), (0x3013,7,1)], 3, (enumList 12), [], 500, by decide +kernel⟩,
   ⟨st [(0x3000,1,8), (0x3013,7,1)], 3, (enumList 13), [], 500, by decide +kernel⟩,
   ⟨st [(0x3000,1,8), (0x3013,7,1)], 3, [⟨[], 1600⟩], [], 500, by decide +kernel⟩,
   ⟨st [(0x3000,1,7)], 3, true, [], [], 0, by decide +kernel⟩,
   ⟨st [(0x3000,1,1)], 0, by decide +kernel⟩,
   ⟨{ st [] with rings := { ring := [(3, { rateTo := some (2, 1) })] } }, 3, 1, 2, 1, by decide +kernel⟩,
   ⟨{ st [] with rings := { ring := [(3, { rateTo := some (2, 1) })] } }, 3, 0, 2, 1, by decide +kernel⟩,
   ⟨st [(0x3010,3,2)], 0, by decide +kernel⟩,
   ⟨State.reset, 3, 2, by decide +kernel⟩,
   ⟨State.reset, 0, 3, by decide +kernel⟩,
   ⟨atC 20000 { st [] with safe := { bol := { faultC := some 0 } } }, 3, 1, [], by decide +kernel⟩,
   ⟨State.reset, 0, List.replicate 16 1#8, by decide +kernel⟩,
   ⟨{ st [(0x3127,1,3), (0x3127,6,77)] with rings := { auth := [(39, { stage := 2 })] } }, 3, (crcd ([0xC2#8, 0#8] ++ leBytes 2 (identDigest 77) ++
       List.replicate 132 7#8)), 39, by decide +kernel⟩,
   ⟨{ st [] with rings := { auth := [(39, { stage := 6 })] } }, 39, by decide +kernel⟩,
   ⟨st [(0x3127,1,3), (0x3013,7,2), (0x3127,14,3)], 39, by decide +kernel⟩,
   ⟨pairSt [], by decide +kernel⟩⟩

theorem witness_FrontEnd :
  (∃ (s : State) (j : Fin 16) (iS iH vS vL : ChanPair), s.stringUp = true ∧ s.runs = true)
  ∧ (∃ (s : State) (iS iH vS vL : ChanWindows), s.stringUp = true ∧ (s.chan 2).on = 0 ∧ (s.chan 2).a.bad = false ∧ crossing (s.chan 2) 2 ((s.frameNo +
      4294967295) % 4294967296) = false)
  ∧ (∃ (s : State) (c : Fin 2), s.hostUp = true ∧ s.pwr.warning = false ∧ entryFails s = false ∧ calReason s (c + 2) = 0 ∧ (c = 0 → s.obj 0x3430 13 = 0 →
      restedMinute s = true))
  ∧ (∃ (s : State) (c : Fin 2), s.hostUp = true ∧ s.pwr.warning = false ∧ entryFails s = false ∧ calReason s (c + 2) ≠ 0)
  ∧ (∃ (s : State) (c : Fin 2) (x : DivCal), s.hostUp = true ∧ s.cells.cals.find? (fun p => p.1 == c.val + 2) = some (c.val + 2, x) ∧ x.fail = 0 ∧
      calFrames s (c + 2) ≤ x.n ∧ x.raw ≠ 0)
  ∧ (∃ (s : State) (c : Fin 2) (x : DivCal), s.hostUp = true ∧ s.cells.cals.find? (fun p => p.1 == c.val + 2) = some (c.val + 2, x) ∧ x.fail ≠ 0)
  ∧ (∃ (s : State) (c : Fin 2), s.hostUp = true ∧ s.pwr.warning = false ∧ entryFails s = false)
  ∧ (∃ (s : State) (c : Fin 2), s.cells.accept = [c.val + 2])
  ∧ (∃ (s : State) (k : Fin 8), s.hostUp = true ∧ s.runs = true ∧ k.val < 5 ∧ s.objB (0x3461 + k) 6 = true ∧ 4096 ≤ (s.check (k + 1)).n)
  ∧ (∃ (s : State) (k : Fin 8), s.hostUp = true ∧ (s.runs = false ∨ s.objB (0x3461 + k) 6 = false ∨ (k.val < 5 ∧ (s.check (k + 1)).n < 4096)))
  ∧ (∃ (s : State) (k : Fin 8), s.hostUp = true ∧ s.runs = true ∧ 5 ≤ k.val ∧ s.objB (0x3461 + k) 6 = true ∧ s.obj 0x5400 17 = 2)
  ∧ (∃ (s : State), s.hostUp = true ∧ s.pwr.warning = false ∧ entryFails s = false)
  ∧ (∃ (s : State) (k : Fin 8), s.hostUp = true ∧ (k = 0 ∨ k = 2))
  ∧ (∃ (s : State) (k : Fin 8), s.hostUp = true ∧ s.pwr.warning = false ∧ entryFails s = false ∧ k ≠ 0 ∧ k ≠ 2 ∧ writtenVal s (0x3461 + k) 6 ≠ 1)
  ∧ (∃ (s : State) (k : Fin 8), s.hostUp = true ∧ s.pwr.warning = false ∧ entryFails s = false ∧ k ≠ 0 ∧ k ≠ 2 ∧ writtenVal s (0x3461 + k) 6 = 1)
  ∧ (∃ (s : State) (j : Fin 16) (iS iH vS vL : ChanPair), s.runs = false) :=
  ⟨⟨State.reset, 15, ⟨1#32, 3#32⟩, ⟨1#32, 3#32⟩, ⟨1#32, 3#32⟩, ⟨1#32, 3#32⟩, by decide +kernel⟩,
   ⟨st [(0x2013,0,15)], ⟨[1#32, 3#32], [1#32, 3#32]⟩, ⟨[1#32, 3#32], [1#32, 3#32]⟩, ⟨[1#32, 3#32], [1#32, 3#32]⟩, ⟨[1#32, 3#32], [1#32, 3#32]⟩,
       by decide +kernel⟩,
   ⟨st [(0x3430,5,1), (0x3430,13,100)], 0, by decide +kernel⟩,
   ⟨State.reset, 1, by decide +kernel⟩,
   ⟨{ st [(0x3440,13,1)] with cells := { cals := [(3, { ref := 2, raw := 1, n := 4096 })] } }, 1, { ref := 2, raw := 1, n := 4096 }, by decide +kernel⟩,
   ⟨{ st [] with cells := { cals := [(2, { fail := 4 })] } }, 0, { fail := 4 }, by decide +kernel⟩,
   ⟨State.reset, 1, by decide +kernel⟩,
   ⟨{ st [] with cells := { accept := [3] } }, 1, by decide +kernel⟩,
   ⟨{ st [(0x3465,6,1)] with cells := { checks := [(5, { sum := 9, soft := 8, n := 4096 })] } }, 4, by decide +kernel⟩,
   ⟨{ st [(0x3461,6,1)] with cells := { checks := [(1, { n := 4095 })] } }, 0, by decide +kernel⟩,
   ⟨{ st [(0x3466,6,1), (0x5400,17,2)] with cells := { baseReq := [6] } }, 5, by decide +kernel⟩,
   ⟨State.reset, by decide +kernel⟩,
   ⟨State.reset, 2, by decide +kernel⟩,
   ⟨State.reset, 7, by decide +kernel⟩,
   ⟨{ st [] with host := { due := [⟨0x3468, 6, 1, [1#8], .eop, false, 1, 0, 0⟩] } }, 7, by decide +kernel⟩,
   ⟨pairSt [], 3, ⟨1#32, 3#32⟩, ⟨1#32, 3#32⟩, ⟨1#32, 3#32⟩, ⟨1#32, 3#32⟩, by decide +kernel⟩⟩

theorem witness_CellCommands :
  (∃ (s : State) (k : Fin 40), s.hostUp = true ∧ s.profile ≠ 3 ∧ slotUsed s k = true)
  ∧ (∃ (s : State), s.hostUp = true ∧ s.profile = 3)
  ∧ (∃ (s : State) (k : Fin 40), s.hostUp = true ∧ s.profile ≠ 3 ∧ slotUsed s k = true)
  ∧ (∃ (s : State) (k : Fin 40) (b c : Nat), s.hostUp = true ∧ resultReady s k = some (b, c))
  ∧ (∃ (s : State) (k : Fin 40), s.hostUp = true ∧ resultReady s k = none)
  ∧ (∃ (s : State), s.hostUp = true ∧ s.cells.window = 1)
  ∧ (∃ (s : State), s.hostUp = true ∧ s.cells.window ≠ 1)
  ∧ (∃ (s : State), s.hostUp = true ∧ s.cells.window = 1)
  ∧ (∃ (s : State), s.hostUp = true ∧ s.cells.window = 3)
  ∧ (∃ (s : State), s.hostUp = true ∧ s.cells.window = 2)
  ∧ (∃ (s : State) (k : Fin 4) (l : List Byte) (n : Nat), s.hostUp = true ∧ ocvBad l = some n)
  ∧ (∃ (s : State) (k : Fin 4) (l : List Byte), s.hostUp = true ∧ ocvBad l = none)
  ∧ (∃ (s : State) (k : Fin 4) (l : List Byte), s.cells.tablesDue = [(k.val, l)])
  ∧ (∃ (s : State), s.hostUp = true ∧ absR (srcCurrent s) < restAmps s)
  ∧ (∃ (s : State), s.hostUp = true ∧ restAmps s ≤ absR (srcCurrent s))
  ∧ (∃ (s : State), s.cells.align = true)
  ∧ (∃ (s : State) (c : Nat) (a b : Rat), s.hostUp = true ∧ s.cells.step = some (c, a, b) ∧ stepsAllowed s = true ∧ s.runs = true ∧ s.obj 0x4060 2 *
      1000000000 ≤ elapsedNs s.clk c s.clk.c)
  ∧ (∃ (s : State), s.hostUp = true ∧ s.cells.step = none) :=
  ⟨⟨st [(0x3127,1,3)], 39, by decide +kernel⟩,
   ⟨st [(0x2002,0,3)], by decide +kernel⟩,
   ⟨st [(0x3100,1,0)], 0, by decide +kernel⟩,
   ⟨{ st [] with cells := { wires := [(39, { sel5 := some (10, 5), sel6 := some (257, 6), taps := 1 })] } }, 39, 65546, 1, by decide +kernel⟩,
   ⟨State.reset, 39, by decide +kernel⟩,
   ⟨{ st [] with cells := { window := 1 } }, by decide +kernel⟩,
   ⟨{ st [] with cells := { window := 3 } }, by decide +kernel⟩,
   ⟨{ st [] with cells := { window := 1 } }, by decide +kernel⟩,
   ⟨{ st [] with cells := { window := 3 } }, by decide +kernel⟩,
   ⟨{ st [] with cells := { window := 2 } }, by decide +kernel⟩,
   ⟨State.reset, 3, [], 0, by decide +kernel⟩,
   ⟨State.reset, 3, ocvFlat, by decide +kernel, ocvFlat_ok⟩,
   ⟨{ st [] with cells := { tablesDue := [(3, [5#8])] } }, 3, [5#8], by decide +kernel⟩,
   ⟨st [(0x4010,1,1), (0x4000,1,1000)], by decide +kernel⟩,
   ⟨st [(0x4010,1,0)], by decide +kernel⟩,
   ⟨{ st [(0x3100,1,0), (0x3100,5,1)] with cells := { align := true, cells := [(1, { est := true, z := 5, zd := 4 })] } }, by decide +kernel⟩,
   ⟨atC 250000000 { st [(0x4060,2,1)] with cells := { step := some (0, 1, 2) } }, 0, 1, 2, by decide +kernel⟩,
   ⟨State.reset, by decide +kernel⟩⟩

theorem witness_CellMemory :
  (∃ (s : State), s.hostUp = true ∧ s.pwr.warning = false)
  ∧ (∃ (s : State), s.hostUp = true ∧ s.pwr.warning = true)
  ∧ (∃ (s : State), s.hostUp = true ∧ (s.lane 43).elems.length < 16)
  ∧ (∃ (s : State), s.hostUp = true ∧ 16 ≤ (s.lane 43).elems.length)
  ∧ (∃ (s : State) (v : BitVec 16), s.hostUp = true ∧ s.pwr.warning = false ∧ entryFails s = false ∧ ((1 ≤ v.toNat ∧ v.toNat ≤ s.cellCount) ∨ v.toNat =
      65535))
  ∧ (∃ (s : State) (v : BitVec 16), s.hostUp = true ∧ ¬ ((1 ≤ v.toNat ∧ v.toNat ≤ s.cellCount) ∨ v.toNat = 65535))
  ∧ (∃ (s : State) (k : Nat) (l : List Elem), s.hostUp = true ∧ takeCommit s (s.lane 43).elems = some (.nums [7, k], l))
  ∧ (∃ (s : State) (n : Nat) (l : List Elem), s.hostUp = true ∧ takeCommit s (s.lane 43).elems = some (.nums [6, n], l))
  ∧ (∃ (s : State) (k : Nat) (l : List Elem), s.hostUp = true ∧ takeCommit s (s.lane 43).elems = some (.nums [7, k], l))
  ∧ (∃ (s : State) (rb : Bool), s.hostUp = true ∧ takeCommit s (s.lane 43).elems = none)
  ∧ (∃ (s : State) (n : Nat), s.hostUp = true ∧ s.obj 0x4600 1 ≠ 0 ∧ 1 ≤ n ∧ n ≤ s.cellCount ∧ eligible s n = false)
  ∧ (∃ (s : State), s.hostUp = true ∧ s.obj 0x4600 1 = 0) :=
  ⟨⟨State.reset, by decide +kernel⟩,
   ⟨{ st [] with pwr := { warning := true } }, by decide +kernel⟩,
   ⟨laneSt 43 (List.replicate 15 (.nums [6, 1])) State.reset, by decide +kernel⟩,
   ⟨laneSt 43 (List.replicate 16 (.nums [6, 1])) State.reset, by decide +kernel⟩,
   ⟨State.reset, 65535, by decide +kernel⟩,
   ⟨State.reset, 0, by decide +kernel⟩,
   ⟨laneSt 43 [.nums [7, 15]] State.reset, 15, [], by decide +kernel⟩,
   ⟨laneSt 43 [.nums [6, 0]] State.reset, 0, [], by decide +kernel⟩,
   ⟨laneSt 43 [.nums [7, 0], .nums [6, 1]] State.reset, 0, [.nums [6, 1]], by decide +kernel⟩,
   ⟨State.reset, true, by decide +kernel⟩,
   ⟨st [(0x4600,1,1), (0x3100,1,0), (0x3100,5,1)], 1, by decide +kernel⟩,
   ⟨st [(0x4600,1,0)], by decide +kernel⟩⟩

theorem witness_LoopRules :
  (∃ (s : State) (j : Fin 16), s.stringUp = true ∧ s.runs = true ∧ (slotElem s (s.lane 13).elems 12 j).isSome = true)
  ∧ (∃ (s : State) (j : Fin 16), s.stringUp = true ∧ s.runs = true ∧ slotElem s (s.lane 13).elems 12 j = none)
  ∧ (∃ (s : State) (j : Fin 16), s.stringUp = true ∧ s.runs = true ∧ slotElem s (s.lane 13).elems 12 j = none)
  ∧ (∃ (s : State) (j : Fin 16), s.runs = false)
  ∧ (∃ (s : State) (l : Fin 16) (j : Nat) (r f st lo hi : Int), lo = (toLoopFrac (loopLimits s l).1 (uScale s l)).1 ∧ hi = (toLoopFrac (loopLimits s l).2
      (uScale s l)).1 ∧ lo ≤ hi)
  ∧ (∃ (s : State) (l : Fin 16) (j : Nat), (s.loop l).det.next ≠ 1 ∧ (s.loop l).det.hold = 3)
  ∧ (∃ (s : State) (l : Fin 16) (j : Nat), (s.loop l).det.next ≠ 1 ∧ (s.loop l).det.hold = 2)
  ∧ (∃ (s : State) (l : Fin 16), s.hostUp = true ∧ commitRefused s l = true)
  ∧ (∃ (s : State) (l : Fin 16), s.hostUp = true ∧ commitRefused s l = false)
  ∧ (∃ (s : State) (l : Fin 16), s.hostUp = true ∧ commitRefused s l = false)
  ∧ (∃ (s : State) (l : Fin 16), s.stringUp = true ∧ s.objN (0x5100 + l) 16 ≤ (s.loop l).bad.1 ∧ s.objN (0x5100 + l) 16 ≤ (s.loop l).bad.2)
  ∧ (∃ (s : State) (l : Fin 16), s.hostUp = true ∧ (s.loop l).det.hold ≠ 0)
  ∧ (∃ (s : State) (l : Fin 16), s.hostUp = true ∧ (s.loop l).det.hold = 0) :=
  ⟨⟨laneSt 13 [.bytes (List.replicate 12 1#8 ++ [7#8, 0#8, 0#8, 0#8])] State.reset, 7, by decide +kernel⟩,
   ⟨State.reset, 7, by decide +kernel⟩,
   ⟨State.reset, 0, by decide +kernel⟩,
   ⟨pairSt [], 7, by decide +kernel⟩,
   ⟨st [(0x510F,12,f32Word 1), (0x510F,13,f32Word (-1)), (0x510F,11,f32Word 2)], 15, 7, 8388607, -8388608, 0, (toLoopFrac (-1) 2).1, (toLoopFrac 1 2).1,
       by decide +kernel⟩,
   ⟨{ st [] with av := { loops := [(15, { det := { hold := 3 } })] } }, 15, 7, by decide +kernel⟩,
   ⟨{ st [] with av := { loops := [(0, { det := { hold := 2 } })] } }, 0, 0, by decide +kernel⟩,
   ⟨st [(0x548F,6,1), (0x510F,3,1), (0x5200,4,8388608)], 15, by decide +kernel⟩,
   ⟨State.reset, 15, by decide +kernel⟩,
   ⟨st [(0x5480,6,1)], 0, by decide +kernel⟩,
   ⟨{ st [(0x5100,16,4)] with av := { loops := [(0, { bad := (4, 5) })] } }, 0, by decide +kernel⟩,
   ⟨{ st [] with av := { loops := [(15, { det := { hold := 1 } })] } }, 15, by decide +kernel⟩,
   ⟨State.reset, 15, by decide +kernel⟩⟩

theorem witness_SignalCommands :
  (∃ (s : State) (i : Fin 2) (c : BitVec 64), s.stringUp = true ∧ (s.obj (0x5010 + i) 1 = 3 ∨ s.obj (0x5010 + i) 1 = 4))
  ∧ (∃ (s : State) (i : Fin 2) (c : BitVec 64), s.stringUp = true ∧ (s.obj (0x5010 + i) 1 = 3 ∨ s.obj (0x5010 + i) 1 = 4))
  ∧ (∃ (s : State) (i : Fin 2) (b : Bool) (c : BitVec 64), s.stringUp = true ∧ s.obj (0x5010 + i) 1 ≠ 3 ∧ s.obj (0x5010 + i) 1 ≠ 4)
  ∧ (∃ (s : State) (i : Fin 2), s.stringUp = true ∧ (s.obj (0x5010 + i) 1 = 3 ∨ s.obj (0x5010 + i) 1 = 4) ∧ (∀ r, (s.input i).rises.head? = some r → s.obj
      (0x5010 + i) 5 * 1000000 ≤ elapsedNs s.clk r s.clk.c))
  ∧ (∃ (s : State), s.hostUp = true ∧ s.profile = 5 ∧ injRuns s = false ∧ injBounds s (injMode s) (injTarget s) = true)
  ∧ (∃ (s : State), s.hostUp = true ∧ s.profile = 5 ∧ injRuns s = false ∧ injBounds s (injMode s) (injTarget s) = false)
  ∧ (∃ (s : State), s.hostUp = true ∧ (s.profile ≠ 5 ∨ injRuns s = true))
  ∧ (∃ (s : State), s.hostUp = true ∧ (s.obj 0x5400 17 = 1 ∨ s.obj 0x5400 17 = 2))
  ∧ (∃ (s : State), s.stringUp = true ∧ s.av.inj.sched = true ∧ injRuns s = false ∧ s.av.inj.dueNs ≤ s.now / 65536 ∧ s.now / 65536 < s.av.inj.dueNs + s.obj
      0x5400 13 * 1000000000 ∧ (s.profile = 0 ∨ s.profile = 5) ∧ injBounds s (injMode s) (injTarget s) = true)
  ∧ (∃ (s : State), s.stringUp = true ∧ s.av.inj.sched = true ∧ injRuns s = false ∧ s.av.inj.dueNs ≤ s.now / 65536 ∧ s.now / 65536 < s.av.inj.dueNs + s.obj
      0x5400 13 * 1000000000 ∧ s.profile ≠ 0 ∧ s.profile ≠ 5)
  ∧ (∃ (s : State), s.stringUp = true ∧ (s.av.inj.sched = false ∨ s.now / 65536 < s.av.inj.dueNs))
  ∧ (∃ (s : State) (t0 : Int), s.stringUp = true ∧ s.av.inj.startNs = some t0 ∧ injRuns s = true ∧ s.av.inj.survey = false ∧ t0 + s.obj 0x5400 13 *
      1000000000 ≤ s.now / 65536)
  ∧ (∃ (s : State), s.hostUp = true ∧ s.obj 0x5440 8 ≠ 5 ∧ s.av.snap = none)
  ∧ (∃ (s : State), s.hostUp = true ∧ (s.obj 0x5440 8 = 5 ∨ s.av.snap.isSome = true))
  ∧ (∃ (s : State), s.hostUp = true ∧ (s.obj 0x5440 8 = 1 ∨ s.obj 0x5440 8 = 2))
  ∧ (∃ (s : State), s.hostUp = true ∧ s.obj 0x5440 8 = 1 ∧ s.obj 0x5440 4 = 0)
  ∧ (∃ (s : State), s.stringUp = true ∧ s.av.snap = none ∧ s.obj 0x5440 8 = 2 ∧ s.av.cap.after = some ((captureLen s).1 - (captureLen s).2))
  ∧ (∃ (s : State) (c : Capture), s.stringUp = true ∧ s.av.snap = some c ∧ c.after = some snapshotPost)
  ∧ (∃ (s : State), s.hostUp = true ∧ s.obj 0x5440 8 = 5) :=
  ⟨⟨st [(0x5011,1,4)], 1, 100, by decide +kernel⟩,
   ⟨st [(0x5010,1,3)], 0, 100, by decide +kernel⟩,
   ⟨st [(0x5010,1,2)], 0, true, 5, by decide +kernel⟩,
   ⟨st [(0x5010,1,3)], 0, by decide +kernel, by decide +kernel, fun _ h => nomatch h⟩,
   ⟨st [(0x2002,0,5), (0x5400,2,1), (0x5400,3,15), (0x5400,5,100)], by decide +kernel⟩,
   ⟨st [(0x2002,0,5), (0x5400,2,5)], by decide +kernel⟩,
   ⟨st [(0x2002,0,5), (0x5400,17,2)], by decide +kernel⟩,
   ⟨st [(0x5400,17,1)], by decide +kernel⟩,
   ⟨{ st [(0x5400,17,1), (0x5400,2,1), (0x5400,3,0), (0x5400,5,100), (0x5400,13,1)] with av := { inj := { sched := true } } }, by decide +kernel⟩,
   ⟨{ st [(0x5400,17,1), (0x2002,0,3), (0x5400,13,1)] with av := { inj := { sched := true } } }, by decide +kernel⟩,
   ⟨State.reset, by decide +kernel⟩,
   ⟨atC 250000000 { st [(0x5400,17,2), (0x5400,13,1)] with av := { inj := { startNs := some 0 } } }, 0, by decide +kernel⟩,
   ⟨State.reset, by decide +kernel⟩,
   ⟨{ st [] with av := { snap := some {} } }, by decide +kernel⟩,
   ⟨st [(0x5440,8,2)], by decide +kernel⟩,
   ⟨st [(0x5440,8,1)], by decide +kernel⟩,
   ⟨{ st [(0x5440,8,2), (0x5440,1,0), (0x5440,3,100)] with av := { cap := { after := some 0 } } }, by decide +kernel⟩,
   ⟨{ st [] with av := { snap := some { after := some snapshotPost } } }, { after := some snapshotPost }, by decide +kernel⟩,
   ⟨st [(0x5440,8,5)], by decide +kernel⟩⟩

theorem witness_ConverterLink :
  (∃ (s : State) (j : Fin 16) (sp ch di rep : Int) (l : List Elem), s.stringUp = true ∧ s.drives = true ∧ s.av.conv.epochDue = false ∧ (s.lane 5).elems = l
      ++ [.nums [sp, ch, di, j, rep]])
  ∧ (∃ (s : State) (j : Fin 16), s.stringUp = true ∧ s.drives = false)
  ∧ (∃ (s : State) (b : List Byte), s.stringUp = true ∧ (b.length ≠ 24 ∨ crc32c (b.take 20) ≠ getLe b 20 4))
  ∧ (∃ (s : State) (b : List Byte), s.stringUp = true ∧ b.length = 24 ∧ crc32c (b.take 20) = getLe b 20 4 ∧ getLe b 0 1 = 0x52 ∧ s.av.conv.sent.any (fun p
      => p.2 == getLe b 1 1 % 8 && p.1 % 65536 == getLe b 16 2) = true)
  ∧ (∃ (s : State) (j : Fin 16) (q : Nat × Nat), s.stringUp = true ∧ s.av.conv.sent.find? (fun p => p.2 == j.val) = some q)
  ∧ (∃ (s : State) (j : Fin 16), s.stringUp = true ∧ s.av.conv.sent.find? (fun p => p.2 == j.val) = none) :=
  ⟨⟨laneSt 5 [.nums [1, 2, 3, 7, 0]] { st [] with av := { conv := { epochDue := false } } }, 7, 1, 2, 3, 0, [], by decide +kernel⟩,
   ⟨pairSt [], 0, by decide +kernel⟩,
   ⟨State.reset, List.replicate 24 1#8, by decide +kernel⟩,
   ⟨{ st [] with av := { conv := { sent := [(9, 7)], good := 7 } } }, (crcd ([0x52#8, 7#8] ++ List.replicate 14 0#8 ++ [9#8, 0#8, 0#8, 0#8])),
       by decide +kernel⟩,
   ⟨{ st [] with av := { conv := { sent := [(9, 7)] } } }, 7, (9, 7), by decide +kernel⟩,
   ⟨State.reset, 0, by decide +kernel⟩⟩

theorem witness_SliproadChannels :
  (∃ (s : State) (j : Fin 16), s.stringUp = true ∧ s.runs = true)
  ∧ (∃ (s : State) (c : Fin 2) (t : Int), (s.slip c).gear = none)
  ∧ (∃ (s : State) (c : Fin 4) (v : Rat) (t : Int), s.obj (0x5810 + c) 1 ≠ 0 ∧ (2 ≤ c.val → s.obj (0x583E + c) 15 = 5))
  ∧ (∃ (s : State) (c : Fin 4), s.hostUp = true ∧ (s.slip c).stop = 0)
  ∧ (∃ (s : State) (c : Fin 4), s.hostUp = true ∧ 1 ≤ (s.slip c).stop)
  ∧ (∃ (s : State) (c : Fin 4), s.hostUp = true ∧ (s.slip c).stop = 1 ∧ shutHolds s c = false)
  ∧ (∃ (s : State) (c : Fin 4), s.hostUp = true ∧ ((s.slip c).stop ≠ 1 ∨ shutHolds s c = true))
  ∧ (∃ (s : State) (c : Fin 2), s.hostUp = true ∧ s.obj 0x5011 1 = 3 ∧ bitOf (s.obj 0x5011 9) 0 = true)
  ∧ (∃ (s : State) (c : Fin 2), s.hostUp = true ∧ (s.obj 0x5011 1 ≠ 3 ∨ bitOf (s.obj 0x5011 9) 0 = false)) :=
  ⟨⟨State.reset, 15, by decide +kernel⟩,
   ⟨State.reset, 1, 5, by decide +kernel⟩,
   ⟨st [(0x5813,1,1), (0x5841,15,5)], 3, 7, 0, by decide +kernel⟩,
   ⟨State.reset, 3, by decide +kernel⟩,
   ⟨{ st [] with slips := [(3, { stop := 2 })] }, 3, by decide +kernel⟩,
   ⟨{ st [] with slips := [(3, { stop := 1 })] }, 3, by decide +kernel⟩,
   ⟨{ st [] with slips := [(3, { stop := 2 })] }, 3, by decide +kernel⟩,
   ⟨st [(0x5011,1,3), (0x5011,9,1)], 1, by decide +kernel⟩,
   ⟨st [(0x5011,1,3)], 0, by decide +kernel⟩⟩

theorem witness_ValveHoming :
  (∃ (s : State) (v : Fin 2), s.hostUp = true ∧ (s.obj (0x5840 + v) 15 = 0 ∨ s.obj (0x5840 + v) 15 = 6) ∧ s.obj (0x5840 + v) 19 = 0 ∧ s.obj (0x5810 + (v +
      2)) 1 ≠ 0)
  ∧ (∃ (s : State) (v : Fin 2), s.hostUp = true ∧ ((s.obj (0x5840 + v) 15 ≠ 0 ∧ s.obj (0x5840 + v) 15 ≠ 6) ∨ s.obj (0x5840 + v) 19 ≠ 0 ∨ s.obj (0x5810 + (v
      + 2)) 1 = 0))
  ∧ (∃ (s : State) (v : Fin 2) (n : Fin 8), s.stringUp = true ∧ s.objN (0x5840 + v) 4 = n.val ∧ s.obj (0x5840 + v) 15 = 3)
  ∧ (∃ (s : State) (v : Fin 2) (n : Fin 8), s.stringUp = true ∧ s.objN (0x5840 + v) 4 = n.val ∧ s.obj (0x5840 + v) 15 = 5 ∧ (slipAt (s.slip (v + 2)) (s.now
      / 65536)).2.2 ≠ 0)
  ∧ (∃ (s : State) (v : Fin 2) (c : Nat), s.stringUp = true ∧ (s.valve v).since = some c ∧ s.obj (0x5840 + v) 15 = 4 ∧ s.obj (0x5840 + v) 11 * 1000000 ≤
      elapsedNs s.clk c s.clk.c)
  ∧ (∃ (s : State) (v : Fin 2), s.stringUp = true ∧ ((s.valve v).since = none ∨ s.obj (0x5840 + v) 15 ≠ 4))
  ∧ (∃ (s : State) (v : Fin 2) (c : Nat), s.stringUp = true ∧ (s.valve v).captured = some c ∧ s.obj (0x5840 + v) 15 = 4 ∧ s.obj (0x5840 + v) 12 * 1000000 ≤
      elapsedNs s.clk c s.clk.c)
  ∧ (∃ (s : State) (v : Fin 2), s.stringUp = true ∧ s.obj (0x5840 + v) 3 * 1000000 ≤ elapsedNs s.clk (s.valve v).stepC s.clk.c)
  ∧ (∃ (s : State) (v : Fin 2), s.stringUp = true ∧ elapsedNs s.clk (s.valve v).stepC s.clk.c < s.obj (0x5840 + v) 3 * 1000000)
  ∧ (∃ (s : State) (v : Fin 2) (w : BitVec 4), s.stringUp = true ∧ w ≠ 0) :=
  ⟨⟨st [(0x5841,15,6), (0x5813,1,1)], 1, by decide +kernel⟩,
   ⟨st [(0x5841,15,1)], 1, by decide +kernel⟩,
   ⟨st [(0x5841,15,3), (0x5841,4,3)], 1, 3, by decide +kernel⟩,
   ⟨{ st [(0x5841,15,5), (0x5841,4,3)] with slips := [(3, { segs := [⟨3, 0, 1000000000, 0, 1, 0⟩], fin := 5, vel := 1 })] }, 1, 3, by decide +kernel⟩,
   ⟨atC 250000000 { st [(0x5841,15,4), (0x5841,11,1000)] with valves := [(1, { since := some 0 })] }, 1, 0, by decide +kernel⟩,
   ⟨State.reset, 0, by decide +kernel⟩,
   ⟨atC 250000000 { st [(0x5841,15,4), (0x5841,12,1000)] with valves := [(1, { captured := some 0 })] }, 1, 0, by decide +kernel⟩,
   ⟨atC 250000000 (st [(0x5840,3,1000)]), 0, by decide +kernel⟩,
   ⟨atC 249999999 (st [(0x5840,3,1000)]), 0, by decide +kernel⟩,
   ⟨State.reset, 1, 15, by decide +kernel⟩⟩

theorem witness_Throttling :
  (∃ (s : State), s.hostUp = true ∧ s.obj 0x6050 8 = 1 ∧ s.therm.grace.isSome = true ∧ s.therm.met = false)
  ∧ (∃ (s : State), s.hostUp = true ∧ (s.obj 0x6050 8 ≠ 1 ∨ s.therm.grace = none ∨ s.therm.met = true))
  ∧ (∃ (s : State), s.hostUp = true ∧ s.obj 0x6050 8 = 1 ∧ s.therm.met = true ∧ s.therm.above.isSome = true)
  ∧ (∃ (s : State), s.hostUp = true ∧ (s.obj 0x6050 8 ≠ 1 ∨ s.therm.met = false ∨ s.therm.above = none))
  ∧ (∃ (s : State), s.therm.enforce = true ∧ s.obj 0x6050 8 = 1)
  ∧ (∃ (s : State), s.hostUp = true ∧ s.therm.clearFrom.isSome = true ∧ s.obj 0x6050 8 = 1)
  ∧ (∃ (s : State), s.hostUp = true ∧ s.therm.clearFrom.isSome = true ∧ s.obj 0x6050 8 = 2)
  ∧ (∃ (s : State), s.hostUp = true ∧ s.therm.clearFrom = none)
  ∧ (∃ (s : State), s.hostUp = true ∧ s.obj 0x6050 8 = 3)
  ∧ (∃ (s : State), s.hostUp = true ∧ s.obj 0x6050 8 ≠ 3)
  ∧ (∃ (s : State), s.therm.enforce = false ∧ s.therm.ack = true ∧ s.obj 0x6050 8 = 3)
  ∧ (∃ (s : State), s.hostUp = true ∧ s.obj 0x6050 8 ≠ 0)
  ∧ (∃ (s : State), s.hostUp = true ∧ s.obj 0x6050 8 = 0)
  ∧ (∃ (s : State), s.objB 0x6040 2 = false ∧ (s.obj 0x6040 1 < -400 ∨ 1440 < s.obj 0x6040 1)) :=
  ⟨⟨{ st [(0x6050,8,1)] with therm := { grace := some 0 } }, by decide +kernel⟩,
   ⟨{ st [(0x6050,8,1)] with therm := { grace := some 0, met := true } }, by decide +kernel⟩,
   ⟨{ st [(0x6050,8,1)] with therm := { met := true, above := some 0 } }, by decide +kernel⟩,
   ⟨{ st [(0x6050,8,1)] with therm := { met := true } }, by decide +kernel⟩,
   ⟨{ st [(0x6050,8,1)] with therm := { enforce := true } }, by decide +kernel⟩,
   ⟨{ st [(0x6050,8,1)] with therm := { clearFrom := some 0 } }, by decide +kernel⟩,
   ⟨{ st [(0x6050,8,2)] with therm := { clearFrom := some 0 } }, by decide +kernel⟩,
   ⟨State.reset, by decide +kernel⟩,
   ⟨st [(0x6050,8,3)], by decide +kernel⟩,
   ⟨st [(0x6050,8,2)], by decide +kernel⟩,
   ⟨{ st [(0x6050,8,3)] with therm := { ack := true } }, by decide +kernel⟩,
   ⟨st [(0x6050,8,1)], by decide +kernel⟩,
   ⟨State.reset, by decide +kernel⟩,
   ⟨st [(0x6040,1,1441)], by decide +kernel⟩⟩

theorem witness_OrderlyShutdown :
  (∃ (s : State), s.hostUp = true ∧ bitOf (s.obj 0x6000 1) 4 = false)
  ∧ (∃ (s : State), s.hostUp = true ∧ bitOf (s.obj 0x6000 1) 4 = true)
  ∧ (∃ (s : State), s.hostUp = true ∧ s.obj 0x6060 6 = 1 ∧ (slipAt (s.slip 0) (s.now / 65536)).1 = 0)
  ∧ (∃ (s : State), s.hostUp = true ∧ (s.obj 0x6060 6 ≠ 1 ∨ (slipAt (s.slip 0) (s.now / 65536)).1 ≠ 0))
  ∧ (∃ (s : State), s.hostUp = true ∧ s.obj 0x6060 6 = 2 ∧ s.obj 0x6060 4 ≤ s.therm.zero)
  ∧ (∃ (s : State), s.hostUp = true ∧ (s.obj 0x6060 6 ≠ 2 ∨ (s.therm.zero : Int) < s.obj 0x6060 4))
  ∧ (∃ (s : State), s.hostUp = true ∧ s.obj 0x6060 6 = 3)
  ∧ (∃ (s : State), s.hostUp = true ∧ s.obj 0x6060 6 ≠ 3)
  ∧ (∃ (s : State), s.hostUp = true ∧ s.obj 0x6060 6 = 4 ∧ flushLeft s = false)
  ∧ (∃ (s : State), s.hostUp = true ∧ s.obj 0x6060 6 ≠ 4)
  ∧ (∃ (s : State), s.hostUp = true ∧ (s.obj 0x6060 6 = 1 ∨ s.obj 0x6060 6 = 2))
  ∧ (∃ (s : State), s.hostUp = true ∧ s.obj 0x6060 6 ≠ 1 ∧ s.obj 0x6060 6 ≠ 2) :=
  ⟨⟨State.reset, by decide +kernel⟩,
   ⟨st [(0x6000,1,16)], by decide +kernel⟩,
   ⟨st [(0x6060,6,1)], by decide +kernel⟩,
   ⟨st [(0x6060,6,2)], by decide +kernel⟩,
   ⟨{ st [(0x6060,6,2), (0x6060,4,4)] with therm := { zero := 4 } }, by decide +kernel⟩,
   ⟨{ st [(0x6060,6,2), (0x6060,4,4)] with therm := { zero := 3 } }, by decide +kernel⟩,
   ⟨st [(0x6060,6,3)], by decide +kernel⟩,
   ⟨st [(0x6060,6,4)], by decide +kernel⟩,
   ⟨st [(0x6060,6,4)], by decide +kernel⟩,
   ⟨st [(0x6060,6,5)], by decide +kernel⟩,
   ⟨st [(0x6060,6,2)], by decide +kernel⟩,
   ⟨st [(0x6060,6,3)], by decide +kernel⟩⟩

theorem witness_BollardTrips :
  (∃ (s : State) (k : Fin 4) (v : BitVec 32), s.stringUp = true ∧ configured s = true ∧ s.safe.bol.beyond.testBit k = false ∧ compareOver (threshold s k)
      (f32Value v.toNat) k false = true)
  ∧ (∃ (s : State) (k : Fin 4) (v : BitVec 32), s.stringUp = true ∧ configured s = true ∧ compareOver (threshold s k) (f32Value v.toNat) k
      (s.safe.bol.beyond.testBit k) = false)
  ∧ (∃ (s : State) (k : Fin 4) (v : BitVec 32), s.stringUp = true ∧ configured s = false)
  ∧ (∃ (s : State), s.stringUp = true ∧ s.pairOn = true ∧ latched s 5 = false)
  ∧ (∃ (s : State), s.stringUp = true ∧ s.pairOn = false)
  ∧ (∃ (s : State), s.stringUp = true ∧ s.safe.bol.permitSeen = true ∧ s.safe.bol.trip = false)
  ∧ (∃ (s : State), s.stringUp = true ∧ (s.safe.bol.permitSeen = false ∨ s.safe.bol.trip = true))
  ∧ (∃ (s : State), s.stringUp = true ∧ s.safe.bol.diag.testBit 0 = false)
  ∧ (∃ (s : State) (k : Fin 8), s.stringUp = true ∧ s.safe.bol.diag.testBit 2 = false) :=
  ⟨⟨{ st [(0x6820,1,1)] with safe := { bol := { thresholds := [0, 0, 0, 1065353216] } } }, 3, 1056964608, by decide +kernel⟩,
   ⟨{ st [(0x6820,1,1)] with safe := { bol := { thresholds := [0, 0, 0, 1065353216], beyond := 8 } } }, 3, 1082130432, by decide +kernel⟩,
   ⟨State.reset, 0, 1065353216, by decide +kernel⟩,
   ⟨pairSt [], by decide +kernel⟩,
   ⟨State.reset, by decide +kernel⟩,
   ⟨{ st [] with safe := { bol := { permitSeen := true } } }, by decide +kernel⟩,
   ⟨{ st [] with safe := { bol := { permitSeen := true, trip := true } } }, by decide +kernel⟩,
   ⟨State.reset, by decide +kernel⟩,
   ⟨State.reset, 7, by decide +kernel⟩⟩

theorem witness_GuardTrips :
  (∃ (s : State) (co sh : BitVec 4) (ho rb os : Bool) (i : Rat), s.stringUp = true ∧ s.obj 0x2040 1 ≠ 0 ∧ (guardCurrents (s.lane 15).elems).1 = some i ∧
      s.objF 0x6810 1 + s.objF 0x6810 3 < i)
  ∧ (∃ (s : State) (co sh : BitVec 4) (ho rb os : Bool), s.stringUp = true ∧ s.obj 0x2040 1 = 0)
  ∧ (∃ (s : State), s.stringUp = true ∧ s.safe.guard.discFrom.isSome = true ∧ s.safe.guard.degraded = none)
  ∧ (∃ (s : State), s.stringUp = true ∧ s.safe.guard.discFrom = none)
  ∧ (∃ (s : State), s.stringUp = true ∧ s.safe.guard.degraded.isSome = true ∧ latched s 17 = false)
  ∧ (∃ (s : State), s.stringUp = true ∧ s.safe.guard.degraded = none)
  ∧ (∃ (s : State), s.stringUp = true ∧ s.safe.guard.degraded.isSome = true ∧ s.safe.guard.calmFrom.isSome = true)
  ∧ (∃ (s : State), s.stringUp = true ∧ (s.safe.guard.degraded = none ∨ s.safe.guard.calmFrom = none))
  ∧ (∃ (s : State) (n : Nat), s.stringUp = true ∧ configured s = true ∧ s.profile ≠ 3 ∧ slvMissing s true = some n)
  ∧ (∃ (s : State) (k : Nat), s.stringUp = true ∧ guardRuns s = true ∧ s.profile ≠ 3 ∧ sltMissing s = some k)
  ∧ (∃ (s : State), s.stringUp = true ∧ (configured s = false ∨ s.profile = 3))
  ∧ (∃ (s : State), s.stringUp = true ∧ (s.obj 0x2040 1 = 0 ∨ s.profile = 3))
  ∧ (∃ (s : State) (v : BitVec 8), s.hostUp = true ∧ v.toNat ≤ 3)
  ∧ (∃ (s : State) (v : BitVec 8), s.hostUp = true ∧ 3 < v.toNat)
  ∧ (∃ (s : State), s.safe.guard.ssi.testBit 22 = true ∧ latched s 22 = false)
  ∧ (∃ (s : State), s.stringUp = true ∧ s.objB 0x6870 4 = true ∧ s.obj 0x2040 1 ≠ 0)
  ∧ (∃ (s : State), s.stringUp = true ∧ (s.objB 0x6870 4 = false ∨ s.obj 0x2040 1 = 0)) :=
  ⟨⟨laneSt 15 [.bytes (crcd (List.replicate 12 0#8 ++ leBytes 4 1120403456 ++ List.replicate 4 0#8 ++ [1#8, 0#8, 0#8, 0#8]))] (st [(0x2040,1,3)]), 0, 0,
      false, false, false, 100, by decide +kernel⟩,
   ⟨st [(0x6820,1,1), (0x2040,1,0)], 15, 15, true, true, true, by decide +kernel⟩,
   ⟨{ st [] with safe := { guard := { discFrom := some 5 } } }, by decide +kernel⟩,
   ⟨State.reset, by decide +kernel⟩,
   ⟨{ st [] with safe := { guard := { degraded := some 5 } } }, by decide +kernel⟩,
   ⟨State.reset, by decide +kernel⟩,
   ⟨{ st [] with safe := { guard := { degraded := some 5, calmFrom := some 6 } } }, by decide +kernel⟩,
   ⟨{ st [] with safe := { guard := { degraded := some 5 } } }, by decide +kernel⟩,
   ⟨atC 1000000000 (st [(0x6820,1,1), (0x6820,3,4000), (0x3100,1,0), (0x3100,5,1), (0x3100,4,1)]), 1, by decide +kernel⟩,
   ⟨atC 1000000000 (st [(0x2040,1,1), (0x6830,3,4), (0x3127,1,0), (0x3127,5,1), (0x3127,4,1)]), 39, by decide +kernel⟩,
   ⟨st [(0x6820,1,1), (0x2002,0,3)], by decide +kernel⟩,
   ⟨st [(0x2040,1,0)], by decide +kernel⟩,
   ⟨State.reset, 3, by decide +kernel⟩,
   ⟨State.reset, 4, by decide +kernel⟩,
   ⟨{ st [] with safe := { guard := { ssi := 4194304 } } }, by decide +kernel⟩,
   ⟨st [(0x6870,4,1), (0x2040,1,1)], by decide +kernel⟩,
   ⟨st [(0x6870,4,1), (0x2040,1,0)], by decide +kernel⟩⟩

theorem witness_SafetyReset :
  (∃ (s : State), s.stringUp = true ∧ s.safe.bol.rst.high = false)
  ∧ (∃ (s : State), s.stringUp = true ∧ s.safe.bol.rst.high = true)
  ∧ (∃ (s : State), s.stringUp = true ∧ s.safe.bol.rst.high = true ∧ s.safe.bol.rst.stuck = none ∧ s.safe.bol.rst.ready = true ∧ 110000000 ≤ elapsedNs
      s.clk s.safe.bol.rst.riseC s.clk.c ∧ elapsedNs s.clk s.safe.bol.rst.riseC s.clk.c ≤ 1900000000 ∧ 0 < s.obj 0x6801 0 ∧ s.obj 0x6801 0 < 16777216 ∧ (∀
          b < 24, latched s b = true → bitOf s.safe.bol.rst.causes b = true ∧ causeEnded s b = true))
  ∧ (∃ (s : State), s.stringUp = true ∧ s.safe.bol.rst.high = true ∧ s.safe.bol.rst.stuck = none ∧ s.safe.bol.rst.ready = true ∧ elapsedNs s.clk
      s.safe.bol.rst.riseC s.clk.c < 90000000)
  ∧ (∃ (s : State), s.stringUp = true ∧ s.safe.bol.rst.high = false)
  ∧ (∃ (s : State), s.stringUp = true ∧ s.safe.bol.rst.high = true ∧ s.safe.bol.rst.stuck = none)
  ∧ (∃ (s : State), s.stringUp = true ∧ (s.safe.bol.rst.high = false ∨ s.safe.bol.rst.stuck.isSome = true))
  ∧ (∃ (s : State), s.stringUp = true ∧ s.safe.bol.rst.high = false ∧ s.safe.bol.rst.stuck.isSome = true)
  ∧ (∃ (s : State), s.stringUp = true ∧ (s.safe.bol.rst.high = true ∨ s.safe.bol.rst.stuck = none))
  ∧ (∃ (s : State), s.stringUp = true ∧ s.safe.bol.tested = false)
  ∧ (∃ (s : State) (x : Nat × Int), s.stringUp = true ∧ s.safe.bol.tested = true ∧ s.safe.bol.test = some x)
  ∧ (∃ (s : State) (f : BitVec 8), s.stringUp = true ∧ f ≠ 0 ∧ s.safe.bol.tested = false)
  ∧ (∃ (s : State), s.hostUp = true ∧ (∀ w, writeOf s 0x6870 2 = some w → w.origin = .eop) ∧ s.objB 0x6870 1 = false)
  ∧ (∃ (s : State), s.hostUp = true ∧ (∀ w, writeOf s 0x6870 2 = some w → w.origin = .eop) ∧ s.objB 0x6870 1 = true ∧ (latchedBollard s = true ∨ latched s
      23 = true))
  ∧ (∃ (s : State), s.hostUp = true ∧ (∀ w, writeOf s 0x6870 2 = some w → w.origin = .eop) ∧ s.objB 0x6870 1 = true ∧ latchedBollard s = false ∧ latched s
      23 = false ∧ 0 < s.obj 0x6801 0 ∧ s.obj 0x6801 0 < 16777216 ∧ (∀ b < 24, latched s b = true → causeEnded s b = true))
  ∧ (∃ (s : State) (c src : Nat) (m : Int), s.stringUp = true ∧ s.safe.bol.edge = some (c, src, m) ∧ s.obj 0x6801 0 = 32 ∧ elapsedNs s.clk c s.clk.c ≤
      10000000)
  ∧ (∃ (s : State) (p : List Byte), s.hostUp = true ∧ s.pwr.warning = false ∧ entryFails s = false ∧ passwordOk p = true ∧ s.log.derived = [] ∧ s.obj
      0x2040 1 = 1)
  ∧ (∃ (s : State) (p : List Byte), s.hostUp = true ∧ passwordOk p = false)
  ∧ (∃ (s : State) (p : List Byte), s.hostUp = true ∧ passwordOk p = true ∧ s.log.derived ≠ [] ∧ s.host.due = [] ∧ s.host.batch = [] ∧ s.host.eop.safety =
      false)
  ∧ (∃ (s : State) (w : WriteReq), s.hostUp = true ∧ writeOf s 0x6870 2 = some w ∧ w.origin ≠ .eop) :=
  ⟨⟨State.reset, by decide +kernel⟩,
   ⟨atC 0 { st [] with safe := { bol := { rst := { high := true } } } }, by decide +kernel⟩,
   ⟨atC 27500000 { st [(0x6801,0,8)] with safe := { bol := { rst := { high := true, ready := true, causes := 8 } } } }, by decide +kernel⟩,
   ⟨atC 22499999 { st [(0x6801,0,8)] with safe := { bol := { rst := { high := true, ready := true } } } }, by decide +kernel⟩,
   ⟨State.reset, by decide +kernel⟩,
   ⟨atC 0 { st [] with safe := { bol := { rst := { high := true } } } }, by decide +kernel⟩,
   ⟨atC 0 { st [] with safe := { bol := { rst := { high := true, stuck := some 3 } } } }, by decide +kernel⟩,
   ⟨atC 0 { st [] with safe := { bol := { rst := { stuck := some 3 } } } }, by decide +kernel⟩,
   ⟨State.reset, by decide +kernel⟩,
   ⟨State.reset, by decide +kernel⟩,
   ⟨atC 0 { st [] with safe := { bol := { tested := true, test := some (1, 8) } } }, (1, 8), by decide +kernel⟩,
   ⟨State.reset, 1, by decide +kernel⟩,
   ⟨State.reset, by decide +kernel⟩,
   ⟨st [(0x6870,1,1), (0x6801,0,128)], by decide +kernel⟩,
   ⟨st [(0x6870,1,1), (0x6801,0,4194304)], by decide +kernel⟩,
   ⟨atC 2500000 { st [(0x6801,0,32)] with safe := { bol := { edge := some (0, 1, 8) } } }, 0, 1, 8, by decide +kernel⟩,
   ⟨st [(0x2040,1,1)], List.replicate 8 0x21#8, by decide +kernel⟩,
   ⟨State.reset, List.replicate 7 0x21#8, by decide +kernel⟩,
   ⟨{ st [] with log := { derived := [1#8] } }, List.replicate 16 0x7E#8, by decide +kernel⟩,
   ⟨{ st [] with host := { due := [⟨0x6870, 2, 1, [1#8], .alley, false, 0, 0, 0⟩] } }, ⟨0x6870, 2, 1, [1#8], .alley, false, 0, 0, 0⟩, by decide +kernel⟩⟩

theorem witness_ContactorSequence :
  (∃ (s : State), s.hostUp = true ∧ mayClose s = true ∧ s.obj 0x6880 1 = 0 ∧ s.safe.con.rearm = true ∧ s.obj 0x6880 4 = 0)
  ∧ (∃ (s : State), s.safe.con.closing = true ∧ s.safe.con.opening = false ∧ mayClose s = true ∧ s.obj 0x6880 4 = 0)
  ∧ (∃ (s : State), s.hostUp = true ∧ mayClose s = false)
  ∧ (∃ (s : State), s.safe.con.opening = true ∧ s.safe.con.closing = false ∧ (s.safe.con.atZero = false ∨ s.frame.restFrom.isSome = true))
  ∧ (∃ (s : State), s.stringUp = true ∧ s.obj 0x6880 4 = 1)
  ∧ (∃ (s : State), s.stringUp = true ∧ s.obj 0x6880 4 = 3)
  ∧ (∃ (s : State), s.stringUp = true ∧ s.obj 0x6880 4 ≠ 1 ∧ s.obj 0x6880 4 ≠ 3)
  ∧ (∃ (s : State), s.stringUp = true ∧ s.obj 0x6880 4 = 2)
  ∧ (∃ (s : State), s.stringUp = true ∧ s.obj 0x6880 4 ≠ 2)
  ∧ (∃ (s : State), s.stringUp = true ∧ s.obj 0x6880 4 = 2)
  ∧ (∃ (s : State) (k : Fin 4), s.stringUp = true ∧ lowOn s (k + 1) = true)
  ∧ (∃ (s : State) (k : Fin 4), s.stringUp = true ∧ lowOn s (k + 1) = false)
  ∧ (∃ (s : State) (n : Nat), s.stringUp = true ∧ s.safe.con.weld = some n)
  ∧ (∃ (s : State), s.stringUp = true ∧ s.safe.con.weld = none) :=
  ⟨⟨st [(0x2040,1,3), (0x6800,1,0)], by decide +kernel⟩,
   ⟨{ st [(0x2040,1,3), (0x6800,1,0)] with safe := { con := { closing := true } } }, by decide +kernel⟩,
   ⟨State.reset, by decide +kernel⟩,
   ⟨{ st [] with safe := { con := { opening := true } } }, by decide +kernel⟩,
   ⟨st [(0x6880,4,1)], by decide +kernel⟩,
   ⟨st [(0x6880,4,3)], by decide +kernel⟩,
   ⟨st [(0x6880,4,2)], by decide +kernel⟩,
   ⟨st [(0x6880,4,2)], by decide +kernel⟩,
   ⟨st [(0x6880,4,3)], by decide +kernel⟩,
   ⟨st [(0x6880,4,2)], by decide +kernel⟩,
   ⟨{ st [] with safe := { con := { low := 8 } } }, 3, by decide +kernel⟩,
   ⟨{ st [] with safe := { con := { low := 7 } } }, 3, by decide +kernel⟩,
   ⟨{ st [] with safe := { con := { weld := some 3 } } }, 3, by decide +kernel⟩,
   ⟨State.reset, by decide +kernel⟩⟩

theorem witness_FootbridgeTraffic :
  (∃ (s : State) (l : Fin 2) (a b : List Byte), s.pairOn = false)
  ∧ (∃ (s : State), s.hostUp = true ∧ s.pairOn = true ∧ s.duplex.armed = true ∧ fbUp s 0 = true ∧ fbUp s 1 = true)
  ∧ (∃ (s : State), s.duplex.armed = false)
  ∧ (∃ (s : State) (l : Fin 2) (b : List Byte), s.hostUp = true ∧ s.pairOn = true ∧ (b.length ≠ 32 ∨ crc32c (b.take 28) ≠ getLe b 28 4))
  ∧ (∃ (s : State) (l : Fin 2) (b : List Byte), s.hostUp = true ∧ s.pairOn = true ∧ b.length = 32 ∧ crc32c (b.take 28) = getLe b 28 4 ∧ getLe b 0 2 =
      0xF0B0 ∧ getLe b 4 4 ≠ s.frameNo ∧ s.duplex.misSeen ≠ some (getLe b 4 4))
  ∧ (∃ (s : State) (l : Fin 2) (b : List Byte), s.hostUp = true ∧ s.pairOn = true ∧ b.length = 32 ∧ crc32c (b.take 28) = getLe b 28 4 ∧ getLe b 0 2 =
      0xF0B0 ∧ getLe b 4 4 = s.frameNo ∧ s.duplex.beatFrame ≠ some s.frameNo ∧ -(s.tf / 4) ≤ s.now / 65536 - s.frame.sAt - 3000 ∧ s.now / 65536 -
          s.frame.sAt - 3000 ≤ s.tf / 4)
  ∧ (∃ (s : State) (l : Fin 2), s.hostUp = true ∧ s.pairOn = true ∧ fbUp s l = false)
  ∧ (∃ (s : State) (l : Fin 2), fbUp s l = true)
  ∧ (∃ (s : State) (l : Fin 2), s.hostUp = true ∧ s.pairOn = true ∧ s.obj 0x7008 1 = 3)
  ∧ (∃ (s : State) (l : Fin 2), fbUp s l = false)
  ∧ (∃ (s : State) (l : Fin 2), s.hostUp = true ∧ s.pairOn = true ∧ s.obj 0x7008 1 = 2 ^ l.val ∧ s.obj 0x7001 0 = 3 ∧ s.obj 0x5600 7 = 0 ∧ s.duplex.yield =
      none)
  ∧ (∃ (s : State) (l : Fin 2), s.hostUp = true ∧ s.pairOn = true ∧ s.obj 0x7008 1 = 2 ^ l.val ∧ s.obj 0x7001 0 = 1 ∧ s.obj 0x7009 1 = 1)
  ∧ (∃ (s : State), s.hostUp = true ∧ s.pairOn = true ∧ s.drives = true ∧ windowLate s 5 = false ∧ fbUp s 0 = true ∧ fbUp s 1 = true)
  ∧ (∃ (s : State), (s.drives = false ∨ windowLate s 5 = true))
  ∧ (∃ (s : State) (a b : List Byte), s.hostUp = true ∧ s.pairOn = true ∧ (s.obj 0x7001 0 = 1 ∨ s.obj 0x7001 0 = 2 ∨ s.obj 0x7001 0 = 4) ∧ a ≠ [] ∧ b ≠ []
      ∧ commonGood a = false ∧ commonGood b = false)
  ∧ (∃ (s : State) (a b : List Byte), s.hostUp = true ∧ s.pairOn = true ∧ (s.obj 0x7001 0 = 1 ∨ s.obj 0x7001 0 = 2 ∨ s.obj 0x7001 0 = 4) ∧ commonGood a =
      true)
  ∧ (∃ (s : State) (l : Fin 2) (b : List Byte), s.hostUp = true ∧ s.pairOn = true ∧ (b.length ≠ 4100 ∨ crc32c (b.take 4096) ≠ getLe b 4096 4))
  ∧ (∃ (s : State) (l : Fin 2) (b : List Byte) (need j : Nat), s.hostUp = true ∧ s.pairOn = true ∧ b.length = 4100 ∧ crc32c (b.take 4096) = getLe b 4096 4
      ∧ getLe b 0 2 = 0xF0B2 ∧ getLe b 2 1 = 0 ∧ s.obj 0x7001 0 = 1 ∧ s.obj 0x7009 1 = 1 ∧ s.duplex.pullHead = some (getLe b 12 4, need) ∧
          s.duplex.pull.any (fun p => p.1 == getLe b 4 4) = false ∧ j < blocksOf need ∧ j ≠ getLe b 4 4 ∧ s.duplex.pull.any (fun p => p.1 == j) = false)
  ∧ (∃ (s : State), s.hostUp = true ∧ s.pairOn = true ∧ s.isActive = true ∧ s.obj 0x7008 1 ≠ 0 ∧ bulkSent s < bulkRate s ∧ partnerHeard s = true ∧
      s.duplex.beat.role = 1 ∧ s.duplex.beat.pulled = false)
  ∧ (∃ (s : State), bulkRate s ≤ bulkSent s)
  ∧ (∃ (s : State) (a b : List Byte), s.hostUp = true ∧ s.pairOn = true ∧ (s.obj 0x7001 0 = 0 ∨ s.obj 0x7001 0 = 3) ∧ a ≠ [] ∧ b ≠ [] ∧ commonGood a =
      false ∧ commonGood b = false) :=
  ⟨⟨State.reset, 0, [], [], by decide +kernel⟩,
   ⟨{ pairSt [(0x7008,1,3)] with duplex := { armed := true } }, by decide +kernel⟩,
   ⟨State.reset, by decide +kernel⟩,
   ⟨pairSt [], 1, List.replicate 32 1#8, by decide +kernel⟩,
   ⟨pairSt [], 0, (crcd (leBytes 2 0xF0B0 ++ [0x12#8, 3#8] ++ leBytes 4 1 ++ leBytes 4 6 ++ List.replicate 16 0#8)), by decide +kernel⟩,
   ⟨{ pairSt [] with frame := { sAt := -3000 } }, 1, (crcd (leBytes 2 0xF0B0 ++ [0x12#8, 3#8] ++ leBytes 4 0 ++ leBytes 4 6 ++ List.replicate 16 0#8)),
       by decide +kernel⟩,
   ⟨pairSt [], 1, by decide +kernel⟩,
   ⟨pairSt [(0x7008,1,2)], 1, by decide +kernel⟩,
   ⟨pairSt [(0x7008,1,3)], 1, by decide +kernel⟩,
   ⟨State.reset, 0, by decide +kernel⟩,
   ⟨pairSt [(0x7008,1,2), (0x7001,0,3)], 1, by decide +kernel⟩,
   ⟨{ pairSt [(0x7008,1,1), (0x7001,0,1), (0x7009,1,1)] with duplex := { broken := 2 } }, 0, by decide +kernel⟩,
   ⟨pairSt [(0x7008,1,3), (0x7001,0,3)], by decide +kernel⟩,
   ⟨{ st [] with frame := { late := [5] } }, by decide +kernel⟩,
   ⟨pairSt [(0x7001,0,4)], [1#8], [1#8], by decide +kernel⟩,
   ⟨{ pairSt [(0x7001,0,2)] with duplex := { mirrorSeen := true, mirrorSeq := 3 } }, (crcd (leBytes 2 0xF0B1 ++ List.replicate 2 0#8 ++ leBytes 4 5 ++
       leBytes 4 8 ++ List.replicate 48 0#8) ++ crcd (List.replicate 1024 0#8) ++ crcd (List.replicate 248 0#8)), [], by decide +kernel⟩,
   ⟨pairSt [], 1, [1#8], by decide +kernel⟩,
   ⟨{ pairSt [(0x7001,0,1), (0x7009,1,1)] with duplex := { pullHead := some (9, 8129) } }, 1, (crcd (leBytes 2 0xF0B2 ++ [0#8, 0#8] ++ leBytes 4 1 ++
       List.replicate 4 0#8 ++ leBytes 4 9 ++ leBytes 2 4064 ++ List.replicate 4078 0#8)), 8129, 2, by decide +kernel⟩,
   ⟨{ pairSt [(0x7008,1,1), (0x7001,0,3)] with duplex := { beatFrame := some 0, beat := { role := 1 } } }, by decide +kernel⟩,
   ⟨{ pairSt [(0x7000,8,2)] with duplex := { served := (0, 2) } }, by decide +kernel⟩,
   ⟨pairSt [(0x7001,0,3)], [1#8], [1#8], by decide +kernel⟩⟩

theorem witness_PairComparison :
  (∃ (s : State), s.pairOn = true ∧ s.obj 0x7001 0 = 2 ∧ s.obj 0x7006 1 < 4294967295)
  ∧ (∃ (s : State), s.pairOn = true ∧ s.obj 0x7001 0 = 2 ∧ s.obj 0x7006 2 < 255)
  ∧ (∃ (s : State), s.pairOn = true ∧ s.obj 0x7001 0 = 1 ∧ s.obj 0x7009 1 = 2)
  ∧ (∃ (s : State), s.hostUp = true ∧ s.pairOn = true ∧ s.obj 0x7001 0 = 1 ∧ s.obj 0x7009 1 = 2 ∧ s.obj 0x7000 7 ≤ s.obj 0x7009 3)
  ∧ (∃ (s : State), s.hostUp = true ∧ (s.obj 0x7009 1 ≠ 2 ∨ s.obj 0x7009 3 < s.obj 0x7000 7))
  ∧ (∃ (s : State), s.hostUp = true ∧ s.pairOn = true ∧ s.obj 0x7001 0 = 4 ∧ s.duplex.mirrorFrame ≠ some ((s.frameNo + 4294967295) % 4294967296))
  ∧ (∃ (s : State), s.hostUp = true ∧ s.pairOn = true ∧ s.obj 0x7001 0 = 2 ∧ s.duplex.mirrorFrame ≠ some ((s.frameNo + 4294967295) % 4294967296))
  ∧ (∃ (s : State), s.duplex.mirrorFrame = some ((s.frameNo + 4294967295) % 4294967296)) :=
  ⟨⟨pairSt [(0x7001,0,2), (0x7006,1,4294967294)], by decide +kernel⟩,
   ⟨pairSt [(0x7001,0,2), (0x7006,2,2), (0x7000,4,3)], by decide +kernel⟩,
   ⟨{ pairSt [(0x7001,0,1), (0x7009,1,2)] with duplex := { restarts := 15 } }, by decide +kernel⟩,
   ⟨pairSt [(0x7001,0,1), (0x7009,1,2), (0x7009,3,256)], by decide +kernel⟩,
   ⟨pairSt [(0x7009,1,2), (0x7009,3,255)], by decide +kernel⟩,
   ⟨{ pairSt [(0x7001,0,4)] with duplex := { mirrorFrame := some 0 } }, by decide +kernel⟩,
   ⟨pairSt [(0x7001,0,2)], by decide +kernel⟩,
   ⟨{ pairSt [(0x7001,0,2), (0x2013,0,0)] with duplex := { mirrorFrame := some 4294967295 } }, by decide +kernel⟩⟩

theorem witness_PairRoles :
  (∃ (s : State) (m : Nat), s.hostUp = true ∧ s.pairOn = true ∧ s.duplex.beatFrame = some m ∧ m ≠ s.frameNo ∧ s.duplex.missing = 1 ∧ s.obj 0x7001 0 = 2)
  ∧ (∃ (s : State) (m : Nat), s.hostUp = true ∧ s.pairOn = true ∧ s.duplex.beatFrame = some m ∧ m ≠ s.frameNo ∧ s.duplex.missing = 1 ∧ s.obj 0x7001 0 = 3)
  ∧ (∃ (s : State) (m : Nat), s.hostUp = true ∧ s.pairOn = true ∧ s.duplex.beatFrame = some m ∧ m ≠ s.frameNo ∧ s.duplex.missing ≠ 1)
  ∧ (∃ (s : State), s.hostUp = true ∧ s.pairOn = true ∧ s.obj 0x7001 0 = 0 ∧ s.duplex.listen = some 0 ∧ s.duplex.partnerListens = false)
  ∧ (∃ (s : State), s.hostUp = true ∧ s.pairOn = true ∧ s.obj 0x7001 0 = 0 ∧ s.duplex.listen = some 0 ∧ s.duplex.partnerListens = true ∧ partnerHeard s =
      true ∧ preferred s = false)
  ∧ (∃ (s : State), s.duplex.listen ≠ some 0)
  ∧ (∃ (s : State), s.hostUp = true ∧ s.pairOn = true ∧ s.obj 0x7001 0 = 4)
  ∧ (∃ (s : State), s.hostUp = true ∧ s.pairOn = true ∧ s.obj 0x7001 0 ≠ 4)
  ∧ (∃ (s : State), s.hostUp = true ∧ switchRefusal s ≠ 0)
  ∧ (∃ (s : State), s.hostUp = true ∧ switchRefusal s = 0 ∧ s.duplex.handover = none)
  ∧ (∃ (s : State), (s.pairOn = false ∨ s.obj 0x7001 0 ≠ 3 ∨ s.duplex.beat.role ≠ 2))
  ∧ (∃ (s : State), s.hostUp = true ∧ s.pairOn = true ∧ s.obj 0x7001 0 = 1 ∧ s.obj 0x7009 1 = 2 ∧ s.obj 0x7000 7 ≤ s.obj 0x7009 3) :=
  ⟨⟨{ pairSt [(0x7001,0,2), (0x2013,0,9)] with duplex := { beatFrame := some 7, missing := 1 } }, 7, by decide +kernel⟩,
   ⟨{ pairSt [(0x7001,0,3), (0x2013,0,9)] with duplex := { beatFrame := some 7, missing := 1 } }, 7, by decide +kernel⟩,
   ⟨{ pairSt [(0x2013,0,9)] with duplex := { beatFrame := some 8 } }, 8, by decide +kernel⟩,
   ⟨{ pairSt [] with duplex := { listen := some 0 } }, by decide +kernel⟩,
   ⟨{ pairSt [(0x7000,2,1)] with duplex := { listen := some 0, partnerListens := true, beatFrame := some 0 } }, by decide +kernel⟩,
   ⟨State.reset, by decide +kernel⟩,
   ⟨pairSt [(0x7001,0,4)], by decide +kernel⟩,
   ⟨pairSt [(0x7001,0,3)], by decide +kernel⟩,
   ⟨State.reset, by decide +kernel⟩,
   ⟨{ pairSt [(0x7001,0,3), (0x7008,1,1), (0x5600,7,1)] with duplex := { beatFrame := some 0, beat := { role := 2 } } }, by decide +kernel⟩,
   ⟨{ pairSt [(0x7001,0,3)] with duplex := { beat := { role := 1 } } }, by decide +kernel⟩,
   ⟨pairSt [(0x7001,0,1), (0x7009,1,2), (0x7009,3,256)], by decide +kernel⟩⟩

theorem witness_TakeoverEpoch :
  (∃ (s : State) (f : Nat), s.pairOn = true ∧ f + 2 ≤ epochTop s ∧ s.obj 0x7001 1 = 0)
  ∧ (∃ (s : State) (f : Nat), s.pairOn = true ∧ f + 2 ≤ epochTop s ∧ s.obj 0x7001 1 = 1)
  ∧ (∃ (s u : State) (f g : Nat), s.pairOn = true ∧ u.pairOn = true ∧ s.obj 0x7001 1 = 0 ∧ u.obj 0x7001 1 = 1 ∧ f + 2 ≤ epochTop s ∧ g + 2 ≤ epochTop u)
  ∧ (∃ (s : State) (tr : Int), s.pairOn = true ∧ s.obj 0x7001 0 ≠ 3)
  ∧ (∃ (s : State) (tr : Int) (j : Fin 16) (sp ch di rep : Int) (l : List Elem), s.pairOn = true ∧ s.obj 0x7001 0 ≠ 3 ∧ s.frame.released = 0 ∧ s.stringUp =
      true ∧ (s.lane 5).elems = l ++ [.nums [sp, ch, di, j.val, rep]]) :=
  ⟨⟨pairSt [], 4294967292, by decide +kernel⟩,
   ⟨pairSt [(0x7001,1,1)], 4294967293, by decide +kernel⟩,
   ⟨pairSt [], pairSt [(0x7001,1,1)], 4294967292, 1845, by decide +kernel⟩,
   ⟨pairSt [(0x7001,0,2), (0x7001,1,1), (0x5620,1,1844), (0x5620,2,1845)], 0, by decide +kernel⟩,
   ⟨laneSt 5 [.nums [1, 2, 3, 7, 0]] (pairSt [(0x7001,0,2)]), 0, 7, 1, 2, 3, 0, [], by decide +kernel⟩⟩

theorem witness_TaskRuns :
  (∃ (s : State) (im : ProgImage), s.hostUp = true ∧ s.prog.image = some im ∧ im.fastEntry ≠ 0xFFFFFFFF ∧ progRuns s = true ∧ s.runs = true ∧ (s.task
      0).running = false)
  ∧ (∃ (s : State) (im : ProgImage), s.hostUp = true ∧ s.prog.image = some im ∧ im.fastEntry ≠ 0xFFFFFFFF ∧ progRuns s = true ∧ s.runs = true ∧ (s.task
      0).running = true)
  ∧ (∃ (s : State) (im : ProgImage) (k : Fin 4) (e n ph : Nat), s.hostUp = true ∧ s.prog.image = some im ∧ im.slow[k.val]? = some (e, n, ph) ∧ s.frameNo %
      n = ph ∧ progRuns s = true ∧ s.runs = true ∧ (s.task (k.val + 1)).running = false)
  ∧ (∃ (s : State) (im : ProgImage) (k : Fin 4) (e n ph : Nat), s.hostUp = true ∧ s.prog.image = some im ∧ im.slow[k.val]? = some (e, n, ph) ∧ s.frameNo %
      n ≠ ph)
  ∧ (∃ (s : State) (im : ProgImage), s.hostUp = true ∧ s.prog.image = some im ∧ im.backEntry ≠ 0xFFFFFFFF ∧ progRuns s = true ∧ s.runs = true ∧ (s.task
      5).running = false)
  ∧ (∃ (s : State) (k : Fin 6) (w : List RegionWrite), s.hostUp = true ∧ executes s k = true ∧ (∀ x ∈ w, granted s x = true))
  ∧ (∃ (s : State) (k : Fin 6) (w : List RegionWrite) (x : RegionWrite), s.hostUp = true ∧ executes s k = true ∧ x ∈ w ∧ granted s x = false)
  ∧ (∃ (s : State) (k : Fin 6) (w : List RegionWrite), s.hostUp = true ∧ executes s k = false)
  ∧ (∃ (s : State), s.hostUp = true ∧ (s.task 5).running = true ∧ (s.task 5).long = false ∧ s.obj 0xA020 2 * 1000000000 < elapsedNs s.clk (s.task
      5).releaseC s.clk.c)
  ∧ (∃ (s : State) (k : Fin 6), s.hostUp = true ∧ executes s k = true)
  ∧ (∃ (s : State) (k : Fin 6) (code sev : BitVec 32) (data : List Byte), s.hostUp = true ∧ executes s k = true ∧ userCode code.toNat = true ∧ sev.toNat ≤ 3)
  ∧ (∃ (s : State) (k : Fin 6) (code sev : BitVec 32) (data : List Byte), s.hostUp = true ∧ executes s k = true ∧ ¬ (userCode code.toNat = true ∧ sev.toNat
      ≤ 3)) :=
  ⟨⟨atC 0 { st [(0xA000,2,2)] with prog := { image := some img, tasks := [] } }, img, by decide +kernel⟩,
   ⟨atC 0 { st [(0xA000,2,2)] with prog := { image := some img, tasks := [(0, { running := true })] } }, img, by decide +kernel⟩,
   ⟨atC 0 { st [(0xA000,2,2), (0x2013,0,4)] with prog := { image := some img, tasks := [] } }, img, 0, 8, 2, 0, by decide +kernel⟩,
   ⟨atC 0 { st [(0xA000,2,2), (0x2013,0,5)] with prog := { image := some img, tasks := [] } }, img, 0, 8, 2, 0, by decide +kernel⟩,
   ⟨atC 0 { st [(0xA000,2,2)] with prog := { image := some img, tasks := [] } }, img, by decide +kernel⟩,
   ⟨atC 0 { st [] with prog := { image := some img, tasks := [(5, { running := true })] } }, 5, [], by decide +kernel⟩,
   ⟨atC 0 { st [] with prog := { image := some img, tasks := [(5, { running := true })] } }, 5, [⟨0, 0, [1#8]⟩], ⟨0, 0, [1#8]⟩, by decide +kernel⟩,
   ⟨State.reset, 0, [], by decide +kernel⟩,
   ⟨atC 250000001 { st [(0xA020,2,1)] with prog := { image := some img, tasks := [(5, { running := true })] } }, by decide +kernel⟩,
   ⟨atC 0 { st [] with prog := { image := some img, tasks := [(0, { running := true })] } }, 0, by decide +kernel⟩,
   ⟨atC 0 { st [] with prog := { image := some img, tasks := [(5, { running := true })] } }, 5, 0xCFF, 3, [1#8], by decide +kernel⟩,
   ⟨atC 0 { st [] with prog := { image := some img, tasks := [(5, { running := true })] } }, 5, 0xD00, 3, [], by decide +kernel⟩⟩

theorem witness_ProgramStarts :
  (∃ (s : State) (im : ProgImage), s.hostUp = true ∧ s.prog.image = some im ∧ s.obj 0xA000 2 ≠ 4)
  ∧ (∃ (s : State), s.hostUp = true ∧ (s.prog.image = none ∨ s.obj 0xA000 2 = 4))
  ∧ (∃ (s : State) (im : ProgImage), s.hostUp = true ∧ s.prog.image = some im)
  ∧ (∃ (s : State) (k : Fin 6) (cause pc : BitVec 32), s.hostUp = true ∧ executes s k = true)
  ∧ (∃ (s : State) (k : Fin 6) (cause pc : BitVec 32), s.hostUp = true ∧ executes s k = false)
  ∧ (∃ (s : State), s.profile ≠ 4 ∧ s.obj 0xA000 2 = 2) :=
  ⟨⟨progSt (st [(0x2002,0,4)]), img, by decide +kernel⟩,
   ⟨progSt (st [(0xA000,2,4)]), by decide +kernel⟩,
   ⟨progSt State.reset, img, by decide +kernel⟩,
   ⟨atC 0 { st [] with prog := { image := some img, tasks := [(5, { running := true })] } }, 5, 2, 100, by decide +kernel⟩,
   ⟨State.reset, 5, 2, 100, by decide +kernel⟩,
   ⟨st [(0xA000,2,2)], by decide +kernel⟩⟩

theorem witness_ProgramImage :
  (∃ (s : State) (b : List Byte) (r o : Nat), s.hostUp = true ∧ imageBad s b = some (r, o))
  ∧ (∃ (s : State) (b : List Byte), s.hostUp = true ∧ imageBad s b = none)
  ∧ (∃ (s : State) (b : List Byte) (k : Nat), s.hostUp = true ∧ s.prog.fwd = some (b, k) ∧ s.obj 0xA011 1 = 4 ∧ blocksOf b.length ≤ k)
  ∧ (∃ (s : State), s.hostUp = true ∧ (s.prog.checked = none ∨ s.obj 0xA011 1 ≠ 5))
  ∧ (∃ (s : State) (im : ProgImage), s.hostUp = true ∧ s.prog.checked = some im ∧ s.obj 0xA011 1 = 5 ∧ mfConflicts s im = [])
  ∧ (∃ (s : State) (im : ProgImage), s.hostUp = true ∧ s.prog.checked = some im ∧ s.obj 0xA011 1 = 5 ∧ mfConflicts s im ≠ [])
  ∧ (∃ (s : State) (ref : ObjRef) (v : List Byte), s.hostUp = true ∧ symbolAt s ref.index.toNat ref.sub.toNat = none)
  ∧ (∃ (s : State) (ref : ObjRef) (v : List Byte) (y : Symbol), s.hostUp = true ∧ symbolAt s ref.index.toNat ref.sub.toNat = some y ∧ y.flags.testBit 4 =
      false)
  ∧ (∃ (s : State) (ref : ObjRef) (v : List Byte) (y : Symbol), s.hostUp = true ∧ symbolAt s ref.index.toNat ref.sub.toNat = some y ∧ y.flags.testBit 4 =
      true ∧ progRuns s = false ∧ y.region = 1)
  ∧ (∃ (s : State) (ref : ObjRef) (v : BitVec 64), s.hostUp = true ∧ forceReason s (forcedKeys s) 1 ref.index.toNat ref.sub.toNat ≠ 0)
  ∧ (∃ (s : State) (ref : ObjRef) (v : BitVec 64), s.hostUp = true ∧ forceReason s (forcedKeys s) 1 ref.index.toNat ref.sub.toNat = 0 ∧ progRuns s = false)
  ∧ (∃ (s : State) (ref : ObjRef), s.hostUp = true ∧ forceReason s (forcedKeys s) 2 ref.index.toNat ref.sub.toNat ≠ 0)
  ∧ (∃ (s : State) (ref : ObjRef), s.hostUp = true ∧ forceReason s (forcedKeys s) 2 ref.index.toNat ref.sub.toNat = 0 ∧ progRuns s = false)
  ∧ (∃ (s : State), s.hostUp = true ∧ progRuns s = false) :=
  ⟨⟨State.reset, [], 1, 0, by decide +kernel⟩,
   ⟨State.reset, imgFlat, by decide +kernel⟩,
   ⟨{ st [(0xA011,1,4)] with prog := { fwd := some ([1#8], 1) } }, [1#8], 1, by decide +kernel⟩,
   ⟨{ st [(0xA011,1,4)] with prog := { checked := some img } }, by decide +kernel⟩,
   ⟨{ st [(0xA011,1,5)] with prog := { checked := some img } }, img, by decide +kernel⟩,
   ⟨{ st [(0xA011,1,5), (0x2030,1,2)] with prog := { checked := some { img with mfMask := 1 } } }, { img with mfMask := 1 }, by decide +kernel⟩,
   ⟨progSt State.reset, ⟨0x9000, 3⟩, [], by decide +kernel⟩,
   ⟨progSt State.reset, ⟨0x9000, 2⟩, [], ⟨0x9000, 2, 5, 0, 1, 1, 0, 1, 1, []⟩, by decide +kernel⟩,
   ⟨progSt State.reset, ⟨0x9000, 1⟩, [9#8], ⟨0x9000, 1, 5, 0x30, 1, 1, 0, 1, 0, []⟩, by decide +kernel⟩,
   ⟨progSt State.reset, ⟨0x9000, 2⟩, 1, by decide +kernel⟩,
   ⟨progSt State.reset, ⟨0x9000, 1⟩, 1, by decide +kernel⟩,
   ⟨progSt State.reset, ⟨0x9000, 1⟩, by decide +kernel⟩,
   ⟨{ st [] with prog := { image := some img, forces := [⟨[], 5, 0x9000, 1, 3, [(0, 3)], none⟩] } }, ⟨0x9000, 1⟩, by decide +kernel⟩,
   ⟨{ st [] with prog := { image := some img, forces := [⟨[], 5, 0x9000, 1, 3, [(0, 3)], none⟩] } }, by decide +kernel⟩⟩

theorem witness_StationsAndCheckpoint :
  (∃ (s : State) (n : Fin 16) (x : Station), s.hostUp = true ∧ stationOf s (48 + n.val) = some x ∧ stationSilent s x = true ∧ (s.station (48 + n.val)).lost
      = false)
  ∧ (∃ (s : State) (n : Fin 16) (x : Station), s.hostUp = true ∧ stationOf s (48 + n.val) = some x ∧ (stationSilent s x = false ∨ (s.station (48 +
      n.val)).lost = true))
  ∧ (∃ (s : State) (im : ProgImage), s.hostUp = true ∧ s.prog.image = some im)
  ∧ (∃ (s : State) (im : ProgImage) (d : RetCopy), s.hostUp = true ∧ s.prog.image = some im ∧ retNewest s = some d ∧ d.valid = true) :=
  ⟨⟨atC 250000 (progSt State.reset), 0, ⟨48, 0, 0, 0, 0x123, 8, 0, 4, 0, 0, 0, 0⟩, by decide +kernel⟩,
   ⟨atC 249999 (progSt State.reset), 0, ⟨48, 0, 0, 0, 0x123, 8, 0, 4, 0, 0, 0, 0⟩, by decide +kernel⟩,
   ⟨progSt State.reset, img, by decide +kernel⟩,
   ⟨{ st [] with prog := { image := some img, copies := [⟨true, 4, 7, 0, [1#8]⟩] } }, img, ⟨true, 4, 7, 0, [1#8]⟩, by decide +kernel⟩⟩

theorem witness_SessionHandshake :
  (∃ (s : State) (c : Channel) (addr : BitVec 32) (udp : BitVec 16) (q : BitVec 32) (k : Bool) (n cl : List Byte), s.hostUp = true ∧ channelUp s c = true ∧
      helloRefusal s c addr.toNat k ≠ 0)
  ∧ (∃ (s : State) (c : Channel) (addr : BitVec 32) (udp : BitVec 16) (q : BitVec 32) (k : Bool) (n cl : List Byte), s.hostUp = true ∧ channelUp s c = true
      ∧ helloRefusal s c addr.toNat k = 0)
  ∧ (∃ (s : State) (c : Channel) (addr q : BitVec 32) (proof : List Byte), s.hostUp = true ∧ s.host.shakes.find? (fun h => h.chan == c && h.addr ==
      addr.toNat) = none)
  ∧ (∃ (s : State) (c : Channel) (addr q : BitVec 32) (h : Handshake), s.hostUp = true ∧ s.host.shakes.find? (fun h => h.chan == c && h.addr == addr.toNat)
      = some h ∧ (s.session c).isOpen = false)
  ∧ (∃ (s : State) (c : Channel) (addr q : BitVec 32) (proof : List Byte) (h : Handshake), s.hostUp = true ∧ s.host.shakes.find? (fun h => h.chan == c &&
      h.addr == addr.toNat) = some h ∧ proof ≠ clientProof h)
  ∧ (∃ (s : State) (c : Channel) (h : Handshake), s.hostUp = true ∧ s.host.shakes.find? (fun h => h.chan == c) = some h) :=
  ⟨⟨{ st [] with host := { ip := 1 } }, .eop, 5, 6, 1, false, [], [], by decide +kernel⟩,
   ⟨st [(0x1500,1,1), (0x2040,1,1)], .service, 5, 6, 1, false, [], [], by decide +kernel⟩,
   ⟨{ st [] with host := { ip := 1, shakes := [⟨.eop, 5, 6, 1, false, List.replicate 16 1#8, List.replicate 16 2#8, 9, List.replicate 16 3#8, List.replicate 32 4#8⟩] } }, .eop, 4, 1, [], by decide +kernel⟩,
   ⟨{ st [] with host := { ip := 1, shakes := [⟨.eop, 5, 6, 1, false, List.replicate 16 1#8, List.replicate 16 2#8, 9, List.replicate 16 3#8, List.replicate 32 4#8⟩] } }, .eop, 5, 1, ⟨.eop, 5, 6, 1, false, List.replicate 16 1#8, List.replicate 16 2#8, 9, List.replicate 16 3#8, List.replicate 32 4#8⟩, by decide +kernel⟩,
   ⟨{ st [] with host := { ip := 1, shakes := [⟨.eop, 5, 6, 1, false, List.replicate 16 1#8, List.replicate 16 2#8, 9, List.replicate 16 3#8, List.replicate 32 4#8⟩] } }, .eop, 5, 1, [], ⟨.eop, 5, 6, 1, false, List.replicate 16 1#8, List.replicate 16 2#8, 9, List.replicate 16 3#8, List.replicate 32 4#8⟩, by decide +kernel⟩,
   ⟨{ st [] with host := { ip := 1, shakes := [⟨.eop, 5, 6, 1, false, List.replicate 16 1#8, List.replicate 16 2#8, 9, List.replicate 16 3#8, List.replicate 32 4#8⟩] } }, .eop, ⟨.eop, 5, 6, 1, false, List.replicate 16 1#8, List.replicate 16 2#8, 9, List.replicate 16 3#8, List.replicate 32 4#8⟩, by decide +kernel⟩⟩

theorem witness_SessionMessages :
  (∃ (s : State) (h : MsgHead), s.hostUp = true ∧ (s.session h.chan).isOpen = true ∧ tagOk s h 0x06 0 [] = false)
  ∧ (∃ (s : State) (h : MsgHead), Accepts s h 0x06 [])
  ∧ (∃ (s : State) (h : MsgHead) (v : Bool) (items : List ObjRef), Accepts s h 0x10 (readReqBytes v (items.take 64)) ∧ items.length ≤ 64)
  ∧ (∃ (s : State) (h : MsgHead) (items : List ObjRef), Accepts s h 0x12 (readReqBytes false items))
  ∧ (∃ (s : State) (h : MsgHead) (r : BitVec 8), Accepts s h 0x07 [r, 0#8, 0#8, 0#8])
  ∧ (∃ (s : State) (c : Channel), s.hostUp = true ∧ (s.session c).isOpen = true) :=
  ⟨⟨openSt State.reset, ⟨.eop, 1, 1, []⟩, by decide +kernel⟩,
   ⟨openSt State.reset, msg 0x06 [], by unfold Accepts; decide +kernel⟩,
   ⟨openSt State.reset, msg 0x10 (readReqBytes true [⟨0x2001, 0⟩]), true, [⟨0x2001, 0⟩], by unfold Accepts; decide +kernel⟩,
   ⟨openSt State.reset, msg 0x12 (readReqBytes false []), [], by unfold Accepts; decide +kernel⟩,
   ⟨openSt State.reset, msg 0x07 [1#8, 0#8, 0#8, 0#8], 1, by unfold Accepts; decide +kernel⟩,
   ⟨openSt State.reset, .eop, by decide +kernel⟩⟩

theorem witness_WritesAndBatch :
  (∃ (s : State) (h : MsgHead) (w : WriteItem), Accepts s h 0x11 (writeReqBytes [w]) ∧ (h.chan = .eop ∨ s.obj 0x2040 1 ≠ 4) ∧ checkItem s false (s.session
      h.chan).safety w.ref.index.toNat w.ref.sub.toNat w.ty.toNat w.value ≠ 0)
  ∧ (∃ (s : State) (h : MsgHead) (w : WriteItem) (r : ObjRow), Accepts s h 0x11 (writeReqBytes [w]) ∧ (h.chan = .eop ∨ s.obj 0x2040 1 ≠ 4) ∧ checkItem s
      false (s.session h.chan).safety w.ref.index.toNat w.ref.sub.toNat w.ty.toNat w.value = 0 ∧ objInfo s w.ref.index.toNat w.ref.sub.toNat = some r ∧
          staged w.ref.index.toNat w.ref.sub.toNat = true ∧ s.host.pendSet = [])
  ∧ (∃ (s : State) (h : MsgHead) (w : WriteItem), Accepts s h 0x11 (writeReqBytes [w]) ∧ (h.chan = .eop ∨ s.obj 0x2040 1 ≠ 4) ∧ checkItem s false
      (s.session h.chan).safety w.ref.index.toNat w.ref.sub.toNat w.ty.toNat w.value = 0 ∧ staged w.ref.index.toNat w.ref.sub.toNat = false ∧ (s.lane
          41).elems.length < 64)
  ∧ (∃ (s : State) (ref : ObjRef) (w : WriteReq) (r : ObjRow), s.hostUp = true ∧ (takeWrite ref.index.toNat ref.sub.toNat s.host.due).1 = some w ∧ objInfo
      s ref.index.toNat ref.sub.toNat = some r ∧ ownRow s ref.index.toNat ref.sub.toNat = false ∧ isBytes r = false ∧ r.access = .rw ∧ laneCounters
          ref.index.toNat = false)
  ∧ (∃ (s : State) (ref : ObjRef), s.hostUp = true ∧ (takeWrite ref.index.toNat ref.sub.toNat s.host.due).1 = none)
  ∧ (∃ (s : State) (h : MsgHead) (w : WriteItem), Accepts s h 0x11 (writeReqBytes [w]) ∧ h.chan = .service ∧ s.obj 0x2040 1 = 4) :=
  ⟨⟨openSt State.reset, msg 0x11 (writeReqBytes [⟨⟨0x2013, 0⟩, 5, [1#8]⟩]), ⟨⟨0x2013, 0⟩, 5, [1#8]⟩, by unfold Accepts; decide +kernel⟩,
   ⟨openSt State.reset, msg 0x11 (writeReqBytes [⟨⟨0x3000, 1⟩, 2, [3#8]⟩]), ⟨⟨0x3000, 1⟩, 2, [3#8]⟩, ⟨0x3000, 1, 1, 1, 1, .u8, .rw, 15, .ints [(0, 15)],
       .nv⟩, by unfold Accepts; decide +kernel⟩,
   ⟨openSt State.reset, msg 0x11 (writeReqBytes [⟨⟨0x2003, 0⟩, 2, [1#8]⟩]), ⟨⟨0x2003, 0⟩, 2, [1#8]⟩, by unfold Accepts; decide +kernel⟩,
   ⟨{ st [] with host := { due := [⟨0x2003, 0, 1, [1#8], .eop, false, 1, 0, 0⟩] } }, ⟨0x2003, 0⟩, ⟨0x2003, 0, 1, [1#8], .eop, false, 1, 0, 0⟩, ⟨0x2003, 1,
       1, 0, 0, .u8, .rw, 0, .ints [(0, 2)], .nv⟩, by decide +kernel⟩,
   ⟨State.reset, ⟨0x2003, 0⟩, by decide +kernel⟩,
   ⟨{ st [(0x2040,1,4)] with host := { service := { isOpen := true, sid := 1 } } },
       { msg 0x11 (writeReqBytes [⟨⟨0x2003, 0⟩, 5, [1#8]⟩]) with chan := .service }, ⟨⟨0x2003, 0⟩, 5, [1#8]⟩, by unfold Accepts; decide +kernel⟩⟩

theorem witness_ConfigurationCommit :
  (∃ (s : State), s.hostUp = true ∧ s.host.commit.isSome = true)
  ∧ (∃ (s : State) (f : CommitFail) (fs : List CommitFail), s.hostUp = true ∧ s.host.commit = none ∧ ownsSet s (writeOf s 0x2020 1) = true ∧
      s.host.pendSet.any (·.rws) = false ∧ commitFails s s.host.pendSet = f :: fs)
  ∧ (∃ (s : State), s.hostUp = true ∧ s.host.commit = none ∧ ownsSet s (writeOf s 0x2020 1) = true ∧ s.host.pendSet.any (·.rws) = false ∧ commitFails s
      s.host.pendSet = [])
  ∧ (∃ (s : State) (c : Commit), s.hostUp = true ∧ s.host.commit = some c ∧ s.host.pendSet = [] ∧ s.pwr.warning = false)
  ∧ (∃ (s : State) (c : Commit), s.hostUp = true ∧ s.host.commit = some c ∧ s.pwr.warning = false)
  ∧ (∃ (s : State) (b : Bool), s.hostUp = true ∧ (s.host.commit = none ∨ s.pwr.warning = true))
  ∧ (∃ (s : State) (c : Instr) (i k : Nat), s.hostUp = true ∧ s.pwr.warning = false ∧ Unstored s c i k)
  ∧ (∃ (s : State) (c : Instr) (i k : Nat), s.hostUp = true ∧ s.pwr.warning = true ∧ Unstored s c i k)
  ∧ (∃ (s : State), s.hostUp = true ∧ ownsSet s (writeOf s 0x2020 1) = true ∧ s.host.pendSet ≠ []) :=
  ⟨⟨{ st [] with host := { commit := some ⟨[], .eop⟩ } }, by decide +kernel⟩,
   ⟨{ st [] with host := { pendSet := [⟨0x3100, 1, 0, false⟩] } }, ⟨0x0310, 0x3100, 2, [d32 0, d32 2]⟩, [⟨0x0310, 0x3100, 4, [d32 0, d32 3]⟩],
       by decide +kernel⟩,
   ⟨State.reset, by decide +kernel⟩,
   ⟨{ st [] with host := { commit := some ⟨[], .eop⟩ } }, ⟨[], .eop⟩, by decide +kernel⟩,
   ⟨{ st [] with host := { commit := some ⟨[⟨0x5100, 1, 1, false⟩], .eop⟩ } }, ⟨[⟨0x5100, 1, 1, false⟩], .eop⟩, by decide +kernel⟩,
   ⟨{ st [] with pwr := { warning := true } }, true, by decide +kernel⟩,
   ⟨{ st [] with log := { fails := [true] } }, .clearVaultLatches, 0x2070, 4, by decide +kernel, by decide +kernel, ⟨by decide +kernel, by simp⟩⟩,
   ⟨{ st [] with log := { fails := [true] }, pwr := { warning := true } }, .clearVaultLatches, 0x2070, 4, by decide +kernel, by decide +kernel,
       ⟨by decide +kernel, by simp⟩⟩,
   ⟨{ st [] with host := { pendSet := [⟨0x5100, 1, 1, false⟩] } }, by decide +kernel⟩⟩

theorem witness_SegmentedTransfer :
  (∃ (s : State) (h : MsgHead) (tid : BitVec 8) (w : Bool) (ref : ObjRef) (len crc : BitVec 32), Accepts s h 0x20 (segInitBytes tid w ref.index.toNat
      ref.sub.toNat len.toNat crc.toNat) ∧ (tid = 0 ∨ (findTransfer s h.chan tid.toNat).isSome = true ∨ segRefusal s h.chan w ref.index.toNat ref.sub.toNat
          len.toNat ≠ 0))
  ∧ (∃ (s : State) (h : MsgHead) (tid : BitVec 8) (ref : ObjRef) (len crc : BitVec 32), Accepts s h 0x20 (segInitBytes tid true ref.index.toNat
      ref.sub.toNat len.toNat crc.toNat) ∧ tid ≠ 0 ∧ findTransfer s h.chan tid.toNat = none ∧ segRefusal s h.chan true ref.index.toNat ref.sub.toNat
          len.toNat = 0)
  ∧ (∃ (s : State) (h : MsgHead) (tid : BitVec 8) (off : BitVec 32) (b : List Byte) (x : Transfer), Accepts s h 0x21 (segDataBytes tid.toNat off.toNat b) ∧
      findTransfer s h.chan tid.toNat = some x ∧ x.write = true ∧ x.queued = false ∧ x.unacked < 3 ∧ off.toNat = x.acked ∧ b.length ≤ 1408 ∧ x.acked +
          b.length < x.len)
  ∧ (∃ (s : State) (h : MsgHead) (tid : BitVec 8) (w er : BitVec 8) (got : BitVec 32) (x : Transfer), Accepts s h 0x22 (segAckBytes tid.toNat 2 w.toNat
      er.toNat got.toNat) ∧ findTransfer s h.chan tid.toNat = some x ∧ x.write = false)
  ∧ (∃ (s : State) (h : MsgHead) (tid r : BitVec 8), Accepts s h 0x23 [tid, r, 0#8, 0#8] ∧ (findTransfer s h.chan tid.toNat).isSome = true)
  ∧ (∃ (s : State) (c : Channel) (tid : BitVec 8) (x : Transfer), s.hostUp = true ∧ findTransfer s c tid.toNat = some x ∧ x.write = true ∧ x.queued = false
      ∧ 0 < x.unacked)
  ∧ (∃ (s : State) (c : Channel) (tid : BitVec 8) (x : Transfer), s.hostUp = true ∧ findTransfer s c tid.toNat = some x ∧ x.write = false ∧ x.acked < x.len
      ∧ 0 < x.window)
  ∧ (∃ (s : State) (c : Channel) (tid : BitVec 8) (x : Transfer), s.hostUp = true ∧ findTransfer s c tid.toNat = some x ∧ x.queued = false ∧ (x.write =
      false ∨ x.window ≠ 0)) :=
  ⟨⟨openSt State.reset, msg 0x20 (segInitBytes 0 true 0x4020 1 100 0), 0, true, ⟨0x4020, 1⟩, 100, 0, by unfold Accepts; decide +kernel⟩,
   ⟨openSt State.reset, msg 0x20 (segInitBytes 255 true 0x4020 1 100 7), 255, ⟨0x4020, 1⟩, 100, 7, by unfold Accepts; decide +kernel⟩,
   ⟨segSt (seg true 3 2) (openSt State.reset), msg 0x21 (segDataBytes 1 10 [5#8]), 1, 10, [5#8], seg true 3 2, by unfold Accepts; decide +kernel⟩,
   ⟨segSt (seg false 3 0) (openSt State.reset), msg 0x22 (segAckBytes 1 2 3 9 0), 1, 3, 9, 0, seg false 3 0, by unfold Accepts; decide +kernel⟩,
   ⟨segSt (seg true 3 0) (openSt State.reset), msg 0x23 [1#8, 4#8, 0#8, 0#8], 1, 4, by unfold Accepts; decide +kernel⟩,
   ⟨segSt (seg true 3 1) (openSt State.reset), .eop, 1, seg true 3 1, by decide +kernel⟩,
   ⟨segSt (seg false 1 0) (openSt State.reset), .eop, 1, seg false 1 0, by decide +kernel⟩,
   ⟨segSt (seg false 0 0) (openSt State.reset), .eop, 1, seg false 0 0, by decide +kernel⟩⟩

theorem witness_SafetySessions :
  (∃ (s : State) (h : MsgHead), Accepts s h 0x40 [] ∧ (h.chan = .eop ∨ s.obj 0x2040 1 ≠ 4) ∧ lockedOut s = false)
  ∧ (∃ (s : State) (h : MsgHead), Accepts s h 0x40 [] ∧ (h.chan = .eop ∨ s.obj 0x2040 1 ≠ 4) ∧ lockedOut s = true)
  ∧ (∃ (s : State) (h : MsgHead) (n : List Byte), Accepts s h 0x42 (hmacSha256 s.log.derived (asciiBytes "EOP-P" ++ n ++ sidBytes (s.session h.chan).sid))
      ∧ (s.session h.chan).nonce = some n ∧ lockedOut s = false ∧ s.log.derived ≠ [])
  ∧ (∃ (s : State) (h : MsgHead) (n proof : List Byte), Accepts s h 0x42 proof ∧ (s.session h.chan).nonce = some n ∧ lockedOut s = false ∧ proof ≠
      hmacSha256 s.log.derived (asciiBytes "EOP-P" ++ n ++ sidBytes (s.session h.chan).sid) ∧ s.obj 0x6890 2 < 65535)
  ∧ (∃ (s : State) (h : MsgHead), Accepts s h 0x44 [])
  ∧ (∃ (s : State) (p : List Byte), s.hostUp = true ∧ passwordOk p = false)
  ∧ (∃ (s : State) (p : List Byte), s.hostUp = true ∧ s.pwr.warning = false ∧ entryFails s = false ∧ passwordOk p = true ∧ s.log.derived = [] ∧ s.obj
      0x2040 1 = 1)
  ∧ (∃ (s : State) (k : List Byte), s.hostUp = true ∧ k.length ≠ 32)
  ∧ (∃ (s : State) (k : List Byte), s.hostUp = true ∧ s.pwr.warning = false ∧ entryFails s = false ∧ k.length = 32 ∧ s.obj 0x2040 1 = 1)
  ∧ (∃ (s : State) (h : MsgHead), Accepts s h 0x40 [] ∧ h.chan = .service ∧ s.obj 0x2040 1 = 4) :=
  ⟨⟨openSt State.reset, msg 0x40 [], by unfold Accepts; decide +kernel⟩,
   ⟨openSt { st [] with log := { derived := [1#8], lockEnd := some 5 } }, msg 0x40 [], by unfold Accepts; decide +kernel⟩,
   ⟨openSt { st [] with log := { derived := [1#8] }, host := { eop := { nonce := some [2#8] } } }, msg 0x42 (hmacSha256 [1#8] (asciiBytes "EOP-P" ++ [2#8]
       ++ sidBytes 1)), [2#8], by unfold Accepts; decide +kernel⟩,
   ⟨openSt { st [] with log := { derived := [1#8] }, host := { eop := { nonce := some [2#8] } } }, msg 0x42 [7#8], [2#8], [7#8], by
       unfold Accepts; decide +kernel⟩,
   ⟨openSt State.reset, msg 0x44 [], by unfold Accepts; decide +kernel⟩,
   ⟨State.reset, List.replicate 17 0x21#8, by decide +kernel⟩,
   ⟨st [(0x2040,1,1)], List.replicate 16 0x7E#8, by decide +kernel⟩,
   ⟨State.reset, List.replicate 31 0#8, by decide +kernel⟩,
   ⟨st [(0x2040,1,1)], List.replicate 32 0#8, by decide +kernel⟩,
   ⟨{ st [(0x2040,1,4)] with host := { service := { isOpen := true, sid := 1 } } }, { msg 0x40 [] with chan := .service }, by unfold Accepts; decide +kernel⟩⟩

theorem witness_NetworkAndServicePort :
  (∃ (s : State) (lan : Fin 2), s.hostUp = true ∧ bitOf (s.obj 0x1101 1) lan.val = true)
  ∧ (∃ (s : State) (lan : Fin 2) (target sender : BitVec 32) (mac : BitVec 48), s.hostUp = true ∧ s.host.ip ≠ 0 ∧ target.toNat = s.host.ip)
  ∧ (∃ (s : State) (lan : Fin 2) (target sender : BitVec 32) (mac : BitVec 48), s.hostUp = true ∧ (s.host.ip = 0 ∨ target.toNat ≠ s.host.ip))
  ∧ (∃ (s : State) (dst src : BitVec 32) (body : List Byte), s.hostUp = true ∧ s.host.ip ≠ 0 ∧ dst.toNat = s.host.ip)
  ∧ (∃ (s : State), s.hostUp = true ∧ s.obj 0x1500 1 = 0)
  ∧ (∃ (s : State), s.hostUp = true ∧ s.obj 0x1500 1 ≠ 0) :=
  ⟨⟨st [(0x1101,1,2)], 1, by decide +kernel⟩,
   ⟨{ st [] with host := { ip := 9 } }, 1, 9, 8, 7, by decide +kernel⟩,
   ⟨{ st [] with host := { ip := 9 } }, 0, 8, 9, 7, by decide +kernel⟩,
   ⟨{ st [] with host := { ip := 9 } }, 9, 8, [], by decide +kernel⟩,
   ⟨State.reset, by decide +kernel⟩,
   ⟨st [(0x1500,1,1)], by decide +kernel⟩⟩

theorem witness_AlleyFrames :
  (∃ (s : State) (c : List Byte → BitVec 8 → Instr) (code : Nat) (p : List Byte) (k : BitVec 8), (c, code) ∈ ([(.identity, 0x01), (.health, 0x02),
      (.eventNewest, 0x03), (.eventRead, 0x04), (.lifecycleGet, 0x05), (.lifecycleRequest, 0x06), (.bankGet, 0x07), (.bankSelect, 0x08), (.resetRequest,
          0x09), (.lockChallenge, 0x10), (.lockProof, 0x11), (.lockClose, 0x12), (.objectRead, 0x20), (.objectWrite, 0x21)] : List ((List Byte → BitVec 8 →
              Instr) × Nat)) ∧ hkUp s = true ∧ k.toNat ≠ cmdCrc (alleyIn s) code p)
  ∧ (∃ (s : State) (c : List Byte → BitVec 8 → Instr) (code : Nat) (p : List Byte) (k : BitVec 8), (c, code) ∈ ([(.identity, 0x01), (.health, 0x02),
      (.eventNewest, 0x03), (.lifecycleGet, 0x05), (.bankGet, 0x07), (.lockChallenge, 0x10), (.lockClose, 0x12)] : List ((List Byte → BitVec 8 → Instr) ×
          Nat)) ∧ hkUp s = true ∧ k.toNat = cmdCrc (alleyIn s) code p ∧ p ≠ [])
  ∧ (∃ (s : State) (p : List Byte) (k : BitVec 8), s.hostUp = false ∧ s.pwr.standbyUp = true ∧ k.toNat = cmdCrc (alleyIn s) 0x20 p)
  ∧ (∃ (s : State) (p : List Byte) (k : BitVec 8), hkUp s = true ∧ k.toNat = cmdCrc (alleyIn s) 0x08 p ∧ p.length = 2 ∧ s.alley.lock = false)
  ∧ (∃ (s : State) (c : List Byte → BitVec 8 → Instr) (p : List Byte) (k : BitVec 8), (c = .identity ∨ c = .health ∨ c = .eventNewest ∨ c = .eventRead ∨ c
      = .objectWrite) ∧ hkUp s = false) :=
  ⟨⟨State.reset, .identity, 1, [], 0, by simp, by decide +kernel, by decide +kernel⟩,
   ⟨State.reset, .health, 2, [1#8], aly State.reset 2 [1#8], by simp, by decide +kernel, by decide +kernel, by decide⟩,
   ⟨{ st [] with hostUp := false }, [0#8, 0x20#8, 0#8, 0#8], aly State.reset 0x20 [0#8, 0x20#8, 0#8, 0#8], by decide +kernel⟩,
   ⟨State.reset, [0#8, 0x5A#8], aly State.reset 8 [0#8, 0x5A#8], by decide +kernel⟩,
   ⟨{ st [] with hostUp := false, pwr := { standbyUp := false } }, .eventRead, [], 0, by simp, by decide +kernel⟩⟩

theorem witness_AlleyReadings :
  (∃ (s : State) (k : BitVec 8), hkUp s = true ∧ k.toNat = cmdCrc (alleyIn s) 0x01 [])
  ∧ (∃ (s : State) (k : BitVec 8), hkUp s = true ∧ k.toNat = cmdCrc (alleyIn s) 0x02 [])
  ∧ (∃ (s : State) (k : BitVec 8), hkUp s = true ∧ k.toNat = cmdCrc (alleyIn s) 0x03 [])
  ∧ (∃ (s : State) (p : List Byte) (k : BitVec 8), hkUp s = true ∧ k.toNat = cmdCrc (alleyIn s) 0x04 p ∧ p.length = 5)
  ∧ (∃ (s : State) (k : BitVec 8), hkUp s = true ∧ k.toNat = cmdCrc (alleyIn s) 0x05 [])
  ∧ (∃ (s : State) (k : BitVec 8), hkUp s = true ∧ k.toNat = cmdCrc (alleyIn s) 0x07 [])
  ∧ (∃ (s : State) (p : List Byte) (k : BitVec 8), s.hostUp = true ∧ hkUp s = true ∧ k.toNat = cmdCrc (alleyIn s) 0x20 p ∧ p.length = 4 ∧ (readItem
      (alleyIn s) false (getLe p 0 2) (getLe p 2 2)).2.2.length ≤ 24)
  ∧ (∃ (s : State) (st : Nat) (p : List Byte), hkUp s = true ∧ s.alley.mailbox = none ∧ s.alley.response = some (st, p))
  ∧ (∃ (s : State), hkUp s = true ∧ s.alley.mailbox = none ∧ s.alley.response = none) :=
  ⟨⟨State.reset, aly (State.reset) 1 [], by decide +kernel⟩,
   ⟨State.reset, aly (State.reset) 2 [], by decide +kernel⟩,
   ⟨State.reset, aly (State.reset) 3 [], by decide +kernel⟩,
   ⟨State.reset, [1#8, 0#8, 0#8, 0#8, 3#8], aly (State.reset) 4 [1#8, 0#8, 0#8, 0#8, 3#8], by decide +kernel⟩,
   ⟨State.reset, aly (State.reset) 5 [], by decide +kernel⟩,
   ⟨State.reset, aly (State.reset) 7 [], by decide +kernel⟩,
   ⟨State.reset, [1#8, 0x20#8, 0#8, 0#8], aly (State.reset) 0x20 [1#8, 0x20#8, 0#8, 0#8], by decide +kernel⟩,
   ⟨{ st [] with alley := { response := some (3, [1#8]) } }, 3, [1#8], by decide +kernel⟩,
   ⟨State.reset, by decide +kernel⟩⟩

theorem witness_AlleyRequests :
  (∃ (s : State) (k : BitVec 8), hkUp s = true ∧ lockedOut s = false ∧ k.toNat = cmdCrc (alleyIn s) 0x10 [])
  ∧ (∃ (s : State) (k : BitVec 8), hkUp s = true ∧ lockedOut s = true ∧ k.toNat = cmdCrc (alleyIn s) 0x10 [])
  ∧ (∃ (s : State) (k : BitVec 8) (n : List Byte), s.hostUp = true ∧ hkUp s = true ∧ lockedOut s = false ∧ s.alley.nonce = some n ∧ s.log.derived ≠ [] ∧
      ((hmacSha256 s.log.derived (asciiBytes "ALY-P" ++ n)).take 16).length = 16 ∧ k.toNat = cmdCrc (alleyIn s) 0x11 ((hmacSha256 s.log.derived (asciiBytes
          "ALY-P" ++ n)).take 16))
  ∧ (∃ (s : State) (p : List Byte) (k : BitVec 8) (n : List Byte), s.hostUp = true ∧ hkUp s = true ∧ lockedOut s = false ∧ s.alley.nonce = some n ∧
      p.length = 16 ∧ p ≠ (hmacSha256 s.log.derived (asciiBytes "ALY-P" ++ n)).take 16 ∧ k.toNat = cmdCrc (alleyIn s) 0x11 p ∧ s.obj 0x6890 2 < 65535)
  ∧ (∃ (s : State) (k : BitVec 8), s.hostUp = true ∧ hkUp s = true ∧ k.toNat = cmdCrc (alleyIn s) 0x12 [])
  ∧ (∃ (s : State) (p : List Byte) (k : BitVec 8) (r : ObjRow), s.hostUp = true ∧ hkUp s = true ∧ k.toNat = cmdCrc (alleyIn s) 0x21 p ∧ 6 ≤ p.length ∧
      s.obj 0x1400 6 ≠ 0 ∧ s.obj 0x2040 1 ≠ 4 ∧ objInfo (alleyIn s) (getLe p 0 2) (getLe p 2 2) = some r ∧ r.access = .rw ∧ r.ty ≠ .domain ∧ staged (getLe
          p 0 2) (getLe p 2 2) = false ∧ getLe p 5 1 ≤ 21 ∧ p.length = 6 + getLe p 5 1 ∧ s.isActive = true)
  ∧ (∃ (s : State) (m : Mailbox), s.hostUp = true ∧ s.alley.mailbox = some m ∧ m.pushed = false ∧ m.result = none ∧ checkItem s true m.req.locked
      m.req.index m.req.sub m.req.val.toNat m.req.bytes ≠ 0)
  ∧ (∃ (s : State) (m : Mailbox), s.hostUp = true ∧ s.alley.mailbox = some m ∧ m.pushed = false ∧ m.result = none ∧ checkItem s true m.req.locked
      m.req.index m.req.sub m.req.val.toNat m.req.bytes = 0 ∧ staged m.req.index m.req.sub = false ∧ (s.lane 41).elems.length < 64)
  ∧ (∃ (s : State) (p : List Byte) (k : BitVec 8), s.hostUp = true ∧ hkUp s = true ∧ k.toNat = cmdCrc (alleyIn s) 0x08 p ∧ p.length = 2 ∧ s.alley.lock =
      true ∧ getLe p 1 1 = 0x5A ∧ getLe p 0 1 ≤ 1 ∧ bitOf (s.obj 0x2050 5) (getLe p 0 1) = true)
  ∧ (∃ (s : State) (p : List Byte) (k : BitVec 8), s.hostUp = true ∧ hkUp s = true ∧ k.toNat = cmdCrc (alleyIn s) 0x06 p ∧ p.length = 2 ∧ (s.obj 0x2040 1 ≠
      0 → s.alley.lock = true) ∧ getLe p 1 1 = 0x5A ∧ getLe p 0 1 ≤ 4 ∧ transitionRefusal (alleyIn s) (getLe p 0 1) s.alley.lock ≠ 0)
  ∧ (∃ (s : State) (p : List Byte) (k : BitVec 8), s.hostUp = true ∧ hkUp s = true ∧ k.toNat = cmdCrc (alleyIn s) 0x06 p ∧ p.length = 2 ∧ (s.obj 0x2040 1 ≠
      0 → s.alley.lock = true) ∧ getLe p 1 1 = 0x5A ∧ getLe p 0 1 ≤ 4 ∧ transitionRefusal (alleyIn s) (getLe p 0 1) s.alley.lock = 0)
  ∧ (∃ (s : State) (p : List Byte) (k : BitVec 8), s.hostUp = true ∧ hkUp s = true ∧ k.toNat = cmdCrc (alleyIn s) 0x09 p ∧ p.length = 2 ∧ getLe p 0 1 =
      0x5A ∧ (resetRefused (alleyIn s) = false ∨ (getLe p 1 1).testBit 0 = true))
  ∧ (∃ (s : State) (p : List Byte) (k : BitVec 8), s.hostUp = true ∧ hkUp s = true ∧ k.toNat = cmdCrc (alleyIn s) 0x09 p ∧ p.length = 2 ∧ getLe p 0 1 =
      0x5A ∧ resetRefused (alleyIn s) = true ∧ (getLe p 1 1).testBit 0 = false) :=
  ⟨⟨State.reset, aly (State.reset) 0x10 [], by decide +kernel⟩,
   ⟨{ st [] with log := { derived := [1#8], lockEnd := some 5 } }, aly ({ st [] with log := { derived := [1#8], lockEnd := some 5 } }) 0x10 [],
       by decide +kernel⟩,
   ⟨{ st [] with log := { derived := [1#8] }, alley := { nonce := some [2#8] } }, aly
       ({ st [] with log := { derived := [1#8] }, alley := { nonce := some [2#8] } }) 0x11 ((hmacSha256 [1#8] (asciiBytes "ALY-P" ++ [2#8])).take 16),
           [2#8], by decide +kernel⟩,
   ⟨{ st [] with log := { derived := [1#8] }, alley := { nonce := some [2#8] } }, List.replicate 16 0#8, aly
       ({ st [] with log := { derived := [1#8] }, alley := { nonce := some [2#8] } }) 0x11 (List.replicate 16 0#8), [2#8], by decide +kernel⟩,
   ⟨State.reset, aly (State.reset) 0x12 [], by decide +kernel⟩,
   ⟨st [(0x1400,6,1)], [3#8, 0x20#8, 0#8, 0#8, 2, 1#8, 1#8], aly (st [(0x1400,6,1)]) 0x21 [3#8, 0x20#8, 0#8, 0#8, 2, 1#8, 1#8], ⟨0x2003, 1, 1, 0, 0, .u8,
       .rw, 0, .ints [(0, 2)], .nv⟩, by decide +kernel⟩,
   ⟨{ st [] with alley := { mailbox := some ⟨⟨0x2013, 0, 5, [1#8], .alley, false, 0, 0, 0⟩, false, none⟩ } }, ⟨⟨0x2013, 0, 5, [1#8], .alley, false, 0, 0,
       0⟩, false, none⟩, by decide +kernel⟩,
   ⟨{ st [] with alley := { mailbox := some ⟨⟨0x2003, 0, 2, [1#8], .alley, false, 0, 0, 0⟩, false, none⟩ } }, ⟨⟨0x2003, 0, 2, [1#8], .alley, false, 0, 0,
       0⟩, false, none⟩, by decide +kernel⟩,
   ⟨{ st [(0x2040,1,3), (0x2050,5,3)] with alley := { lock := true } }, [1#8, 0x5A#8], aly
       ({ st [(0x2040,1,3), (0x2050,5,3)] with alley := { lock := true } }) 8 [1#8, 0x5A#8], by decide +kernel⟩,
   ⟨State.reset, [4#8, 0x5A#8], aly (State.reset) 6 [4#8, 0x5A#8], by decide +kernel⟩,
   ⟨{ st [(0x2040,1,3), (0x2050,5,3)] with alley := { lock := true } }, [4#8, 0x5A#8], aly
       ({ st [(0x2040,1,3), (0x2050,5,3)] with alley := { lock := true } }) 6 [4#8, 0x5A#8], by decide +kernel⟩,
   ⟨pairSt [(0x7001,0,3)], [0x5A#8, 1#8], aly (pairSt [(0x7001,0,3)]) 9 [0x5A#8, 1#8], by decide +kernel⟩,
   ⟨pairSt [(0x7001,0,3)], [0x5A#8, 0#8], aly (pairSt [(0x7001,0,3)]) 9 [0x5A#8, 0#8], by decide +kernel⟩⟩

theorem witness_CanTraffic :
  (∃ (s : State) (b : Fin 3) (e : List Byte) (r : List Elem), s.stringUp = true ∧ (s.lane (9 + b.val)).elems = .bytes e :: r ∧ (2 ≤ canState s b ∨ elBad s
      b e = true))
  ∧ (∃ (s : State) (b : Fin 3) (e : List Byte) (r : List Elem), s.stringUp = true ∧ (s.lane (9 + b.val)).elems = .bytes e :: r ∧ canState s b ≤ 1 ∧ elBad s
      b e = false ∧ (s.can b).order = 0 ∧ (s.can b).bufs = [none, none, none])
  ∧ (∃ (s : State) (b : Fin 3) (d : BitVec 16) (k : Nat) (f : CanBuf), s.stringUp = true ∧ (s.can b).sending = some k ∧ (s.can b).bufs.getD k none = some f)
  ∧ (∃ (e : List Byte), 72 ≤ e.length ∧ (getLe e 4 1).testBit 4 = false ∧ (elWord e).testBit 30 = false ∧ 9 ≤ getLe e 4 1 % 16)
  ∧ (∃ (s : State) (b : Fin 3) (d : BitVec 16) (k : Nat) (f : CanBuf), s.stringUp = true ∧ (s.can b).sending = some k ∧ (s.can b).bufs.getD k none = some f
      ∧ f.attempts + 1 ≤ elLimit s b f.elem ∧ ((elWord f.elem).testBit 30 = true → s.objB (canIx b + 1) 5 = true))
  ∧ (∃ (s : State) (b : Fin 3) (d : BitVec 16) (k : Nat) (f : CanBuf), s.stringUp = true ∧ (s.can b).sending = some k ∧ (s.can b).bufs.getD k none = some f
      ∧ elLimit s b f.elem < f.attempts + 1)
  ∧ (∃ (s : State) (b : Fin 3) (e : List Byte), s.hostUp = true ∧ e.length = 72 ∧ (s.lane (9 + b.val)).elems.length < 32)
  ∧ (∃ (s : State) (b : Fin 3) (e : List Byte), s.hostUp = true ∧ e.length ≠ 72)
  ∧ (∃ (s : State) (b : Fin 3) (w : BitVec 32) (f : BitVec 6) (d : List Byte), s.stringUp = true ∧ (canState s b = 2 ∨ 4 ≤ canState s b))
  ∧ (∃ (s : State) (b : Fin 3) (w : BitVec 32) (f : BitVec 6) (d : List Byte) (k : Nat), s.stringUp = true ∧ (canState s b ≤ 1 ∨ canState s b = 3) ∧
      canStations s b w.toNat = [] ∧ s.obj (canIx b) 8 = 0 ∧ nativeFilter s b w.toNat = (k, true, false) ∧ (canQueue s b false).length < 64)
  ∧ (∃ (s : State) (b : Fin 3) (m : Nat), (s.can b).off = none ∧ s.obj (canIx b + 2) 2 + 8 * m < 256)
  ∧ (∃ (s : State) (b : Fin 3) (kind : CanError) (by8 : Bool), s.stringUp = true ∧ canState s b ≤ 1) :=
  ⟨⟨laneSt 11 [.bytes el0] (st [(0x7880,1,0)]), 2, el0, [], by decide +kernel⟩,
   ⟨laneSt 11 [.bytes el0] (st [(0x7880,1,1)]), 2, el0, [], by decide +kernel⟩,
   ⟨{ st [] with cans := [(2, { sending := some 1, bufs := [none, some { elem := el0, order := 0, attempts := 0 }, none] })] }, 2, 5, 1,
       { elem := el0, order := 0, attempts := 0 }, by decide +kernel⟩,
   ⟨[0#8, 0#8, 0#8, 0#8, 0x0F#8] ++ List.replicate 67 0#8, by decide +kernel⟩,
   ⟨{ st [(0x7880,3,4)] with cans := [(2, { sending := some 1, bufs := [none, some { elem := el0, order := 0, attempts := 3 }, none] })] }, 2, 5, 1,
       { elem := el0, order := 0, attempts := 3 }, by decide +kernel⟩,
   ⟨{ st [(0x7880,3,4)] with cans := [(2, { sending := some 1, bufs := [none, some { elem := el0, order := 0, attempts := 4 }, none] })] }, 2, 5, 1,
       { elem := el0, order := 0, attempts := 4 }, by decide +kernel⟩,
   ⟨laneSt 11 (List.replicate 31 (.bytes [])) State.reset, 2, el0, by decide +kernel⟩,
   ⟨State.reset, 2, [1#8], by decide +kernel⟩,
   ⟨st [(0x7880,1,0)], 2, 0x123, 8, [], by decide +kernel⟩,
   ⟨st [(0x7880,1,1), (0x7880,9,0)], 2, 0x123, 8, List.replicate 8 0#8, 127, by decide +kernel⟩,
   ⟨st [(0x7882,2,119)], 2, 17, by decide +kernel⟩,
   ⟨st [(0x7880,1,1), (0x7882,3,255)], 2, .crc, true, by decide +kernel⟩⟩

theorem witness_CanControl :
  (∃ (s : State) (b : Fin 3) (c : Nat), s.stringUp = true ∧ (s.can b).off = some c ∧ (s.can b).recovering = false ∧ s.obj (canIx b) 4 = 0 ∧ s.obj (canIx b)
      5 * 1000000 ≤ elapsedNs s.clk c s.clk.c)
  ∧ (∃ (s : State) (b : Fin 3), s.hostUp = true ∧ canState s b = 2)
  ∧ (∃ (s : State) (b : Fin 3), s.hostUp = true ∧ canState s b ≠ 2)
  ∧ (∃ (s : State) (b : Fin 3) (c : Nat), s.stringUp = true ∧ (s.can b).off = some c ∧ (s.can b).recovering = true)
  ∧ (∃ (s : State) (b : Fin 3) (l : List Byte) (k r : Nat), s.hostUp = true ∧ filterBad l = some (k, r))
  ∧ (∃ (s : State) (b : Fin 3) (l : List Byte), s.hostUp = true ∧ filterBad l = none) :=
  ⟨⟨atC 250000000 { st [(0x7880,5,1000)] with cans := [(2, { off := some 0 })] }, 2, 0, by decide +kernel⟩,
   ⟨{ st [(0x7880,1,1)] with cans := [(2, { off := some 0 })] }, 2, by decide +kernel⟩,
   ⟨{ st [(0x7880,1,1)] with cans := [(2, { off := some 0, recovering := true })] }, 2, by decide +kernel⟩,
   ⟨{ st [] with cans := [(2, { off := some 0, recovering := true })] }, 2, 0, by decide +kernel⟩,
   ⟨State.reset, 2, [1#8], 0, 1, by decide +kernel⟩,
   ⟨State.reset, 2, leBytes 4 0x7FF ++ leBytes 4 0x7FF, by decide +kernel⟩⟩

theorem witness_EventRecorder :
  (∃ (s : State) (e : EventReq) (r : List Elem), s.hostUp = true ∧ (s.lane 37).elems = .event e :: r ∧ (s.lane 3).elems.length < 64 ∧ (rateClass e.code = 0
      ∨ (65536 ≤ codeTokens s e.code ∧ 65536 ≤ globalTokens s)))
  ∧ (∃ (s : State) (e : EventReq) (r : List Elem), s.hostUp = true ∧ (s.lane 37).elems = .event e :: r ∧ rateClass e.code ≠ 0 ∧ codeTokens s e.code < 65536
      ∧ 65536 ≤ globalTokens s ∧ pendingOf s e.code < 65535)
  ∧ (∃ (s : State) (b : List Byte) (r : List Elem), s.hostUp = true ∧ (s.lane 3).elems = .bytes b :: r ∧ s.evt.leftBlank = true ∧ s.evt.founding.length <
      4096)
  ∧ (∃ (s : State) (b : List Byte) (r : List Elem), s.hostUp = true ∧ (s.lane 3).elems = .bytes b :: r ∧ (s.evt.leftBlank = false ∨ 4096 ≤
      s.evt.founding.length))
  ∧ (∃ (s : State) (code n : Nat), s.hostUp = true ∧ s.evt.pendingCnt = [(code, n)] ∧ summaryDue s code = true)
  ∧ (∃ (s : State) (code n : Nat), s.hostUp = true ∧ s.evt.pendingCnt = [(code, n)] ∧ summaryDue s code = false) :=
  ⟨⟨laneSt 37 [.event ⟨0x0605, 2, 0, 0, [], false, 0, false⟩] State.reset, ⟨0x0605, 2, 0, 0, [], false, 0, false⟩, [], by decide +kernel⟩,
   ⟨laneSt 37 [.event ⟨0x0605, 2, 0, 0, [], false, 0, false⟩] { st [] with evt := { buckets := [(0x0605, ⟨65535, 0⟩)] } }, ⟨0x0605, 2, 0, 0, [], false, 0,
       false⟩, [], by decide +kernel⟩,
   ⟨laneSt 3 [.bytes (List.replicate 64 1#8)] { st [] with evt := { leftBlank := true } }, List.replicate 64 1#8, [], by decide +kernel⟩,
   ⟨laneSt 3 [.bytes (List.replicate 64 1#8)] State.reset, List.replicate 64 1#8, [], by decide +kernel⟩,
   ⟨{ st [] with evt := { pendingCnt := [(0x0605, 4)] } }, 0x0605, 4, by decide +kernel⟩,
   ⟨{ st [] with evt := { pendingCnt := [(0x0605, 4)], buckets := [(0x0605, ⟨0, 0⟩)] } }, 0x0605, 4, by decide +kernel⟩⟩

theorem witness_SuppliesAndVault :
  (∃ (s : State) (v : BitVec 32) (r : Fin 6), s.hostUp = true ∧ s.pwr.warning = false)
  ∧ (∃ (s : State) (v : BitVec 32) (r : Fin 6), s.hostUp = true ∧ s.pwr.warning = false ∧ r.val ≤ 1)
  ∧ (∃ (s : State) (v : BitVec 32) (r : Fin 6), s.pwr.warning = true)
  ∧ (∃ (s : State) (ms : BitVec 32), s.hostUp = true ∧ s.pwr.warning = true ∧ s.pwr.present = true ∧ s.pwr.transition = none)
  ∧ (∃ (s : State) (ms : BitVec 32), (s.pwr.warning = false ∨ s.pwr.present = false))
  ∧ (∃ (s : State) (rail : BitVec 8) (tg : BitVec 23) (v : Bool), s.pwr.mainUp = true)
  ∧ (∃ (s : State) (rail : BitVec 8) (m : Bool) (k : BitVec 4) (tg : BitVec 23) (v : Bool), s.pwr.mainUp = false)
  ∧ (∃ (s : State) (rail : BitVec 8) (tg : BitVec 23) (v : Bool), s.pwr.mainUp = true)
  ∧ (∃ (s : State) (v : BitVec 32) (u : BitVec 33) (c : BitVec 16), s.pwr.mainUp = false ∧ s.pwr.mainSwitch = true ∧ s.pwr.bank0.factory = false ∧
      s.pwr.bank1.factory = false ∧ s.pwr.bank0.image = [] ∧ s.pwr.bank1.image = [] ∧ s.pwr.vault.alive = true ∧ s.pwr.cause ≤ 7)
  ∧ (∃ (s : State) (v : BitVec 32) (u : BitVec 33) (c : BitVec 16) (l : BitVec 4), s.pwr.mainUp = false ∧ s.pwr.mainSwitch = true)
  ∧ (∃ (s : State) (v : BitVec 32) (u : BitVec 33) (c : BitVec 16) (l : BitVec 4), (s.pwr.mainUp = true ∨ s.pwr.mainSwitch = false))
  ∧ (∃ (s : State), s.pwr.mainSwitch = true ∧ s.pwr.mainUp = false)
  ∧ (∃ (s : State), (s.pwr.mainSwitch = false ∨ s.pwr.mainUp = true))
  ∧ (∃ (s : State), s.pwr.present = true ∧ s.pwr.mainSwitch = false ∧ s.pwr.inrushFail = false ∧ s.obj 0x2090 7 ≠ 0)
  ∧ (∃ (s : State), (s.pwr.present = false ∨ s.pwr.inrushFail = true ∨ s.obj 0x2090 7 = 0))
  ∧ (∃ (s : State) (v : BitVec 32), s.pwr.present = true ∧ s.hostUp = false)
  ∧ (∃ (s : State) (v : BitVec 32), s.pwr.present = true ∧ s.hostUp = true)
  ∧ (∃ (s : State) (v : BitVec 32), s.pwr.present = false)
  ∧ (∃ (s : State) (p : BitVec 5), s.pwr.standbyUp = false)
  ∧ (∃ (s : State) (p : BitVec 5), s.pwr.standbyUp = true)
  ∧ (∃ (s : State), s.hostUp = true ∧ s.pwr.warning = false ∧ entryFails s = false) :=
  ⟨⟨State.reset, 1000, 5, by decide +kernel⟩,
   ⟨State.reset, 1000, 1, by decide +kernel⟩,
   ⟨{ st [] with pwr := { warning := true } }, 0, 0, by decide +kernel⟩,
   ⟨{ st [] with pwr := { warning := true } }, 100, by decide +kernel⟩,
   ⟨{ st [] with pwr := { warning := true, present := false } }, 100, by decide +kernel⟩,
   ⟨State.reset, 3, 7, true, by decide +kernel⟩,
   ⟨{ st [] with pwr := { mainUp := false } }, 1, true, 0, 0, false, by decide +kernel⟩,
   ⟨State.reset, 255, 0, false, by decide +kernel⟩,
   ⟨{ st [] with pwr := { mainUp := false, bank0 := {} } }, 48000, 8589934591, 100, by decide +kernel⟩,
   ⟨{ st [] with pwr := { mainUp := false } }, 1, 2, 3, 4, by decide +kernel⟩,
   ⟨{ st [] with pwr := { mainUp := false, mainSwitch := false } }, 1, 2, 3, 4, by decide +kernel⟩,
   ⟨{ st [(0x2090,7,2)] with pwr := { mainUp := false } }, by decide +kernel⟩,
   ⟨State.reset, by decide +kernel⟩,
   ⟨{ st [(0x2090,7,2)] with pwr := { mainSwitch := false } }, by decide +kernel⟩,
   ⟨{ st [] with pwr := { mainSwitch := false } }, by decide +kernel⟩,
   ⟨{ st [] with hostUp := false }, 7, by decide +kernel⟩,
   ⟨State.reset, 7, by decide +kernel⟩,
   ⟨{ st [] with pwr := { present := false } }, 7, by decide +kernel⟩,
   ⟨{ st [] with pwr := { standbyUp := false } }, 31, by decide +kernel⟩,
   ⟨State.reset, 1, by decide +kernel⟩,
   ⟨State.reset, by decide +kernel⟩⟩

theorem witness_Resets :
  (∃ (s : State), s.hostUp = true ∧ resetRefused s = true)
  ∧ (∃ (s : State), s.hostUp = true ∧ resetRefused s = false)
  ∧ (∃ (s : State), s.pairOn = true ∧ s.obj 0x7001 0 = 3 ∧ s.duplex.beat.role ≠ 2)
  ∧ (∃ (s : State), (s.pairOn = false ∨ s.obj 0x7001 0 ≠ 3))
  ∧ (∃ (s : State), s.pwr.resetDue = none)
  ∧ (∃ (s : State) (c : Nat), s.pwr.resetDue = some c ∧ c ≠ 7 ∧ s.hostUp = true)
  ∧ (∃ (s : State) (c : Nat), s.pwr.resetDue = some c ∧ s.hostUp = false ∧ s.pwr.mainUp = false)
  ∧ (∃ (s : State) (c i k : Nat) (u : Bool), k < 65536 ∧ keptKey (objKey i k) = true ∧ (i, k) ≠ (0x2060, 4) ∧ (i, k) ≠ (0x6801, 0) ∧ i ≠ 0x6803 ∧ (i, k) ≠
      (0x6840, 5))
  ∧ (∃ (s : State) (c i k : Nat) (u : Bool), k < 65536 ∧ keptKey (objKey i k) = false ∧ (i, k) ≠ (0x2060, 4) ∧ (i, k) ≠ (0x6801, 0) ∧ i ≠ 0x6803 ∧ (i, k) ≠
      (0x6840, 5))
  ∧ (∃ (s : State), bankReason s (s.objN 0x2050 4) (s.bank (s.objN 0x2050 4)) = 0 ∧ s.objN 0x2050 4 ≤ 1)
  ∧ (∃ (s : State), s.objN 0x2050 4 ≤ 1 ∧ bankReason s (s.objN 0x2050 4) (s.bank (s.objN 0x2050 4)) ≠ 0 ∧ bankReason s (1 - s.objN 0x2050 4) (s.bank (1 -
      s.objN 0x2050 4)) = 0)
  ∧ (∃ (s : State), bankReason s 0 s.pwr.bank0 ≠ 0 ∧ bankReason s 1 s.pwr.bank1 ≠ 0)
  ∧ (∃ (s : State) (left : Bool), s.obj 0x2001 0 = 4 ∧ latchedBollard s = false)
  ∧ (∃ (s : State) (left : Bool), (s.obj 0x2001 0 = 0 ∨ s.obj 0x2001 0 = 1 ∨ s.obj 0x2001 0 = 2 ∨ s.obj 0x2001 0 = 3) ∧ latchedBollard s = false)
  ∧ (∃ (s : State) (left : Bool), s.obj 0x2001 0 = 5 ∧ latchedBollard s = false)
  ∧ (∃ (s : State) (left : Bool), latchedBollard s = true) :=
  ⟨⟨pairSt [(0x7001,0,3)], by decide +kernel⟩,
   ⟨State.reset, by decide +kernel⟩,
   ⟨pairSt [(0x7001,0,3)], by decide +kernel⟩,
   ⟨pairSt [(0x7001,0,2)], by decide +kernel⟩,
   ⟨State.reset, by decide +kernel⟩,
   ⟨{ st [] with pwr := { resetDue := some 6 } }, 6, by decide +kernel⟩,
   ⟨{ st [] with hostUp := false, pwr := { resetDue := some 5, mainUp := false } }, 5, by decide +kernel⟩,
   ⟨State.reset, 6, 0x2001, 0, true, by decide +kernel⟩,
   ⟨State.reset, 6, 0x2002, 0, false, by decide +kernel⟩,
   ⟨State.reset, by decide +kernel⟩,
   ⟨{ st [] with pwr := { bank0 := {}, bank1 := { factory := true } } }, by decide +kernel⟩,
   ⟨{ st [] with pwr := { bank0 := {} } }, by decide +kernel⟩,
   ⟨st [(0x2001,0,4)], false, by decide +kernel⟩,
   ⟨st [(0x2001,0,3)], false, by decide +kernel⟩,
   ⟨{ st [(0x2001,0,5)] with pwr := { cause := 7 } }, true, by decide +kernel⟩,
   ⟨st [(0x6801,0,128)], false, by decide +kernel⟩⟩

theorem witness_BanksAndWipes :
  (∃ (s : State) (i : List Byte), s.hostUp = true ∧ s.pwr.program = none ∧ (i.length < 128 ∨ crc32c (i.take 124) ≠ getLe i 124 4 ∨ getLe i 0 2 ≠ 0xF1A0))
  ∧ (∃ (s : State) (i : List Byte), s.hostUp = true ∧ s.pwr.program = none ∧ 128 ≤ i.length ∧ crc32c (i.take 124) = getLe i 124 4 ∧ getLe i 0 2 = 0xF1A0 ∧
      getLe i 4 2 = 0x0240 ∧ getLe i 6 2 < s.objN 0x2050 8)
  ∧ (∃ (s : State) (i : List Byte), s.hostUp = true ∧ s.pwr.program = none ∧ 128 ≤ i.length ∧ crc32c (i.take 124) = getLe i 124 4 ∧ getLe i 0 2 = 0xF1A0 ∧
      getLe i 4 2 = 0x0240 ∧ s.objN 0x2050 8 ≤ getLe i 6 2)
  ∧ (∃ (s : State) (i : List Byte), s.hostUp = true ∧ s.pwr.program.isSome = true)
  ∧ (∃ (s : State) (i : List Byte), s.hostUp = true ∧ s.pwr.program = some i ∧ s.objB 0x6040 2 = false)
  ∧ (∃ (s : State), (s.pwr.program = none ∨ s.objB 0x6040 2 = true))
  ∧ (∃ (s : State) (v : BitVec 8), s.hostUp = true ∧ s.pwr.warning = false ∧ entryFails s = false ∧ v.toNat ≤ 1 ∧ bitOf (s.obj 0x2050 5) v.toNat = true)
  ∧ (∃ (s : State) (v : BitVec 8), s.hostUp = true ∧ (1 < v.toNat ∨ bitOf (s.obj 0x2050 5) v.toNat = false))
  ∧ (∃ (s : State), s.hostUp = true ∧ s.obj 0x2050 6 = 1)
  ∧ (∃ (s : State), s.obj 0x2050 6 ≠ 1)
  ∧ (∃ (s : State), s.hostUp = true ∧ 0 ≤ s.obj 0x2060 4)
  ∧ (∃ (s : State) (o n src m : Nat), s.pwr.transition = some (o, n, src, m))
  ∧ (∃ (s : State), s.pwr.transition = none)
  ∧ (∃ (s : State) (v : BitVec 16), s.hostUp = true ∧ v.toNat / 256 ≠ 0x5A) :=
  ⟨⟨State.reset, List.replicate 127 0#8, by decide +kernel⟩,
   ⟨st [(0x2050,8,2)], (crcd (leBytes 2 0xF1A0 ++ leBytes 2 128 ++ leBytes 2 0x0240 ++ leBytes 2 1 ++ List.replicate 116 0#8) ++ List.replicate 64 0#8),
       by decide +kernel⟩,
   ⟨st [(0x2050,8,1)], (crcd (leBytes 2 0xF1A0 ++ leBytes 2 128 ++ leBytes 2 0x0240 ++ leBytes 2 1 ++ List.replicate 116 0#8) ++ List.replicate 64 0#8),
       by decide +kernel⟩,
   ⟨{ st [] with pwr := { program := some [] } }, [], by decide +kernel⟩,
   ⟨{ st [] with pwr := { program := some [1#8] } }, [1#8], by decide +kernel⟩,
   ⟨State.reset, by decide +kernel⟩,
   ⟨st [(0x2050,5,2)], 1, by decide +kernel⟩,
   ⟨State.reset, 2, by decide +kernel⟩,
   ⟨st [(0x2050,6,1)], by decide +kernel⟩,
   ⟨State.reset, by decide +kernel⟩,
   ⟨State.reset, by decide +kernel⟩,
   ⟨{ st [] with pwr := { transition := some (3, 4, 2, 148) } }, 3, 4, 2, 148, by decide +kernel⟩,
   ⟨State.reset, by decide +kernel⟩,
   ⟨State.reset, 0x5B01, by decide +kernel⟩⟩

theorem witness_LifecycleTransitions :
  (∃ (s : State) (n : Nat), s.objN 0x2040 1 ≠ 0)
  ∧ (∃ (s : State) (n : Nat) (a : Bool), (s.objN 0x2040 1 = 0 ∨ a = true) ∧ (s.objN 0x2040 1, n) ∉ [(0, 1), (1, 2), (2, 3), (3, 2), (1, 4), (2, 4), (3, 4)])
  ∧ (∃ (s : State) (n : Nat) (a : Bool), (s.objN 0x2040 1 = 0 ∨ a = true) ∧ (s.objN 0x2040 1, n) ∈ [(0, 1), (1, 2), (2, 3), (3, 2), (1, 4), (2, 4), (3, 4)]
      ∧ s.isActive = true ∧ s.obj 0x6880 4 ≠ 0)
  ∧ (∃ (s : State), s.objN 0x2040 1 = 1 ∧ (s.isActive = false ∨ s.obj 0x6880 4 = 0) ∧ (s.log.derived = [] ∨ s.obj 0x1210 4 = 0 ∨ s.obj 0x6820 1 = 0))
  ∧ (∃ (s : State) (n : Nat) (a : Bool), (s.objN 0x2040 1 = 0 ∨ a = true) ∧ (s.objN 0x2040 1, n) ∈ [(0, 1), (1, 2), (2, 3), (3, 2), (1, 4), (2, 4), (3, 4)]
      ∧ (s.isActive = false ∨ s.obj 0x6880 4 = 0) ∧ (s.objN 0x2040 1 = 1 → n = 2 → s.log.derived ≠ [] ∧ s.obj 0x1210 4 ≠ 0 ∧ s.obj 0x6820 1 ≠ 0))
  ∧ (∃ (s : State) (w : WriteReq) (r : List WriteReq), takeWrite 0x2040 2 s.host.due = (some w, r))
  ∧ (∃ (s : State) (v : BitVec 16), s.hostUp = true ∧ v.toNat / 256 = 0x5A ∧ v.toNat % 256 ≤ 4 ∧ transitionRefusal s (v.toNat % 256) (transitionAuth s) ≠ 0)
  ∧ (∃ (s : State) (v : BitVec 16), s.hostUp = true ∧ v.toNat / 256 = 0x5A ∧ v.toNat % 256 ≤ 4 ∧ transitionRefusal s (v.toNat % 256) (transitionAuth s) = 0
      ∧ s.pwr.warning = true)
  ∧ (∃ (s : State) (v : BitVec 16), s.hostUp = true ∧ v.toNat / 256 = 0x5A ∧ v.toNat % 256 ≤ 4 ∧ transitionRefusal s (v.toNat % 256) (transitionAuth s) = 0
      ∧ s.pwr.warning = false)
  ∧ (∃ (s : State) (n : BitVec 8) (k : BitVec 8), s.hostUp = true ∧ hkUp s = true ∧ k.toNat = cmdCrc (alleyIn s) 0x06 [n, 0x5A#8] ∧ n.toNat ≤ 4 ∧
      (s.alley.lock = true ∨ s.obj 0x2040 1 = 0) ∧ transitionRefusal (alleyIn s) n.toNat s.alley.lock ≠ 0) :=
  ⟨⟨st [(0x2040,1,3)], 2, by decide +kernel⟩,
   ⟨st [(0x2040,1,2)], 1, true, by decide +kernel⟩,
   ⟨st [(0x2040,1,0), (0x6880,4,5)], 1, false, by decide +kernel⟩,
   ⟨st [(0x2040,1,1)], by decide +kernel⟩,
   ⟨{ st [(0x2040,1,1), (0x1210,4,1), (0x6820,1,4200)] with log := { derived := [1#8] } }, 2, true, by decide +kernel⟩,
   ⟨{ st [] with host := { due := [⟨0x2040, 2, 1, [], .eop, false, 1, 0, 0⟩] } }, ⟨0x2040, 2, 1, [], .eop, false, 1, 0, 0⟩, [], by decide +kernel⟩,
   ⟨State.reset, 0x5A04, by decide +kernel⟩,
   ⟨{ st [] with pwr := { warning := true } }, 0x5A01, by decide +kernel⟩,
   ⟨State.reset, 0x5A01, by decide +kernel⟩,
   ⟨State.reset, 4, aly State.reset 6 [4#8, 0x5A#8], by decide +kernel⟩⟩

end Sys2Proof.Tests
end

section
/-!
SUPPORT. What entering Guarded and a change of role change and leave, each said once (R25, R299, R315, R373).
-/
namespace Sys2Proof.Machine

/-! ### One part, one object -/

theorem setObj_unchanged_at (P : List Part) {f : Nat → Bool} (s : State) {i k : Nat} (v : Int) (hf : f i = true) (hk : k < 65536) :
    Unchanged P f s (s.setObj i k v) := by
  refine setObj_unchanged P s i k v fun j hj e => ?_
  have hij : i = j := by rw [← e]; unfold objKey; omega
  rw [← hij, hf] at hj
  cases hj

theorem frame_unchanged (f : Nat → Bool) (s : State) (x : Frame) : Unchanged [.frame] f s { s with frame := x } :=
  Unchanged.of_objs f (fun p hp => by cases p <;> simp_all [Part.same]) rfl rfl

theorem av_unchanged (f : Nat → Bool) (s : State) (x : Avenue) : Unchanged [.av] f s { s with av := x } :=
  Unchanged.of_objs f (fun p hp => by cases p <;> simp_all [Part.same]) rfl rfl

theorem prog_unchanged (f : Nat → Bool) (s : State) (x : Prog) : Unchanged [.prog] f s { s with prog := x } :=
  Unchanged.of_objs f (fun p hp => by cases p <;> simp_all [Part.same]) rfl rfl

theorem duplex_unchanged (f : Nat → Bool) (s : State) (x : Duplex) : Unchanged [.duplex] f s { s with duplex := x } :=
  Unchanged.of_objs f (fun p hp => by cases p <;> simp_all [Part.same]) rfl rfl

theorem host_unchanged (f : Nat → Bool) (s : State) (x : HostSt) : Unchanged [.host] f s { s with host := x } :=
  Unchanged.of_objs f (fun p hp => by cases p <;> simp_all [Part.same]) rfl rfl

/-! ### Events and the lanes -/

theorem lane_setObj (s : State) (i k : Nat) (v : Int) (n : Nat) : (s.setObj i k v).lane n = s.lane n := rfl

theorem pushEvent0_lane (s : State) (e : EventReq) {n : Nat} (h : n ≠ 37) : (pushEvent0 s e).lane n = s.lane n := by
  unfold pushEvent0
  split
  · rw [State.noteDrop, State.bump_eq, lane_setObj, State.lane_setLane, if_neg h, State.bump_eq, lane_setObj]
  · exact lane_appendLane_ne s _ h

theorem pushEvent_lane (s : State) (e : EventReq) {n : Nat} (h : n ≠ 37) : (pushEvent s e).lane n = s.lane n := by
  unfold pushEvent
  simp only
  split
  · split <;> split <;> simp only [pushEvent0_lane _ _ h]
  · exact pushEvent0_lane s e h

/-- An event takes its place in lane 37 and no other (R411). -/
theorem raise_lane (s : State) (code src : Nat) (l : List Fld) {n : Nat} (h : n ≠ 37) : (raise s code src l).lane n = s.lane n := by
  unfold raise
  simp only
  split
  · exact pushEvent_lane s _ h
  · rfl

/-- Whether lane 37 has room is read from the lanes alone. -/
theorem Writes.of_lanes {code : Nat} {l : List Fld} {s u t : State} (h : u.lanes = s.lanes) (k : Writes code l u t) : Writes code l s t :=
  fun room => k (by simpa only [roomFor, State.lane, h] using room)

/-! ### Guarded (R25) -/

/-- The objects that entering Guarded may change: lane counters, profile, capture and the state of the program. -/
def guardedObjects (i : Nat) : Bool := laneCounters i || i == 0x2002 || i == 0x5440 || i == 0xA000

/-- What entering Guarded may change. -/
abbrev GuardedStep := Unchanged [.doms, .frame, .lanes, .av, .evt, .prog] guardedObjects

theorem raise_guardedStep (s : State) (code src : Nat) (l : List Fld) : GuardedStep s (raise s code src l) :=
  (raise_unchanged s code src l).mono (by simp) (fun _ h => by simp [guardedObjects, h])

theorem faultSnapshot_guardedStep (s : State) (cause : Nat) : GuardedStep s (faultSnapshot s cause) := by
  unfold faultSnapshot
  simp only
  have obj (t : State) (k : Nat) (v : Int) (hk : k < 65536) : GuardedStep t (t.setObj 0x5440 k v) := setObj_unchanged_at _ t v rfl hk
  have av (t : State) (x : Avenue) : GuardedStep t { t with av := x } := (av_unchanged _ t x).mono (by simp) (fun _ h => h)
  split
  · exact obj s _ _ (by omega)
  · refine Unchanged.trans (Unchanged.ite ?_ (Unchanged.refl _ _ s)) (av _ _)
    exact ((obj s _ _ (by omega)).trans ((setDom_unchanged _ _ _ _ _).mono (by simp) (fun _ h => h))).trans (av _ _)

theorem changeProfile_guardedStep (s : State) (new reason : Int) : GuardedStep s (changeProfile s new reason) := by
  unfold changeProfile
  simp only
  have obj (t : State) (k : Nat) (v : Int) (hk : k < 65536) : GuardedStep t (t.setObj 0x2002 k v) := setObj_unchanged_at _ t v rfl hk
  split
  · exact Unchanged.refl _ _ s
  · exact (((obj s _ _ (by omega)).trans (obj _ _ _ (by omega))).trans ((frame_unchanged _ _ _).mono (by simp) (fun _ h => h))).trans
      (raise_guardedStep _ _ _ _)

theorem noteImposed_unchanged (f : Nat → Bool) (old s : State) (p : Nat × Option Rat × Option Rat) (charge : Bool) :
    Unchanged [.av] f s (noteImposed old s p charge) := by
  unfold noteImposed
  exact Unchanged.ite (av_unchanged f s _) (Unchanged.refl _ _ s)

theorem imposeLimits_unchanged (f : Nat → Bool) (s : State) (new : List (Nat × Option Rat × Option Rat)) :
    Unchanged [.av] f s (imposeLimits s new) := by
  have configured : Unchanged [.av] f s (refreshConfigured { s with av := { s.av with imposed := new } }) := av_unchanged f s _
  exact configured.trans (Unchanged.foldl _
    (fun t p => (noteImposed_unchanged f s t p true).trans (noteImposed_unchanged f s _ p false)) new _)

theorem holdProgram_guardedStep (s : State) : GuardedStep s (holdProgram s) := by
  unfold holdProgram
  have held : GuardedStep s ({ s with prog := { s.prog with tasks := [], safeDue := true } }.setObj 0xA000 2 3) :=
    ((prog_unchanged _ s _).mono (by simp) (fun _ h => h)).trans (setObj_unchanged_at _ _ _ rfl (by omega))
  split
  · exact Unchanged.refl _ _ s
  · exact held.trans (raise_guardedStep _ _ _ _)

theorem enterGuarded_guardedStep (s : State) (snap : Nat) (host : Bool) : GuardedStep s (enterGuarded s snap host) := by
  unfold enterGuarded
  simp only
  split
  · exact Unchanged.refl _ _ s
  · exact (((((frame_unchanged _ s _).mono (by simp) (fun _ h => h)).trans (raise_guardedStep _ _ _ _)).trans
      (faultSnapshot_guardedStep _ _)).trans (changeProfile_guardedStep _ _ _)).trans
      (((imposeLimits_unchanged _ _ _).mono (by simp) (fun _ h => h)).trans (holdProgram_guardedStep _))

/-- A cause of Guarded sets its bit of 0x2004:0 and may enter Guarded (R25). -/
theorem setCause_unchanged (s : State) (bit : Nat) :
    Unchanged [.doms, .frame, .lanes, .av, .evt, .prog] (fun i => guardedObjects i || i == 0x2004) s (setCause s bit) :=
  (setObj_unchanged_at _ s _ rfl (by omega)).trans ((enterGuarded_guardedStep _ _ _).mono (fun _ h => h) (fun _ h => by simp [h]))

/-! ### The role of the card (R299, R315, R373) -/

/-- A pending set that is discarded leaves the objects beside its own and the lanes' counters. -/
theorem discardPending_unchanged (s : State) (cause : Int) :
    Unchanged [.lanes, .evt, .host, .duplex] (fun i => laneCounters i || i == 0x2020) s (discardPending s cause) := by
  unfold discardPending
  simp only
  have obj (t : State) (k : Nat) (hk : k < 65536) :
      Unchanged [.lanes, .evt, .host, .duplex] (fun i => laneCounters i || i == 0x2020) t (t.setObj 0x2020 k 0) :=
    setObj_unchanged_at _ t 0 rfl hk
  split
  · exact Unchanged.refl _ _ s
  · refine Unchanged.trans ?_ ((raise_unchanged _ _ _ _).mono (by simp) (fun _ h => by simp [h]))
    have emptied := (((((host_unchanged (fun i => laneCounters i || i == 0x2020) s { s.host with pendSet := [] }).mono (by simp) (fun _ h => h)).trans
      (obj _ 2 (by omega))).trans (obj _ 3 (by omega))).trans (obj _ 4 (by omega)))
    exact Unchanged.ite (emptied.trans ((duplex_unchanged _ _ _).mono (by simp) (fun _ h => h))) emptied

/-- A discarded pending set keeps the restarts of the shadow run. -/
theorem discardPending_restarts (s : State) (cause : Int) : (discardPending s cause).duplex.restarts = s.duplex.restarts := by
  unfold discardPending
  simp only
  split
  · rfl
  · rw [raise_duplex]; split <;> rfl

/-- The objects a change of role may change. -/
def roleObjects (i : Nat) : Bool := guardedObjects i || i == 0x2004 || i == 0x2020 || i == 0x7001 || i == 0x7006

/-- The part of a change from role `old` that every new role has: the write of 0x7001:0 with its event and, from SUSPECT, the end of its
cause of Guarded (R299, R315). -/
def writeRole (s : State) (old new cause : Int) : State :=
  let t := raiseDup ((s.setObj 0x7001 0 new).setB 0x7006 4 false) 0x0B01 [d8 old, d8 new, d32 cause]
  if old = 4 then clearCause (raiseDup t 0x0B11 [d32 (((t.frameNo : Int) - t.duplex.suspectFrom) % 4294967296)]) 5 else t

/-- A change of role by its parts: from ACTIVE the pending set is discarded first, into SUSPECT a cause of Guarded follows. -/
theorem setRole_eq (s : State) (new cause : Int) : setRole s new cause =
    if s.obj 0x7001 0 = new then s else
    let t := writeRole (if s.obj 0x7001 0 = 3 then discardPending s 4 else s) (s.obj 0x7001 0) new cause
    if new = 4 then setCause { t with duplex := { t.duplex with suspectFrom := t.frameNo } } 5 else t := rfl

/-- Off ACTIVE and not into SUSPECT a change of role has no other part. -/
theorem setRole_plain (s : State) {new : Int} (cause : Int) (ho : s.obj 0x7001 0 ≠ 3) (hn : new ≠ 4) :
    setRole s new cause = if s.obj 0x7001 0 = new then s else writeRole s (s.obj 0x7001 0) new cause := by
  simp only [setRole_eq, if_neg ho, if_neg hn]

theorem writeRole_unchanged (s : State) (old new cause : Int) : Unchanged [.lanes, .evt] roleObjects s (writeRole s old new cause) := by
  have event (t : State) (c : Nat) (l : List Fld) : Unchanged [.lanes, .evt] roleObjects t (raiseDup t c l) :=
    (raise_unchanged t c 4 l).mono (fun _ h => h) (fun _ h => by simp [roleObjects, guardedObjects, h])
  have obj (t : State) (i k : Nat) (v : Int) (hi : roleObjects i = true) (hk : k < 65536) :
      Unchanged [.lanes, .evt] roleObjects t (t.setObj i k v) := setObj_unchanged_at _ t v hi hk
  have told : Unchanged [.lanes, .evt] roleObjects s
      (raiseDup ((s.setObj 0x7001 0 new).setB 0x7006 4 false) 0x0B01 [d8 old, d8 new, d32 cause]) :=
    ((obj s 0x7001 0 new rfl (by omega)).trans (obj _ 0x7006 4 0 rfl (by omega))).trans (event _ _ _)
  exact Unchanged.ite ((told.trans (event _ _ _)).trans (obj _ 0x2004 0 _ rfl (by omega))) told

theorem writeRole_role (s : State) (old new cause : Int) : (writeRole s old new cause).obj 0x7001 0 = new := by
  have told (t : State) (c : Nat) (l : List Fld) : (raiseDup t c l).obj 0x7001 0 = t.obj 0x7001 0 := raise_obj t c 4 l _ _ (by omega) (by omega)
  have written : ((s.setObj 0x7001 0 new).setB 0x7006 4 false).obj 0x7001 0 = new := by
    rw [State.setB_eq, State.obj_setObj_ne _ _ (by omega) (by omega) (by omega), State.obj_setObj_self]
  unfold writeRole
  simp only
  split
  · rw [clearCause, State.setObjBit_eq, State.obj_setObj_ne _ _ (by omega) (by omega) (by omega), told, told, written]
  · rw [told, written]

theorem writeRole_lane (s : State) (old new cause : Int) {n : Nat} (h : n ≠ 37) : (writeRole s old new cause).lane n = s.lane n := by
  have told (t : State) (c : Nat) (l : List Fld) : (raiseDup t c l).lane n = t.lane n := raise_lane t c 4 l h
  unfold writeRole
  simp only
  split
  · exact (told _ _ _).trans (told _ _ _)
  · exact told _ _ _

/-- A change of role leaves the objects beside the role, the comparison, the pending set and what Guarded changes. -/
theorem setRole_unchanged (s : State) (new cause : Int) :
    Unchanged [.doms, .frame, .lanes, .av, .duplex, .evt, .host, .prog] roleObjects s (setRole s new cause) := by
  have dropped : Unchanged [.doms, .frame, .lanes, .av, .duplex, .evt, .host, .prog] roleObjects s (discardPending s 4) :=
    (discardPending_unchanged s 4).mono (by simp)
      (fun i h => by simp only [Bool.or_eq_true] at h; rcases h with h | h <;> simp [roleObjects, guardedObjects, h])
  have suspect (t : State) : Unchanged [.doms, .frame, .lanes, .av, .duplex, .evt, .host, .prog] roleObjects t (setCause t 5) :=
    (setCause_unchanged t 5).mono (by simp) (fun i h => by simp only [Bool.or_eq_true] at h; rcases h with h | h <;> simp [roleObjects, h])
  rw [setRole_eq]
  refine Unchanged.ite (Unchanged.refl _ _ s) ?_
  have written := (Unchanged.ite (c := s.obj 0x7001 0 = 3) dropped (Unchanged.refl _ _ s)).trans
    ((writeRole_unchanged _ (s.obj 0x7001 0) new cause).mono (by simp) (fun _ h => h))
  exact Unchanged.ite ((written.trans ((duplex_unchanged _ _ _).mono (by simp) (fun _ h => h))).trans (suspect _)) written

/-- An object that a change of role leaves. -/
theorem setRole_obj (s : State) (new cause : Int) {i k : Nat} (hi : roleObjects i = false) (hk : k < 65536) :
    (setRole s new cause).obj i k = s.obj i k := (setRole_unchanged s new cause).2.2 i k hi hk

/-- After a change of role 0x7001:0 is the new role. -/
theorem setRole_role (s : State) (new cause : Int) : (setRole s new cause).obj 0x7001 0 = new := by
  have suspect (t : State) : (setCause t 5).obj 0x7001 0 = t.obj 0x7001 0 := (setCause_unchanged t 5).2.2 _ _ rfl (by omega)
  rw [setRole_eq]
  split
  · next same => exact same
  · simp only
    split
    · exact (suspect _).trans (writeRole_role _ _ _ _)
    · exact writeRole_role _ _ _ _

/-- A change of role keeps the restarts of the shadow run. -/
theorem setRole_restarts (s : State) (new cause : Int) : (setRole s new cause).duplex.restarts = s.duplex.restarts := by
  have suspect (t : State) : (setCause t 5).duplex = t.duplex := (setCause_unchanged t 5).1 .duplex (by decide)
  have written (t : State) : (writeRole t (s.obj 0x7001 0) new cause).duplex = t.duplex :=
    (writeRole_unchanged t _ new cause).1 .duplex (by decide)
  have dropped : (if s.obj 0x7001 0 = 3 then discardPending s 4 else s).duplex.restarts = s.duplex.restarts := by
    split
    · exact discardPending_restarts s 4
    · rfl
  rw [setRole_eq]
  split
  · rfl
  · simp only
    split
    · rw [suspect, written, dropped]
    · rw [written, dropped]

/-- Off ACTIVE and not into SUSPECT the pair, Avenue and the frame stay. -/
theorem setRole_unchanged_plain (s : State) {new : Int} (cause : Int) (ho : s.obj 0x7001 0 ≠ 3) (hn : new ≠ 4) :
    Unchanged [.lanes, .evt] roleObjects s (setRole s new cause) := by
  rw [setRole_plain s cause ho hn]
  exact Unchanged.ite (Unchanged.refl _ _ s) (writeRole_unchanged s _ _ _)

/-- Off ACTIVE and not into SUSPECT only the lane of the events differs. -/
theorem setRole_lane_plain (s : State) {new : Int} (cause : Int) {n : Nat} (ho : s.obj 0x7001 0 ≠ 3) (hn : new ≠ 4) (h : n ≠ 37) :
    (setRole s new cause).lane n = s.lane n := by
  rw [setRole_plain s cause ho hn]
  split
  · rfl
  · exact writeRole_lane s _ _ _ h

end Sys2Proof.Machine
end

section
/-!
The pair's comparison and the shadow run: `tally` by its branches, and the commands that end the shadow run or find no mirror
(R309, R311, R312, R325).
-/
namespace Sys2Proof.Machine

/-! ### The comparison of a frame (R311, R312, R325) -/

theorem countUp_of_lt {v : Int} (h : v < 4294967295) : countUp 32 v = v + 1 := by
  have top : ((2 ^ 32 : Nat) : Int) = 4294967296 := rfl
  rw [countUp, top, if_pos (by omega)]

theorem role_of_pair {s : State} (h : s.pairOn = true) : s.role = s.obj 0x7001 0 := by rw [State.role, if_pos h]

/-- Neither STANDBY nor in its shadow run a card compares nothing. -/
theorem tally_of_other {s : State} (dis : Bool) (h2 : s.role ≠ 2) (h1 : ¬ (s.role = 1 ∧ s.obj 0x7009 1 = 2)) : tally s dis = s := by
  unfold tally; exact if_pos ⟨h2, h1⟩

/-- What any disagreement frame writes into the two counts. -/
def countDisagreement (s : State) : State := (s.setObj 0x7006 1 0).bumpSat 0x7006 2 255

/-- What any agreeing frame writes into the two counts. -/
def countAgreement (s : State) : State := (s.bump 0x7006 1).setObj 0x7006 2 0

/-- Arbitration starts in the frame in course, and the disagreement stays raised (R312). -/
def startArbitration (s : State) : State :=
  (s.mapDup fun d => { d with arbitrate := some s.frameNo }).setB 0x7006 4 true

/-- The start of arbitration with its event (R312). -/
def tellArbitration (s : State) : State :=
  let t := startArbitration s
  raiseDup t 0x0B05 [d32 (t.obj 0x7006 3), d8 (t.obj 0x7006 2), d8 t.duplex.beat.faults, d8 (selfFaults t)]

theorem tally_standby_agrees {s : State} (h : s.role = 2) : tally s false = countAgreement s := by
  simp [tally, h, countAgreement]

theorem tally_standby_disagrees {s : State} (h : s.role = 2) : tally s true =
    if (countDisagreement s).obj 0x7006 2 = (countDisagreement s).obj 0x7000 4 then tellArbitration (countDisagreement s) else countDisagreement s := by
  simp [tally, h, countDisagreement, tellArbitration, startArbitration]

theorem tally_shadow_agrees {s : State} (h : s.role = 1) (hp : s.obj 0x7009 1 = 2) :
    tally s false = (countAgreement s).setObj 0x7009 3 (countUp 16 ((countAgreement s).obj 0x7009 3)) := by
  simp [tally, h, hp, countAgreement]

/-- The shadow run begins again, its restart counted (R325). -/
def restartShadowRun (s : State) : State :=
  (s.mapDup fun d => { d with restarts := s.duplex.restarts + 1 }).setObj 0x7009 3 0

theorem tally_shadow_disagrees {s : State} (h : s.role = 1) (hp : s.obj 0x7009 1 = 2) : tally s true =
    if 16 ≤ s.duplex.restarts + 1 then setRole (restartShadowRun (countDisagreement s)) 4 2 else restartShadowRun (countDisagreement s) := by
  simp [tally, h, hp, countDisagreement, restartShadowRun]

/-! What the two counts read after a frame. -/

theorem countAgreement_obj (s : State) {i k : Nat} (hi : i ≠ 0x7006) (hk : k < 65536) : (countAgreement s).obj i k = s.obj i k := by
  rw [countAgreement, State.bump_eq, State.obj_setObj_ne _ _ (by omega) hk (by omega), State.obj_setObj_ne _ _ (by omega) hk (by omega)]

theorem countAgreement_agreeing {s : State} (h : s.obj 0x7006 1 < 4294967295) : (countAgreement s).obj 0x7006 1 = s.obj 0x7006 1 + 1 := by
  rw [countAgreement, State.bump_eq, State.obj_setObj_ne _ _ (by omega) (by omega) (by omega), State.obj_setObj_self, countUp_of_lt h]

theorem countDisagreement_obj (s : State) {i k : Nat} (hi : i ≠ 0x7006 ∨ k ≠ 1 ∧ k ≠ 2) (hk : k < 65536) :
    (countDisagreement s).obj i k = s.obj i k := by
  rw [countDisagreement, State.bumpSat_eq, State.obj_setObj_ne _ _ (by omega) hk (by omega), State.obj_setObj_ne _ _ (by omega) hk (by omega)]

theorem countDisagreement_agreeing (s : State) : (countDisagreement s).obj 0x7006 1 = 0 := by
  rw [countDisagreement, State.bumpSat_eq, State.obj_setObj_ne _ _ (by omega) (by omega) (by omega), State.obj_setObj_self]

theorem countDisagreement_disagreeing {s : State} (h : s.obj 0x7006 2 < 255) :
    (countDisagreement s).obj 0x7006 2 = s.obj 0x7006 2 + 1 := by
  rw [countDisagreement, State.bumpSat_eq, State.obj_setObj_self, State.obj_setObj_ne _ _ (by omega) (by omega) (by omega), if_pos h]

/-! What the start of arbitration writes. -/

theorem tellArbitration_obj (s : State) {i k : Nat} (hl : i < 0x2100 ∨ 0x2102 < i) (hi : i ≠ 0x7006 ∨ k ≠ 4) (hk : k < 65536) :
    (tellArbitration s).obj i k = s.obj i k := by
  rw [tellArbitration, raiseDup, raise_obj _ _ _ _ _ _ hl hk, startArbitration, State.setB_eq,
    State.obj_setObj_ne _ _ (by omega) hk (by omega), State.obj_mapDup]

/-- The self-fault map is read from neither the counts of the comparison nor the arbitration. -/
theorem selfFaults_startArbitration (s : State) : selfFaults (startArbitration (countDisagreement s)) = selfFaults s := by
  have obj (i : Nat) (h : i ≠ 0x7006) (k : Nat) (hk : k < 65536) : (startArbitration (countDisagreement s)).obj i k = s.obj i k := by
    rw [startArbitration, State.setB_eq, State.obj_setObj_ne _ _ (by omega) hk (by omega), State.obj_mapDup,
      countDisagreement_obj s (.inl h) hk]
  have role : (startArbitration (countDisagreement s)).role = s.role := by
    unfold State.role; rw [obj 0x7001 (by omega) 0 (by omega)]; rfl
  unfold selfFaults State.isActive
  rw [role, obj 0x7000 (by omega) 4 (by omega), obj 0x5600 (by omega) 7 (by omega), obj 0x2004 (by omega) 0 (by omega)]
  rfl

/-- 0x0B05 carries the differing items, the count and both self-fault maps (R312). -/
theorem tellArbitration_writes {s : State} (h : s.hostUp = true) :
    Writes 0x0B05 [d32 (s.obj 0x7006 3), d8 ((countDisagreement s).obj 0x7006 2), d8 s.duplex.beat.faults, d8 (selfFaults s)] s
      (tellArbitration (countDisagreement s)) := by
  have items : (startArbitration (countDisagreement s)).obj 0x7006 3 = s.obj 0x7006 3 := by
    rw [startArbitration, State.setB_eq, State.obj_setObj_ne _ _ (by omega) (by omega) (by omega), State.obj_mapDup,
      countDisagreement_obj s (by omega) (by omega)]
  have count : (startArbitration (countDisagreement s)).obj 0x7006 2 = (countDisagreement s).obj 0x7006 2 := by
    rw [startArbitration, State.setB_eq, State.obj_setObj_ne _ _ (by omega) (by omega) (by omega), State.obj_mapDup]
  rw [← items, ← count, ← selfFaults_startArbitration s]
  exact Writes.of_lanes (u := startArbitration (countDisagreement s)) rfl (raise_writes _ 0x0B05 4 _ h)

/-- A disagreement frame on a STANDBY, below K and at K (R312). -/
theorem tally_standby_disagreement {s : State} (hp : s.pairOn = true) (hr : s.obj 0x7001 0 = 2) (hc : s.obj 0x7006 2 < 255) :
    (tally s true).obj 0x7006 1 = 0 ∧ (tally s true).obj 0x7006 2 = s.obj 0x7006 2 + 1
      ∧ (s.obj 0x7006 2 + 1 ≠ s.obj 0x7000 4 → (tally s true).duplex = s.duplex ∧ (tally s true).lanes = s.lanes)
      ∧ (s.obj 0x7006 2 + 1 = s.obj 0x7000 4 → (tally s true).duplex.arbitrate = some s.frameNo
          ∧ (s.hostUp = true → Writes 0x0B05 [d32 (s.obj 0x7006 3), d8 (s.obj 0x7000 4), d8 s.duplex.beat.faults, d8 (selfFaults s)] s
              (tally s true))) := by
  have count := countDisagreement_disagreeing hc
  have limit : (countDisagreement s).obj 0x7000 4 = s.obj 0x7000 4 := countDisagreement_obj s (by omega) (by omega)
  have frame : (countDisagreement s).frameNo = s.frameNo := by
    rw [State.frameNo, State.objN, countDisagreement_obj s (by omega) (by omega)]; rfl
  rw [tally_standby_disagrees ((role_of_pair hp).trans hr), count, limit]
  by_cases hK : s.obj 0x7006 2 + 1 = s.obj 0x7000 4
  · rw [if_pos hK, tellArbitration_obj _ (by omega) (by omega) (by omega), tellArbitration_obj _ (by omega) (by omega) (by omega)]
    refine ⟨countDisagreement_agreeing s, count, fun below => absurd hK below, fun _ => ⟨?_, fun up => ?_⟩⟩
    · rw [tellArbitration, raiseDup, raise_duplex, ← frame]; rfl
    · rw [← hK, ← count]; exact tellArbitration_writes up
  · rw [if_neg hK]
    exact ⟨countDisagreement_agreeing s, count, fun _ => ⟨rfl, rfl⟩, fun reached => absurd reached hK⟩

/-- A frame of the shadow run (R325). -/
theorem tally_shadow_run {s : State} (hp : s.pairOn = true) (hr : s.obj 0x7001 0 = 1) (hs : s.obj 0x7009 1 = 2) :
    (tally s false).obj 0x7009 3 = countUp 16 (s.obj 0x7009 3) ∧ (tally s true).obj 0x7009 3 = 0
      ∧ (tally s true).duplex.restarts = s.duplex.restarts + 1
      ∧ (tally s true).obj 0x7001 0 = if 16 ≤ s.duplex.restarts + 1 then 4 else 1 := by
  have role := (role_of_pair hp).trans hr
  have role' : (restartShadowRun (countDisagreement s)).obj 0x7001 0 = 1 := by
    rw [restartShadowRun, State.obj_setObj_ne _ _ (by omega) (by omega) (by omega), State.obj_mapDup,
      countDisagreement_obj s (by omega) (by omega), hr]
  have count : (restartShadowRun (countDisagreement s)).obj 0x7009 3 = 0 := by rw [restartShadowRun, State.obj_setObj_self]
  rw [tally_shadow_agrees role hs, State.obj_setObj_self, countAgreement_obj s (by omega) (by omega), tally_shadow_disagrees role hs]
  refine ⟨rfl, ?_⟩
  split
  · exact ⟨(setRole_obj _ _ _ rfl (by omega)).trans count, setRole_restarts _ _ _, setRole_role _ _ _⟩
  · exact ⟨count, rfl, role'⟩

/-! ### The end of the shadow run and a missing mirror -/

theorem exec_shadowRunComplete (s : State) : exec .shadowRunComplete s = execShadowRunComplete s := rfl

theorem exec_mirrorMissing (s : State) : exec .mirrorMissing s = execMirrorMissing s := rfl

theorem onHost_up {s : State} (f : State → State) (h : s.hostUp = true) : onHost s f = .next (f s) := by rw [onHost, if_pos h]

/-- What a host command does not change with the domain up it does not change at all. -/
theorem onHost_same {s : State} {f : State → State} (h : f s = s) : onHost s f = .next s := by unfold onHost; rw [h, ite_self]

/-- The complete count makes a SHADOW card STANDBY (R325). -/
theorem shadowRunComplete_standby {s : State} (hu : s.hostUp = true) (hp : s.pairOn = true) (hr : s.obj 0x7001 0 = 1) (hs : s.obj 0x7009 1 = 2)
    (hc : s.obj 0x7000 7 ≤ s.obj 0x7009 3) : Answers .shadowRunComplete s fun t => t.obj 0x7001 0 = 2 ∧ t.obj 0x7009 1 = 3 := by
  refine ⟨_, (exec_shadowRunComplete s).trans (onHost_up _ hu), ?_⟩
  rw [if_pos ⟨hp, (role_of_pair hp).trans hr, hs, hc⟩]
  simp only [raiseDup]
  rw [raise_obj _ _ _ _ _ _ (by omega) (by omega), raise_obj _ _ _ _ _ _ (by omega) (by omega), setRole_role,
    setRole_obj _ _ _ rfl (by omega), State.obj_setObj_self]
  exact ⟨rfl, rfl⟩

/-- Out of the shadow run, or before its count is complete, nothing changes. -/
theorem shadowRunComplete_unmet {s : State} (h : s.obj 0x7009 1 ≠ 2 ∨ s.obj 0x7009 3 < s.obj 0x7000 7) :
    exec .shadowRunComplete s = .next s := by
  rw [exec_shadowRunComplete, execShadowRunComplete]
  exact onHost_same (if_neg fun ⟨_, _, hs, hc⟩ => h.elim (· hs) (fun below => absurd hc (Int.not_le.mpr below)))

/-- A frame without a mirror counts in 0x7008:4 and is compared as a disagreement (R309). -/
theorem mirrorMissing_counts {s : State} (hu : s.hostUp = true) (hp : s.pairOn = true) (hr : s.role = 1 ∨ s.role = 2 ∨ s.role = 4)
    (hm : s.duplex.mirrorFrame ≠ some ((s.frameNo + 4294967295) % 4294967296)) :
    exec .mirrorMissing s = .next (tally (s.bump 0x7008 4) true) := by
  rw [exec_mirrorMissing, execMirrorMissing, onHost_up _ hu]
  simp only [hp, hr, hm, Bool.true_eq_false, not_true_eq_false, or_self, if_false]

theorem mirrorMissing_present {s : State} (hm : s.duplex.mirrorFrame = some ((s.frameNo + 4294967295) % 4294967296)) :
    exec .mirrorMissing s = .next s := by
  rw [exec_mirrorMissing, execMirrorMissing]
  exact onHost_same (if_pos (.inr (.inr hm)))

/-- A SUSPECT card counts the frame and compares nothing. -/
theorem tally_missing_suspect {s : State} (hp : s.pairOn = true) (hr : s.obj 0x7001 0 = 4) :
    tally (s.bump 0x7008 4) true = s.bump 0x7008 4 := by
  have role : (s.bump 0x7008 4).role = 4 := by
    rw [role_of_pair (show (s.bump 0x7008 4).pairOn = true from hp), State.bump_eq,
      State.obj_setObj_ne _ _ (by omega) (by omega) (by omega), hr]
  exact tally_of_other true (by omega) (by omega)

/-- Settles O30, a clause per kind of frame: each branch of `tally` by its counts, and the two commands by their guards. -/
theorem pairComparison : Obligations.PairComparison := by
  unfold Obligations.PairComparison
  refine ⟨fun s hp hr hc => ?agreeing, fun s hp hr hc => tally_standby_disagreement hp hr hc, fun s hp hr hs => tally_shadow_run hp hr hs,
    fun s hu hp hr hs hc => shadowRunComplete_standby hu hp hr hs hc, fun s _ h => shadowRunComplete_unmet h, by decide +kernel,
    fun s hu hp hr hm => ?suspect, fun s hu hp hr hm => ?standby, fun s hm => mirrorMissing_present hm⟩
  case agreeing =>
    rw [tally_standby_agrees ((role_of_pair hp).trans hr)]
    exact ⟨countAgreement_agreeing hc, State.obj_setObj_self _ _ _ _, rfl, rfl⟩
  case suspect =>
    rw [mirrorMissing_counts hu hp (.inr (.inr ((role_of_pair hp).trans hr))) hm, tally_missing_suspect hp hr]
  case standby => exact mirrorMissing_counts hu hp (.inr (.inl ((role_of_pair hp).trans hr))) hm

end Sys2Proof.Machine
end

section
/-!
The epoch of a takeover and the command frame that carries it (R220, R221, R223, R316 to R318).
-/
namespace Sys2Proof.Machine

/-! ### The epoch of a takeover (R223, R317) -/

/-- With room below the largest epoch the card takes the next number, or the one after where its slot does not send that one. -/
theorem epochAbove_of_room {s : State} {f : Nat} (ht : f + 2 ≤ epochTop s) : epochAbove s f =
    if s.pairOn ∧ (((f + 1) % 2 = 1 ∧ s.obj 0x7001 1 = 0) ∨ ((f + 1) % 2 = 0 ∧ s.obj 0x7001 1 = 1)) then f + 2 else f + 1 := by
  unfold epochAbove
  simp only
  split
  · exact if_neg (by omega)
  · exact if_neg (by omega)

/-- On slot A the epoch above `f` is the next even number. -/
theorem epochAbove_slotA {s : State} {f : Nat} (hp : s.pairOn = true) (ht : f + 2 ≤ epochTop s) (hs : s.obj 0x7001 1 = 0) :
    epochAbove s f = if (f + 1) % 2 = 1 then f + 2 else f + 1 := by simp [epochAbove_of_room ht, hp, hs]

/-- On slot B the epoch above `f` is the next odd number. -/
theorem epochAbove_slotB {s : State} {f : Nat} (hp : s.pairOn = true) (ht : f + 2 ≤ epochTop s) (hs : s.obj 0x7001 1 = 1) :
    epochAbove s f = if (f + 1) % 2 = 0 then f + 2 else f + 1 := by simp [epochAbove_of_room ht, hp, hs]

theorem epochAbove_slotA_even {s : State} {f : Nat} (hp : s.pairOn = true) (ht : f + 2 ≤ epochTop s) (hs : s.obj 0x7001 1 = 0) :
    epochAbove s f % 2 = 0 := by
  rw [epochAbove_slotA hp ht hs]; split <;> omega

theorem epochAbove_slotB_odd {s : State} {f : Nat} (hp : s.pairOn = true) (ht : f + 2 ≤ epochTop s) (hs : s.obj 0x7001 1 = 1) :
    epochAbove s f % 2 = 1 := by
  rw [epochAbove_slotB hp ht hs]; split <;> omega

/-- The card of a pair takes its epoch above its own, the partner's and the converter's. -/
theorem takeEpoch_epoch {s : State} (hp : s.pairOn = true) :
    (takeEpoch s).obj 0x5620 1 = (epochAbove s (max (s.objN 0x5620 1) (max s.duplex.beat.epoch (s.objN 0x5620 2))) : Nat) := by
  simp only [takeEpoch, hp, if_true]
  exact State.obj_setObj_self _ _ _ _

/-- Taking the epoch changes 0x5620:1 and Avenue's own fields. -/
theorem takeEpoch_unchanged (s : State) : Unchanged [.av] (fun i => i == 0x5620) s (takeEpoch s) :=
  ((setObj_unchanged_at [.av] s _ rfl (by omega)).trans (av_unchanged _ _ _)).trans (av_unchanged _ _ _)

theorem takeEpoch_epochDue (s : State) : (takeEpoch s).av.conv.epochDue = false := rfl

/-! ### A takeover (R316 to R318) -/

/-- The state of a takeover before its change of role: the epoch taken, and nothing of the pair waiting any more. -/
def takeoverReady (s : State) (trigger : Int) : State :=
  let from_ : Option Nat := if trigger = 4 then none else (takeEpoch s).duplex.beatFrame.map (fun n => (n + 3) % 4294967296)
  (takeEpoch s).mapDup fun d => { d with exclusive := from_, arbitrate := none, yield := none, halted := false, handover := none }

/-- The records of a takeover: its count, its trigger, the retained pages not sent, and 0x0B04 (R316). -/
def recordTakeover (s : State) (trigger age : Int) : State :=
  let t := ((s.bump 0x700A 1).setObj 0x700A 2 trigger).setObj 0x700A 3 s.prog.dirty.length
  raiseDup t 0x0B04 [d8 trigger, d32 (t.obj 0x5620 1), d8 age]

theorem takeover_eq (s : State) (trigger : Int) :
    takeover s trigger = recordTakeover (setRole (takeoverReady s trigger) 3 (if trigger = 4 then 5 else 3)) trigger (beatAge s) := rfl

theorem takeoverReady_unchanged (s : State) (trigger : Int) :
    Unchanged [.av, .duplex] (fun i => i == 0x5620) s (takeoverReady s trigger) :=
  ((takeEpoch_unchanged s).mono (by simp) (fun _ h => h)).trans ((duplex_unchanged _ _ _).mono (by simp) (fun _ h => h))

theorem recordTakeover_unchanged (s : State) (trigger age : Int) :
    Unchanged [.lanes, .evt] (fun i => laneCounters i || i == 0x700A) s (recordTakeover s trigger age) := by
  have obj (t : State) (k : Nat) (v : Int) (hk : k < 65536) :
      Unchanged [.lanes, .evt] (fun i => laneCounters i || i == 0x700A) t (t.setObj 0x700A k v) := setObj_unchanged_at _ t v rfl hk
  exact (((obj s 1 _ (by omega)).trans (obj _ 2 _ (by omega))).trans (obj _ 3 _ (by omega))).trans
    ((raise_unchanged _ _ _ _).mono (fun _ h => h) (fun _ h => by simp [h]))

/-- After the epoch has been taken, a card that was not ACTIVE changes its role and its records only. -/
theorem takeover_unchanged_ready {s : State} (trigger : Int) (hr : s.obj 0x7001 0 ≠ 3) :
    Unchanged [.lanes, .evt] (fun i => roleObjects i || i == 0x700A) (takeoverReady s trigger) (takeover s trigger) := by
  have old : (takeoverReady s trigger).obj 0x7001 0 ≠ 3 := by
    rwa [(takeoverReady_unchanged s trigger).2.2 _ _ rfl (by omega)]
  rw [takeover_eq]
  exact ((setRole_unchanged_plain _ _ old (by omega)).mono (fun _ h => h) (fun _ h => by simp [h])).trans
    ((recordTakeover_unchanged _ _ _).mono (fun _ h => h)
      (fun i h => by simp only [Bool.or_eq_true] at h; rcases h with h | h <;> simp [roleObjects, guardedObjects, h]))

theorem takeover_role (s : State) (trigger : Int) : (takeover s trigger).obj 0x7001 0 = 3 := by
  rw [takeover_eq, (recordTakeover_unchanged _ _ _).2.2 _ _ rfl (by omega), setRole_role]

/-- The card that takes over has its new epoch in 0x5620:1. -/
theorem takeover_epoch {s : State} (trigger : Int) (hp : s.pairOn = true) (hr : s.obj 0x7001 0 ≠ 3) :
    (takeover s trigger).obj 0x5620 1 = (epochAbove s (max (s.objN 0x5620 1) (max s.duplex.beat.epoch (s.objN 0x5620 2))) : Nat) := by
  rw [(takeover_unchanged_ready trigger hr).2.2 _ _ rfl (by omega), ← takeEpoch_epoch hp]
  rfl

/-- What its loops put into a lane before the takeover is kept. -/
theorem takeover_lane {s : State} (trigger : Int) {n : Nat} (hr : s.obj 0x7001 0 ≠ 3) (h : n ≠ 37) : (takeover s trigger).lane n = s.lane n := by
  have ready := takeoverReady_unchanged s trigger
  have recorded (t : State) (age : Int) : (recordTakeover t trigger age).lane n = t.lane n := raise_lane _ _ _ _ h
  rw [takeover_eq, recorded, setRole_lane_plain _ _ (by rwa [ready.2.2 _ _ rfl (by omega)]) (by omega) h, State.lane, ready.1 .lanes (by decide)]
  rfl

/-- The card that takes over drives, unless its string domain is released. -/
theorem takeover_drives {s : State} (trigger : Int) (hp : s.pairOn = true) (hr : s.obj 0x7001 0 ≠ 3) (hf : s.frame.released = 0) :
    (takeover s trigger).drives = true := by
  have kept := takeover_unchanged_ready trigger hr
  have ready := takeoverReady_unchanged s trigger
  have pair : (takeover s trigger).pairOn = true := ((kept.1 .pairOn (by decide)).trans (ready.1 .pairOn (by decide))).trans hp
  have frame : (takeover s trigger).frame = s.frame := (kept.1 .frame (by decide)).trans (ready.1 .frame (by decide))
  have duplex : (takeover s trigger).duplex = (takeoverReady s trigger).duplex := kept.1 .duplex (by decide)
  have halted : (takeoverReady s trigger).duplex.halted = false := rfl
  simp [State.drives, State.isActive, role_of_pair pair, takeover_role, frame, hf, duplex, halted]

/-- Its epoch is taken already when it sends its first command. -/
theorem takeover_epochDue {s : State} (trigger : Int) (hr : s.obj 0x7001 0 ≠ 3) : (takeover s trigger).av.conv.epochDue = false := by
  rw [(takeover_unchanged_ready trigger hr).1 .av (by decide)]; exact takeEpoch_epochDue s

theorem takeover_stringUp {s : State} (trigger : Int) (hr : s.obj 0x7001 0 ≠ 3) : (takeover s trigger).stringUp = s.stringUp :=
  ((takeover_unchanged_ready trigger hr).1 .stringUp (by decide)).trans ((takeoverReady_unchanged s trigger).1 .stringUp (by decide))

/-! ### The command frame (R220, R221) -/

theorem exec_converterCommandSend (j : Fin 16) (s : State) : exec (.converterCommandSend j) s = execConverterCommandSend j s := rfl

/-- Where lane 5 ends with the element of the slot itself, the command carries that element's fields. -/
theorem commandFields_own {s : State} {j : Nat} {sp ch di rep : Int} {l : List Elem} (h : (s.lane 5).elems = l ++ [.nums [sp, ch, di, j, rep]]) :
    commandFields s j = ((heldSetpoint s sp, ch, di, decide (rep = 1)), s.setLane 5 { s.lane 5 with elems := [] }) := by
  simp only [commandFields, laneDrain, h, List.getLast?_concat, if_true]
  rfl

/-- A card that drives sends the slot's element as one command frame. -/
theorem converterCommandSend_own {s : State} {j : Fin 16} {sp ch di rep : Int} {l : List Elem} (hu : s.stringUp = true) (hd : s.drives = true)
    (he : s.av.conv.epochDue = false) (h : (s.lane 5).elems = l ++ [.nums [sp, ch, di, j.val, rep]]) :
    Answers (.converterCommandSend j) s fun t =>
      t.sent = s.sent ++ [⟨17, commandFrame s j (heldSetpoint s sp, ch, di, decide (rep = 1))⟩] := by
  have drained : (s.setLane 5 { s.lane 5 with elems := [] }).drives = true := hd
  refine ⟨_, by rw [exec_converterCommandSend, execConverterCommandSend, onString, if_pos hu], ?_⟩
  simp only [hd, he, Bool.false_eq_true, and_false, if_false, commandFields_own h, drained, if_true]
  rfl

theorem leBytes_length (n : Nat) (v : Int) : (leBytes n v).length = n := by
  induction n generalizing v with
  | zero => rfl
  | succ n ih => rw [leBytes, List.length_cons, ih]

/-- A command frame: two bytes, the epoch, the set-point, and the rest. -/
theorem commandFrame_head (s : State) (j : Nat) (f : Int × Int × Int × Bool) :
    ∃ kind ctl : Byte, ∃ rest, commandFrame s j f = kind :: ctl :: (leBytes 4 (s.obj 0x5620 1) ++ (leBytes 4 f.1 ++ rest)) := by
  simp only [commandFrame, List.append_assoc, List.cons_append, List.nil_append]
  exact ⟨_, _, _, rfl⟩

/-- Bytes 2 to 5 of a command frame are 0x5620:1. -/
theorem commandFrame_epoch (s : State) (j : Nat) (f : Int × Int × Int × Bool) :
    ((commandFrame s j f).drop 2).take 4 = leBytes 4 (s.obj 0x5620 1) := by
  obtain ⟨_, _, _, h⟩ := commandFrame_head s j f
  rw [h]
  exact List.take_left' (leBytes_length 4 _)

/-- Bytes 6 to 9 of a command frame are the set-point. -/
theorem commandFrame_setpoint (s : State) (j : Nat) (f : Int × Int × Int × Bool) :
    ((commandFrame s j f).drop 6).take 4 = leBytes 4 f.1 := by
  obtain ⟨kind, ctl, rest, h⟩ := commandFrame_head s j f
  have behind : (commandFrame s j f).drop 6 = leBytes 4 f.1 ++ rest := by
    rw [h]; exact List.drop_left' (leBytes_length 4 _)
  rw [behind, List.take_left' (leBytes_length 4 _)]

/-- Settles O32: the parity of the epoch by slot, the takeover by its three parts, and the command frame by its bytes. -/
theorem takeoverEpoch : Obligations.TakeoverEpoch := by
  unfold Obligations.TakeoverEpoch
  refine ⟨fun s f hp ht hs => epochAbove_slotA hp ht hs, fun s f hp ht hs => epochAbove_slotB hp ht hs,
    fun s u f g hp hq hs hu hf hg => ?parity,
    fun s tr hp hr => ⟨takeover_epoch tr hp hr, takeover_role s tr, takeover_lane tr hr (by omega)⟩,
    fun s tr j sp ch di rep l hp hr hf hu h => ?command, fun s j f => ⟨commandFrame_epoch s j f, commandFrame_setpoint s j f⟩⟩
  case parity =>
    have even := epochAbove_slotA_even hp hf hs
    have odd := epochAbove_slotB_odd hq hg hu
    exact ⟨even, odd, by omega⟩
  case command =>
    have kept : ((takeover s tr).lane 5).elems = l ++ [.nums [sp, ch, di, j.val, rep]] := by rw [takeover_lane tr hr (by omega), h]
    exact converterCommandSend_own ((takeover_stringUp tr hr).trans hu) (takeover_drives tr hp hr hf) (takeover_epochDue tr hr) kept

end Sys2Proof.Machine
end

section
/-!
Alley's readings: what a command frame that has come in leaves, a reading as the response it holds, and the response read (R382 to
R384, R421).
-/
namespace Sys2Proof.Machine

/-! ### A command frame that has come in (R382) -/

/-- A command frame that comes in changes its own count and the mark of lane 33. -/
theorem alleyIn_unchanged (P : List Part) (s : State) : Unchanged P (fun i => laneCounters i || i == 0x1400) s (alleyIn s) := by
  have counted : Unchanged P (fun i => laneCounters i || i == 0x1400) s (s.bump 0x1400 3) := setObj_unchanged_at P s _ rfl (by omega)
  exact Unchanged.ite (counted.trans ((passLane_unchanged P _ 33 (by omega)).mono (fun _ h => h) (fun _ h => by simp [h]))) counted

@[simp] theorem alleyIn_obj (s : State) (i k : Nat) (hi : i < 0x2100 ∨ 0x2102 < i) (hc : i ≠ 0x1400) (hk : k < 65536) :
    (alleyIn s).obj i k = s.obj i k :=
  (alleyIn_unchanged [] s).2.2 i k (by simp [laneCounters_false hi, hc]) hk

@[simp] theorem alleyIn_evt (s : State) : (alleyIn s).evt = s.evt := (alleyIn_unchanged [] s).1 .evt (by decide)
@[simp] theorem alleyIn_pwr (s : State) : (alleyIn s).pwr = s.pwr := (alleyIn_unchanged [] s).1 .pwr (by decide)
@[simp] theorem alleyIn_alley (s : State) : (alleyIn s).alley = s.alley := (alleyIn_unchanged [] s).1 .alley (by decide)
@[simp] theorem alleyIn_hostUp (s : State) : (alleyIn s).hostUp = s.hostUp := (alleyIn_unchanged [] s).1 .hostUp (by decide)
@[simp] theorem alleyIn_stringUp (s : State) : (alleyIn s).stringUp = s.stringUp := (alleyIn_unchanged [] s).1 .stringUp (by decide)

/-- The areas hold the same records after a command frame has come in. -/
@[simp] theorem recordOf_alleyIn (s : State) (num : Nat) : recordOf (alleyIn s) num = recordOf s num := by
  rw [recordOf, recordOf, alleyIn_evt]

/-! ### A command that is carried out (R382, R384) -/

/-- A frame with the right CRC and length, its domain up and the lock open where it needs them, is carried out. -/
theorem alleyCmd_carriedOut {s : State} {code len : Nat} {p : List Byte} {k : BitVec 8} {onStandby needsLock : Bool} (f : State → State)
    (up : hkUp s = true) (crc : k.toNat = cmdCrc (alleyIn s) code p) (fits : p.length = len) (domain : s.hostUp = true ∨ onStandby = true)
    (opened : needsLock = true → s.alley.lock = true) : alleyCmd s code p k len onStandby needsLock f = f (alleyIn s) := by
  have served : ¬ ((alleyIn s).hostUp = false ∧ onStandby = false) := by
    rw [alleyIn_hostUp]; rintro ⟨h, o⟩; simp [h, o] at domain
  have unlocked : ¬ (needsLock = true ∧ (alleyIn s).alley.lock = false) := by
    rw [alleyIn_alley]; rintro ⟨n, l⟩; simp [opened n] at l
  unfold alleyCmd
  simp only
  rw [if_neg (by simp [up]), if_neg (fun wrong => wrong crc), if_neg served, if_neg (fun wrong => wrong fits), if_neg unlocked]

/-- A reading is answered with what it does on the state its frame has come into; no reading needs the lock. -/
theorem answers_reading {s : State} {c : Instr} {code len : Nat} {p : List Byte} {k : BitVec 8} {onStandby : Bool} {f : State → State}
    {P : State → Prop} (run : exec c s = .next (alleyCmd s code p k len onStandby false f)) (up : hkUp s = true)
    (crc : k.toNat = cmdCrc (alleyIn s) code p) (fits : p.length = len) (domain : s.hostUp = true ∨ onStandby = true)
    (holds : P (f (alleyIn s))) : Answers c s P :=
  ⟨_, run.trans (congrArg _ (alleyCmd_carriedOut f up crc fits domain (by simp))), holds⟩

@[simp] theorem holdResponse_response (s : State) (st : Nat) (b : List Byte) : (holdResponse s st b).alley.response = some (st, b) := rfl

/-! ### The flags of HEALTH (R383) -/

/-- The flags byte of HEALTH: main power, host domain, string domain, a trip latched. -/
def healthFlags (s : State) : Int :=
  (if s.pwr.mainUp then 1 else 0) + (if s.hostUp then 2 else 0) + (if s.hostUp ∧ s.stringUp then 4 else 0)
    + (if s.obj 0x6801 0 ≠ 0 then 8 else 0)

/-- Each flag stands at its own bit. -/
theorem healthFlags_bits (s : State) :
    bitOf (healthFlags s) 0 = s.pwr.mainUp ∧ bitOf (healthFlags s) 1 = s.hostUp ∧ bitOf (healthFlags s) 2 = (s.hostUp && s.stringUp)
      ∧ bitOf (healthFlags s) 3 = decide (s.obj 0x6801 0 ≠ 0) := by
  have bits : ∀ main host string trip : Bool,
      let f : Int := (if main then 1 else 0) + (if host then 2 else 0) + (if host ∧ string then 4 else 0) + (if trip then 8 else 0)
      bitOf f 0 = main ∧ bitOf f 1 = host ∧ bitOf f 2 = (host && string) ∧ bitOf f 3 = trip := by decide
  simpa only [healthFlags, decide_eq_true_eq] using bits s.pwr.mainUp s.hostUp s.stringUp (decide (s.obj 0x6801 0 ≠ 0))

theorem healthFlags_alleyIn (s : State) : healthFlags (alleyIn s) = healthFlags s := by simp [healthFlags]

/-! ### The readings -/

theorem identity_response {s : State} {k : BitVec 8} (up : hkUp s = true) (crc : k.toNat = cmdCrc (alleyIn s) 0x01 []) :
    Answers (.identity [] k) s fun t => ∃ b, t.alley.response = some (0, asciiBytes "SC576-01" ++ serialBytes ++ b) := by
  refine answers_reading rfl up crc rfl (.inr rfl) ?_
  simp only [holdResponse_response, List.append_assoc]
  exact ⟨_, rfl⟩

theorem health_response {s : State} {k : BitVec 8} (up : hkUp s = true) (crc : k.toNat = cmdCrc (alleyIn s) 0x02 []) :
    Answers (.health [] k) s fun t => ∃ b, t.alley.response = some (0, d8 (healthFlags s) ++ d8 (s.obj 0x2040 1) ++ b) := by
  refine answers_reading rfl up crc rfl (.inr rfl) ?_
  rw [← healthFlags_alleyIn s, ← alleyIn_obj s 0x2040 1 (by omega) (by omega) (by omega)]
  simp only [holdResponse_response, List.append_assoc]
  exact ⟨_, rfl⟩

/-- EVENT_READ of a number that no area holds is answered with status 7, of one that an area holds with the quarter asked for (R421). -/
theorem eventRead_response {s : State} {p : List Byte} {k : BitVec 8} (up : hkUp s = true) (crc : k.toNat = cmdCrc (alleyIn s) 0x04 p)
    (fits : p.length = 5) : Answers (.eventRead p k) s fun t =>
      (recordOf s (getLe p 0 4) = none → t.alley.response = some (7, []))
      ∧ (∀ r, recordOf s (getLe p 0 4) = some r → getLe p 4 1 ≤ 3 →
          t.alley.response = some (0, BitVec.ofNat 8 (getLe p 4 1) :: sliceAt r (16 * getLe p 4 1) 16)) := by
  refine answers_reading rfl up crc fits (.inr rfl) ⟨fun absent => ?_, fun r held quarter => ?_⟩
  · simp only [recordOf_alleyIn, absent, holdResponse_response]
  · simp only [recordOf_alleyIn, held, quarter, if_true, holdResponse_response]

/-- OBJECT_READ of a value that its frame can carry holds it as the object server reads it (R383). -/
theorem objectRead_response {s : State} {p : List Byte} {k : BitVec 8} (host : s.hostUp = true) (up : hkUp s = true)
    (crc : k.toNat = cmdCrc (alleyIn s) 0x20 p) (fits : p.length = 4)
    (short : (readItem (alleyIn s) false (getLe p 0 2) (getLe p 2 2)).2.2.length ≤ 24) :
    Answers (.objectRead p k) s fun t => ∃ e ty v, readItem (alleyIn s) false (getLe p 0 2) (getLe p 2 2) = (e, ty, v)
      ∧ t.alley.response = some (0, [BitVec.ofNat 8 e, BitVec.ofNat 8 ty, BitVec.ofNat 8 v.length] ++ v) := by
  rcases read : readItem (alleyIn s) false (getLe p 0 2) (getLe p 2 2) with ⟨e, ty, v⟩
  have carried : ¬ 24 < v.length := Nat.not_lt.mpr (by simpa only [read] using short)
  refine answers_reading rfl up crc fits (.inl host) ⟨e, ty, v, rfl, ?_⟩
  simp only [read, if_neg carried, holdResponse_response]

/-- With the mailbox empty, reading the response sends the one held, or status 8 (R382). -/
theorem alleyResponseRead_sends {s : State} (up : hkUp s = true) (empty : s.alley.mailbox = none) :
    exec .alleyResponseRead s = .next (alleyOut s (s.alley.response.getD (8, [])).1 (s.alley.response.getD (8, [])).2) := by
  change execAlleyResponseRead s = _
  unfold execAlleyResponseRead
  rw [if_neg (by simp [up])]
  simp only [empty]
  cases s.alley.response <;> rfl

/-- Settles O45: each reading by the response it holds, and the response read by what is held. -/
theorem alleyReadings : Obligations.AlleyReadings := by
  unfold Obligations.AlleyReadings
  refine ⟨fun s k up crc => identity_response up crc, ?health, ?newest, fun s p k up crc fits => eventRead_response up crc fits,
    ?lifecycle, ?bank, fun s p k host up crc fits short => objectRead_response host up crc fits short, ?held, ?unheld⟩
  case health =>
    intro s k up crc
    obtain ⟨t, run, b, response⟩ := health_response up crc
    exact ⟨t, run, healthFlags s, b, response, healthFlags_bits s⟩
  case newest => exact fun s k up crc => answers_reading rfl up crc rfl (.inr rfl) (by simp)
  case lifecycle => exact fun s k up crc => answers_reading rfl up crc rfl (.inr rfl) (by simp)
  case bank => exact fun s k up crc => answers_reading rfl up crc rfl (.inr rfl) (by simp)
  case held => intro s st p up empty held; rw [alleyResponseRead_sends up empty, held]; rfl
  case unheld => intro s up empty nothing; rw [alleyResponseRead_sends up empty, nothing]; rfl

end Sys2Proof.Machine
end
